-- ==== Sys2Proof/Word.lean ====
section
/-! DEFINITION. Word.lean: the word types of the D880 (00_scope.md, "Words and bit order"; 10 R170). -/

namespace Sys2Proof

/-- A byte of the control line or of the pattern memory; its first bit is its most significant (R4, R170). -/
abbrev Byte := BitVec 8

/-- A character of the control line as its ten line levels in order of time: bit 0 the start bit, bits 1 to 8 the data
bits, least significant first, bit 9 the stop bit (R159). -/
abbrev Character := BitVec 10

/-- A lane word of 32 bits; the first bit on the lane is the most significant bit (R170). -/
abbrev Word := BitVec 32

/-- A level of a PAM4 symbol, 0 to 3 (R14). -/
abbrev PamLevel := Fin 4

/-- A lane number, 0 to 7. -/
abbrev Lane := Fin 8

/-- A lane set as the line carries it: bit k stands for lane k (R170). -/
abbrev LaneSet := BitVec 8

end Sys2Proof
end

