-- ==== Sys2Proof/Machine/Types.lean ====
section
/-! DEFINITION. Types.lean: the named values and records that the blocks of the D880 hold. -/

namespace Sys2Proof.Machine

/-! ### Lane settings and generator (chapter 2) -/

/-- Lane power (section 2.1). -/
inductive LanePower where
  | off | txOnly | rxOnly | full
  deriving DecidableEq, Repr

/-- Generator and checker polarity (R23, R33). -/
inductive Polarity where
  | normal | inverted
  deriving DecidableEq, Repr

/-- The generator's two states (R16). -/
inductive GenState where
  | off | running
  deriving DecidableEq, Repr

/-- Where the shaping triple comes from (R24). -/
inductive ShapingSource where
  | preset (number : Nat) | custom
  deriving DecidableEq, Repr

/-- The three weights of the transmit shaping (R24). -/
structure Triple where
  pre : Int
  main : Int
  post : Int
  deriving DecidableEq, Repr

/-- The insertion mode; RATE carries its phase counter (section 2.4). -/
inductive InsertMode where
  | none | single | burst (b : Nat) | rate (k phase : Nat)
  deriving DecidableEq, Repr

/-- A burst in progress: `own` while the mode is still its BURST, `detached` once a later GEN_INSERT has replaced the
mode (R27, R29). -/
inductive Flight where
  | idle | own (left : Nat) | detached (left : Nat)
  deriving DecidableEq, Repr

/-- A place in a pattern: a PRBS register, stage i in bit i - 1 (R2), or a user pattern's next position (R12). -/
inductive Source where
  | prbs (register : BitVec 32) | user (position : Nat)
  deriving DecidableEq, Repr

/-- The word in production (R20), with what it keeps while a request changes the settings: its lane's modulation when it
began, and the triple that shapes it (R22, R24). -/
structure Production where
  word : Word
  pam4 : Bool
  triple : Triple
  deriving DecidableEq, Repr

/-- What a RUNNING generator holds beside its configuration: its place, the word in production (R20), and the amplitudes
that the start of that word settled for the transmit lane (R24, log 20). -/
structure GenRun where
  source : Source
  word : Option Production
  sent : List Int
  deriving DecidableEq, Repr

/-- One lane generator (section 2.2). `run` is present exactly while the generator is RUNNING. -/
structure Generator where
  run : Option GenRun
  pattern : Nat
  polarity : Polarity
  shaping : ShapingSource
  triple : Triple
  mode : InsertMode
  flight : Flight
  inserted : Nat
  deriving DecidableEq, Repr

/-! ### Checker (chapter 3) -/

/-- The six checker states (R33). -/
inductive CheckerState where
  | off | noSignal | hunt | verify | locked | held
  deriving DecidableEq, Repr

/-- The reasons of checker transitions (R53). -/
inductive Reason where
  | powerUp | powerDown | signalUp | signal | found | inverted | verified | verifyFailed | errors | reconfigured | held
  | released
  deriving DecidableEq, Repr

/-- A checker state with its working position (R33). `last15` holds the last 15 expected bits, the latest in bit 0
(R50). -/
inductive Phase where
  | off
  | noSignal
  /-- The window of the latest 64 polarity-corrected bits, the latest in bit 0, and the bits received (R37, R38). -/
  | hunt (window : BitVec 64) (count : Nat)
  /-- Expected place, last expected bits, bits compared and bits in error (R39). -/
  | verify (source : Source) (last15 : BitVec 15) (compared errors : Nat)
  /-- Expected place, last expected bits, and the loss block's bits and errors (R41, R42). -/
  | locked (source : Source) (last15 : BitVec 15) (blockBits blockErrors : Nat)
  | held
  deriving DecidableEq, Repr

/-- The nine configuration fields (R33, R47), numeric fields under the names of the table of R47. -/
structure ChkConfig where
  pattern : Nat
  polarity : Polarity
  autoInvert : Bool
  v : Nat
  a : Nat
  w : Nat
  t : Nat
  g : Nat
  interval : Nat
  deriving DecidableEq, Repr

/-- One lane checker (R33). -/
structure Checker where
  phase : Phase
  config : ChkConfig
  deriving DecidableEq, Repr

/-- The direction of an errored bit (R50). -/
inductive Direction where
  | onesToZero | zerosToOne
  deriving DecidableEq, Repr

/-- One errored bit of a word result (R49). -/
structure ErroredBit where
  position : Nat
  direction : Direction
  context : BitVec 16
  deriving DecidableEq, Repr

/-- One symbol in error of a PAM4 word result (R51). -/
structure SymbolError where
  index : Nat
  distance : Nat
  deriving DecidableEq, Repr

/-- A word result (R49). -/
structure WordResult where
  lane : Lane
  expected : Word
  received : Word
  bits : List ErroredBit
  symbols : List SymbolError
  deriving DecidableEq, Repr

/-! ### Accounting and gate (chapters 4 and 6) -/

/-- The burst tracker (R57). -/
inductive Tracker where
  | closed | opened (errored run : Nat)
  deriving DecidableEq, Repr

/-- One lane's accounting state (R57). -/
structure Accounting where
  tracker : Tracker
  mark : Bool
  deriving DecidableEq, Repr

/-- The five gate states (R87). -/
inductive GateState where
  | idle | armed | running | paused | done
  deriving DecidableEq, Repr

/-- Start mode of a gate (R89). -/
inductive StartMode where
  | now | onLock
  deriving DecidableEq, Repr

/-- Lock policy of a gate (R96). -/
inductive LockPolicy where
  | keep | pause | abort
  deriving DecidableEq, Repr

/-- The nine end reasons (section 6.5). -/
inductive EndReason where
  | bits | errors | time | confident | saturated | lockLost | armTimeout | laneOff | stopped
  deriving DecidableEq, Repr

/-- Confidence level (R89). -/
inductive Level where
  | cl90 | cl95 | cl99
  deriving DecidableEq, Repr

/-- A rate figure: mantissa, exponent, undefined flag (R109). -/
structure Figure where
  mantissa : Nat
  exponent : Int
  undef : Bool
  deriving DecidableEq, Repr

/-- What GATE_START sets, as applied (R89, R90). A zero value sets no stop (R90). -/
structure GateArgs where
  mode : StartMode
  policy : LockPolicy
  duration : Nat
  bitLimit : Nat
  errorLimit : Nat
  target : Figure
  level : Level
  armTimeout : Nat
  deriving DecidableEq, Repr

/-- The settings a gate holds (R87): those of GATE_START and the interval length L. -/
structure GateSettings extends GateArgs where
  interval : Nat
  deriving DecidableEq, Repr

/-- The counters that accounting feeds (section 4.1). -/
structure Counters where
  bits : Nat
  errors : Nat
  onesToZero : Nat
  zerosToOne : Nat
  symbols : Nat
  d1 : Nat
  d2 : Nat
  d3 : Nat
  filters : Vector Nat 16
  unmatched : Nat
  overlap : Nat
  bursts : Nat
  bins : Vector Nat 12
  errIntervals : Nat
  cleanIntervals : Nat
  missed : Nat
  deriving DecidableEq, Repr

/-- The gate's own counters and arm-wait ms (R87). -/
structure GateCounts where
  lockLosses : Nat
  elapsed : Nat
  paused : Nat
  unlocked : Nat
  armWait : Nat
  deriving DecidableEq, Repr

/-- The result record (R104). -/
structure ResultRecord where
  lane : Lane
  reason : EndReason
  startStamp : Nat
  endStamp : Nat
  counters : Counters
  counts : GateCounts
  settings : GateSettings
  ratio : Figure
  bound : Figure
  pattern : Nat
  patternChanged : Bool
  rate : Fin 4
  deriving DecidableEq, Repr

/-- One lane's gate (R87). -/
structure Gate where
  state : GateState
  settings : Option GateSettings
  startPattern : Option Nat
  counters : Counters
  counts : GateCounts
  startStamp : Option Nat
  endStamp : Option Nat
  result : Option ResultRecord
  deriving DecidableEq, Repr

/-! ### One lane -/

/-- What the part holds for one lane in its generator, checker, accounting unit and gate, with the lane settings of
R16, the SD input's level (R34) and the loopback path's bits (R31), the earliest first. -/
structure LaneState where
  power : LanePower
  rate : Fin 4
  loopback : Bool
  sd : Bool
  path : List Bool
  gen : Generator
  chk : Checker
  acct : Accounting
  gate : Gate
  deriving DecidableEq, Repr

/-! ### Filter table (chapter 5) -/

/-- A valid filter (R76). In the direction set, bit 0 is ones-to-zero and bit 1 zeros-to-one (R170). -/
structure Filter where
  value : BitVec 16
  mask : BitVec 16
  directions : BitVec 2
  lanes : LaneSet
  deriving DecidableEq, Repr

/-- The class of an errored bit (R63). -/
inductive FilterClass where
  | filter (n : Fin 16) | unmatched | overlap
  deriving DecidableEq, Repr

/-! ### Pattern store (chapter 1) -/

/-- A defined region (section 1.4). -/
structure Region where
  base : Nat
  length : Nat
  deriving DecidableEq, Repr

/-- The pattern store: pattern memory as (byte address, byte) cells, addresses strictly rising and no zero byte listed,
and the region table (R4, R5). -/
structure Store where
  memory : List Host.Cell
  regions : Vector (Option Region) 16
  deriving DecidableEq, Repr

/-! ### Margin unit (chapter 8) -/

/-- Sampler axis (R122). -/
inductive Axis where
  | phase | threshold
  deriving DecidableEq, Repr

/-- Sampler eye (R122). -/
inductive Eye where
  | lower | middle | upper
  deriving DecidableEq, Repr

/-- Verdict mode of a point (R126). -/
inductive VerdictMode where
  | count | limit
  deriving DecidableEq, Repr

/-- Verdict of a table entry; a finished point's verdict is never PENDING (R128, R132). -/
inductive Verdict where
  | pending | pass | fail | noLock
  deriving DecidableEq, Repr

/-- Where the sampler stands when it serves a lane (R122). -/
structure SamplerPlace where
  lane : Lane
  axis : Axis
  eye : Eye
  offset : Int
  deriving DecidableEq, Repr

/-- The settings a point runs under (section 8.2). -/
structure PointSettings where
  lane : Lane
  axis : Axis
  eye : Eye
  offset : Int
  dwell : Nat
  limit : Nat
  mode : VerdictMode
  lockWait : Nat
  deriving DecidableEq, Repr

/-- The three phases of a point: SETTLE with its disturbance mark, WAIT_LOCK, and DWELL, which may have to pass over the
word already in progress when it began (R124 to R126). -/
inductive PointPhase where
  | settle (disturbed : Bool) | waitLock | dwell (passOver : Bool)
  deriving DecidableEq, Repr

/-- The point in progress (section 8.2). -/
structure Point where
  settings : PointSettings
  phase : PointPhase
  bits : Nat
  errors : Nat
  deriving DecidableEq, Repr

/-- A sweep plan (R129). -/
structure Plan where
  lanes : LaneSet
  axis : Axis
  eye : Eye
  start : Int
  step : Nat
  count : Nat
  dwell : Nat
  limit : Nat
  mode : VerdictMode
  lockWait : Nat
  continuous : Bool
  deriving DecidableEq, Repr

/-- The sweep in force: its copy of the plan, its place (lane and point) and its pass (R136). -/
structure Sweep where
  plan : Plan
  lane : Lane
  index : Nat
  pass : Nat
  deriving DecidableEq, Repr

/-- The five states of the margin unit with what each holds (R136). -/
inductive MarginState where
  | idle
  | spot (p : Point)
  | sweep (p : Point) (sw : Sweep)
  /-- The interrupted place is the sweep's own lane and point. -/
  | forcedSpot (p : Point) (sw : Sweep)
  | spotThenSweep (p : Point) (waiting : Plan)
  deriving DecidableEq, Repr

/-- The name of a margin state, as replies carry it (R143, R167). -/
inductive MarginName where
  | idle | spot | sweep | forcedSpot | spotThenSweep
  deriving DecidableEq, Repr

/-- One entry of a point table (R132). -/
structure PointEntry where
  offset : Int
  bits : Nat
  errors : Nat
  verdict : Verdict
  pass : Nat
  deriving DecidableEq, Repr

/-- A lane's point table (R132). -/
structure PointTable where
  count : Nat
  entries : Vector PointEntry 64
  deriving DecidableEq, Repr

/-- A lane's eye summary (R133). -/
structure EyeSummary where
  pass : Nat
  map : List Bool
  opening : Nat
  centre : Option Int
  deriving DecidableEq, Repr

/-- The spot record (R135). -/
structure SpotRecord where
  lane : Lane
  axis : Axis
  eye : Eye
  offset : Int
  dwell : Nat
  mode : VerdictMode
  limit : Nat
  bits : Nat
  errors : Nat
  verdict : Verdict
  deriving DecidableEq, Repr

/-- The margin unit (sections 8.1 to 8.5). -/
structure Margin where
  state : MarginState
  sampler : Option SamplerPlace
  plan : Plan
  passCounter : Nat
  tables : Vector PointTable 8
  summaries : Vector (Option EyeSummary) 8
  spot : Option SpotRecord
  deriving DecidableEq, Repr

/-! ### Capture log (chapter 9) -/

/-- Capture mode (section 9.1). -/
inductive CaptureMode where
  | off | words | bursts | events
  deriving DecidableEq, Repr

/-- What a candidate carries beside its lane, elapsed ms and bits compared (R72, R146). -/
inductive CandidateBody where
  | errorWord (context : BitVec 16) (expected received : Word)
  | burstStart (context : BitVec 16) (expected received : Word) (ordinal : Nat)
  | lockGained (state : CheckerState) (reason : Reason)
  | lockLost (state : CheckerState) (reason : Reason)
  deriving DecidableEq, Repr

/-- A capture candidate (R72, R146). -/
structure Candidate where
  lane : Lane
  elapsed : Nat
  bits : Nat
  body : CandidateBody
  deriving DecidableEq, Repr

/-- A capture record: a candidate with its sequence number (R152). -/
structure Record where
  sequence : Nat
  candidate : Candidate
  deriving DecidableEq, Repr

/-- A lane's capture settings, quota count and slot (R145, R147). -/
structure CaptureLane where
  mode : CaptureMode
  quota : Nat
  quotaCount : Nat
  slot : Option Candidate
  deriving DecidableEq, Repr

/-- Arbitration policy (R149). -/
inductive ArbPolicy where
  | rotate | fixed | stay
  deriving DecidableEq, Repr

/-- Full policy (R150). -/
inductive FullPolicy where
  | stop | ring
  deriving DecidableEq, Repr

/-- The write port (R148); a write completes under the full policy of its grant (R156). -/
inductive Port where
  | free | writing (lane : Lane) (policy : FullPolicy)
  deriving DecidableEq, Repr

/-- The capture log (chapter 9). Records stand oldest first. -/
structure CaptureLog where
  lanes : Vector CaptureLane 8
  port : Port
  lastGranted : Lane
  records : List Record
  nextSequence : Nat
  fullMark : Bool
  arb : ArbPolicy
  full : FullPolicy
  watermark : Nat
  deriving DecidableEq, Repr

/-! ### Control line (chapter 10) -/

/-- Reset cause (R167). -/
inductive ResetCause where
  | powerOn | line | soft
  deriving DecidableEq, Repr

/-- The alarm-history flags (R165). -/
inductive HistoryFlag where
  | losSeen | lockLost | verifyFailed | captureMissed | saturated
  deriving DecidableEq, Repr

/-- A set of history flags: bits 0 to 4 in the order of R170. -/
abbrev HistorySet := BitVec 5

/-- Reply statuses (R162). -/
inductive Status where
  | ok | adjusted | badKind | badLength | badArg | noLane | laneOff | laneActive | notHeld | gateBusy | noResult | noRegion
  | badRegion | regionClash | regionInUse | badFilter | filterInUse
  deriving DecidableEq, Repr

/-- A queued request (R161). -/
structure Request where
  broadcast : Bool
  kind : BitVec 6
  tag : Byte
  body : List Byte
  deriving DecidableEq, Repr

/-- Margin completion reason (R141). -/
inductive MarginReason where
  | complete | stopped
  deriving DecidableEq, Repr

/-- Log notice reason (R153). -/
inductive LogReason where
  | watermark | full
  deriving DecidableEq, Repr

/-- The outcome a COMPLETE spot notice carries (R141). -/
structure SpotOutcome where
  verdict : Verdict
  bits : Nat
  errors : Nat
  deriving DecidableEq, Repr

/-- The six notice kinds, code k at bit k - 1 of a set (R164, R170). -/
inductive NoticeKind where
  | lock | gate | alarm | sweep | spot | log
  deriving DecidableEq, Repr

/-- A notice with its content (R164). -/
inductive Notice where
  | lock (lane : Lane) (entered : CheckerState) (reason : Reason)
  | gate (lane : Lane) (reason : EndReason)
  | alarm (lane : Lane) (flags : HistorySet) (flag : HistoryFlag)
  | sweep (reason : MarginReason) (pass : Nat)
  | spot (reason : MarginReason) (lane : Lane) (offset : Int) (outcome : Option SpotOutcome)
  | log (reason : LogReason) (count newest : Nat)
  deriving DecidableEq, Repr

/-- The frame being sent (R163): the head reply's segment of this index, or a notice with the tag it began with. -/
inductive Sending where
  | reply (segment : Nat) | notice (tag : Nat) (n : Notice)
  deriving DecidableEq, Repr

end Sys2Proof.Machine
end

