-- ==== Sys2Proof/Machine/Replies.lean ====
section
/-! DEFINITION. Replies.lean: what replies carry (R162), kind by kind, as each kind's rule lists it. -/

namespace Sys2Proof.Machine

/-- A capability descriptor (R166). Parameters are listed in the order of R166's table. -/
structure Descriptor where
  id : Nat
  version : Nat
  paramBytes : Nat
  params : List Int
  deriving DecidableEq, Repr

/-- STATUS's account of one lane (R167). -/
structure LaneStatus where
  lane : Lane
  power : LanePower
  checker : CheckerState
  gate : GateState
  deriving DecidableEq, Repr

/-- REGION_READ's account of a defined region (R9). -/
structure RegionInfo where
  region : Region
  first : Nat
  last : Nat
  generators : LaneSet
  checkers : LaneSet
  deriving DecidableEq, Repr

/-- LANE_SET's account of one named lane (R17). -/
structure LaneSetRow where
  lane : Lane
  power : LanePower
  rate : Fin 4
  loopback : Bool
  gen : GenState
  checker : CheckerState
  deriving DecidableEq, Repr

/-- The progress of a SINGLE or BURST (R30). -/
inductive InsertProgress where
  | none | pending (left : Nat) | inProgress (left : Nat)
  deriving DecidableEq, Repr

/-- GEN_READ's fields (R30); a RATE mode carries its phase counter. -/
structure GenReadFields where
  power : LanePower
  rate : Fin 4
  loopback : Bool
  state : GenState
  pattern : Nat
  polarity : Polarity
  shaping : ShapingSource
  triple : Triple
  mode : InsertMode
  progress : InsertProgress
  replacedLeft : Nat
  inserted : Nat
  deriving DecidableEq, Repr

/-- CHK_READ's working-position progress (R55). -/
inductive ChkProgress where
  | none | hunt (received : Nat) | verify (compared errors : Nat) | locked (bits errors : Nat)
  deriving DecidableEq, Repr

/-- GATE_START's account of one named lane (R91). -/
structure GateStartRow where
  lane : Lane
  state : GateState
  startStamp : Nat
  deriving DecidableEq, Repr

/-- A time to confidence (R120). -/
structure TimeToConfidence where
  ms : Nat
  capped : Bool
  deriving DecidableEq, Repr

/-- GATE_READ SNAPSHOT's fields (R105). -/
structure SnapshotFields where
  state : GateState
  uptime : Nat
  startStamp : Option Nat
  settings : Option GateSettings
  counters : Counters
  counts : GateCounts
  burstOpen : Bool
  burstErrors : Nat
  mark : Bool
  ratio : Figure
  bound : Figure
  remaining : Option TimeToConfidence
  deriving DecidableEq, Repr

/-- FILTER_READ's account of a valid filter (R84). -/
structure FilterInfo where
  filter : Filter
  unmatchable : Bool
  inUse : Bool
  deriving DecidableEq, Repr

/-- The name of a point's phase (R143). -/
inductive PhaseName where
  | settle | waitLock | dwell
  deriving DecidableEq, Repr

/-- SWEEP_READ's account of the point in progress (R143). -/
structure PointInfo where
  ofSpot : Bool
  phase : PhaseName
  bits : Nat
  errors : Nat
  deriving DecidableEq, Repr

/-- A sweep's place and pass (R143). -/
structure SweepPlace where
  lane : Lane
  index : Nat
  pass : Nat
  deriving DecidableEq, Repr

/-- SWEEP_READ's fields (R143); `entries` are the entries in use. -/
structure SweepReadFields where
  state : MarginName
  sampler : Option SamplerPlace
  point : Option PointInfo
  position : Option SweepPlace
  plan : Option Plan
  passCounter : Nat
  entries : List PointEntry
  summary : Option EyeSummary
  spot : Option SpotRecord
  deriving DecidableEq, Repr

/-- The four causes of a candidate (R152). -/
inductive Cause where
  | errorWord | burstStart | lockGained | lockLost
  deriving DecidableEq, Repr

/-- CAPTURE_READ's account of one lane (R157). -/
structure CaptureRow where
  lane : Lane
  mode : CaptureMode
  quota : Nat
  quotaCount : Nat
  slot : Option Cause
  deriving DecidableEq, Repr

/-- CAPTURE_READ's fields (R157). -/
structure CaptureReadFields where
  lanes : List CaptureRow
  writing : Option Lane
  lastGranted : Lane
  arb : ArbPolicy
  full : FullPolicy
  watermark : Nat
  count : Nat
  oldest : Option Nat
  newest : Option Nat
  nextSequence : Nat
  fullMark : Bool
  deriving DecidableEq, Repr

/-- The fields after a reply's status (R162). -/
inductive ReplyFields where
  | none
  /-- `count` is the number of descriptors, given before the list (R166). -/
  | identify (vendor part revision node laneCount baud count : Nat) (chain : List Descriptor)
  | status (cause : ResetCause) (uptime : Nat) (lanes : List LaneStatus) (margin : MarginName) (logCount : Nat)
      (history : HistorySet)
  | noticeMask (enabled : BitVec 6) (removed : Nat)
  | history (lanes : List (Lane × HistorySet))
  | regionDefine (number base length first last : Nat)
  | regionDelete (number : Nat)
  | regionRead (rows : List (Nat × Option RegionInfo))
  | patternWrite (number offset count : Nat)
  | patternRead (number offset count : Nat) (bytes : List Byte)
  | laneSet (rows : List LaneSetRow)
  | genSet (pattern : Nat) (polarity : Polarity) (triple : Triple) (reloaded cancelled : LaneSet)
  | genInsert (mode : InsertMode) (cancelled : LaneSet)
  | genRead (f : GenReadFields)
  | chkSet (config : ChkConfig)
  | chkHold (entered already : LaneSet)
  | chkRelease (rows : List (Lane × CheckerState))
  | chkRead (state : CheckerState) (signal : Bool) (config : ChkConfig) (progress : ChkProgress)
  | gateStart (args : GateArgs) (rows : List GateStartRow)
  | gateStop (stopped skipped : LaneSet)
  | gateResult (r : ResultRecord)
  | gateSnapshot (f : SnapshotFields)
  | combine (errors bits : Nat) (ratio bound : Figure) (included skipped : LaneSet)
  | filterSet (number : Nat) (filter : Filter) (unmatchable : Bool)
  | filterClear (cleared already : BitVec 16)
  | filterRead (rows : List (Nat × Option FilterInfo))
  | filterProbe (matching : BitVec 16) (cls : FilterClass)
  | sweepSet (plan : Plan) (offsets : List Int)
  | sweepStart (state : MarginName) (plan : Plan)
  | sweepStop (spotStopped sweepStopped : Bool)
  | spotStart (settings : PointSettings) (state : MarginName)
  | sweepRead (f : SweepReadFields)
  | captureSet (mode : CaptureMode) (quota : Nat) (counts : List (Lane × Nat))
  | captureRead (f : CaptureReadFields)
  | logRead (remaining : Nat) (records : List Record)
  | logClear (removed nextSequence : Nat)
  | logSet (arb : ArbPolicy) (full : FullPolicy) (watermark : Nat)
  deriving DecidableEq, Repr

/-- What executing a request answers: a status and the kind's fields (R162). -/
structure Answer where
  status : Status
  fields : ReplyFields
  deriving DecidableEq, Repr

/-- A queued reply (R162). Its frames are those of `Reply.frame`, under the part's node address. -/
structure Reply where
  kind : BitVec 6
  tag : Byte
  answer : Answer
  deriving DecidableEq, Repr

/-- The control line (chapter 10). `received` is the partial frame from its sync byte on; `sending` is none while the
line is free; `resetDue` is set from a RESET's execution until the soft reset acts (R169). -/
structure ControlLine where
  received : List Byte
  inbound : List Request
  replies : List Reply
  sending : Option Sending
  outbox : List Notice
  noticeCount : Nat
  enabled : BitVec 6
  resetDue : Bool
  deriving DecidableEq, Repr

end Sys2Proof.Machine
end

