-- ==== Sys2Proof/Config.lean ====
section
/-! DEFINITION. Config.lean: the capacities the spec fixes, and the free values it leaves open.
A free value has no body, so no proof can learn it: what is proved holds whatever it is. -/

namespace Sys2Proof.Config

/-- Requests the inbound queue holds (R161). -/
def inboundCapacity : Nat := 4

/-- Replies the reply queue holds (R162). -/
def replyCapacity : Nat := 4

/-- Records the capture log holds (R150). -/
def logCapacity : Nat := 512

/-- Bytes of the pattern memory: 4096 words of 64 bits (01_patterns, section 1.3). -/
def memoryBytes : Nat := 32768

/-- Content bytes of one reply segment (R170). -/
def segmentBytes : Nat := 238

/-- Bytes that the body of one frame holds (section 10.2). -/
def bodyBytes : Nat := 240

/-- The 48-bit maximum (R30, section 4.1, R107). -/
def max48 : Nat := 2 ^ 48 - 1

/-- The 64-bit maximum (section 4.1, R120). -/
def max64 : Nat := 2 ^ 64 - 1

/-- The 32-bit maximum (section 4.1, R87). -/
def max32 : Nat := 2 ^ 32 - 1

/-- FREE VALUE (log 13). The field bytes of a reply whose fields' layout R170 does not give, by the request's kind code and
the fields. R170 gives the layout of the replies it names and no other. -/
opaque replyBytes : BitVec 6 → Machine.ReplyFields → List Byte

/-- FREE VALUE (log 29). The body bytes of a notice: R164 says what it carries, R170 gives it no layout. -/
opaque noticeBytes : Machine.Notice → List Byte

/-- FREE VALUE (log 40). What stands for the symbol before the first one sent after silence, one of -3 to 3 thirds of full
swing counted from -3: R24 speaks of the symbol that precedes and gives none there, and bounds every transmitted amplitude by
full swing. -/
opaque silentAmplitude : Fin 7

/-- FREE VALUE (log 14). The number of parameter bytes an IDENTIFY descriptor of the given id announces (R166 says the
descriptor carries it and states no value). -/
opaque descriptorBytes : Nat → Nat

/-- FREE VALUE (log 15). The errored-interval count after a settling (R69) that finds the count at its 32-bit maximum. -/
opaque errIntervalsPastMax : BitVec 32

end Sys2Proof.Config
end

