-- ==== Sys2Proof/Syntax.lean ====
section
/-! DEFINITION. Syntax.lean: the commands of the D880, one constructor per row of spec/opcode_table.json. -/

namespace Sys2Proof

/-- The strap pins as they stand when a power-on or line reset samples them (R159). -/
structure Straps where
  /-- NODE[1:0], the node address. -/
  node : BitVec 2
  /-- LANESEL: true for eight lanes, false for four. -/
  eightLanes : Bool
  /-- BAUD[1:0], the control-line rate code. -/
  baud : BitVec 2
  deriving DecidableEq, Repr

/-- The operands of a request command: whether it was sent to the broadcast address, its tag, and its body's bytes in the
order of R170. The body is held as bytes so that wrong lengths and codes outside a field's list can be commanded. -/
structure Req where
  /-- Sent to the broadcast address 0Fh rather than to the part's own node. -/
  broadcast : Bool
  /-- Chosen by the controller, returned in the reply. -/
  tag : Byte
  /-- The body, 0 to 240 bytes. -/
  body : List Byte
  deriving DecidableEq, Repr

/-- What a receive lane brings, symbol by symbol in the order received: the bits of an NRZ lane, or the levels decided on a
PAM4 lane (R34). -/
inductive Reception where
  /-- On an NRZ lane. -/
  | nrz (bits : List Bool)
  /-- On a PAM4 lane. -/
  | pam4 (levels : List PamLevel)
  deriving DecidableEq, Repr

/-- What meets a word result beside its symbols. -/
structure Alongside where
  /-- For each symbol, whether the margin sampler decides it above its moved boundary (R123). -/
  above : List Bool
  /-- Whether a write completes after the word and before a loss that is declared at it (R146). -/
  written : Bool
  deriving DecidableEq, Repr

/-- A command: a reset, a line event, an expiry, a lane event, or the execution of a request. -/
inductive Instr where
  /-- POWER_ON_RESET (R168). -/
  | powerOnReset (straps : Straps)
  /-- LINE_RESET (R168). -/
  | lineReset (straps : Straps)
  /-- SOFT_RESET (R169). -/
  | softReset
  /-- FRAME_RECEIVED (R160): these characters arrive on CTL_RXD, with no gap of more than 1 ms between them. -/
  | frameReceived (chars : List Character)
  /-- INTER_BYTE_GAP (R160). -/
  | interByteGap
  /-- UNKNOWN_KIND (R161): a request of this unknown kind code. -/
  | unknownKind (code : BitVec 6) (r : Req)
  /-- FRAME_SENT (R163). -/
  | frameSent
  /-- UPTIME_TICK (R107). -/
  | uptimeTick
  /-- IDENTIFY (R166). -/
  | identify (r : Req)
  /-- STATUS (R167). -/
  | status (r : Req)
  /-- RESET (R169). -/
  | reset (r : Req)
  /-- NOTICE_MASK (R164). -/
  | noticeMask (r : Req)
  /-- HISTORY_READ (R165). -/
  | historyRead (r : Req)
  /-- HISTORY_CLEAR (R165). -/
  | historyClear (r : Req)
  /-- REGION_DEFINE (R7). -/
  | regionDefine (r : Req)
  /-- REGION_DELETE (R8). -/
  | regionDelete (r : Req)
  /-- REGION_READ (R9). -/
  | regionRead (r : Req)
  /-- PATTERN_WRITE (R10). -/
  | patternWrite (r : Req)
  /-- PATTERN_READ (R11). -/
  | patternRead (r : Req)
  /-- LANE_SET (R17). -/
  | laneSet (r : Req)
  /-- GEN_SET (R21). -/
  | genSet (r : Req)
  /-- GEN_INSERT (R26). -/
  | genInsert (r : Req)
  /-- GEN_READ (R30). -/
  | genRead (r : Req)
  /-- GENERATOR_WORD_START (R20). -/
  | generatorWordStart (lane : Lane)
  /-- CHK_SET (R46). -/
  | chkSet (r : Req)
  /-- CHK_HOLD (R44). -/
  | chkHold (r : Req)
  /-- CHK_RELEASE (R45). -/
  | chkRelease (r : Req)
  /-- CHK_READ (R55). -/
  | chkRead (r : Req)
  /-- SIGNAL_RISE (R36): the lane's SD input rises. -/
  | signalRise (lane : Lane)
  /-- SIGNAL_FALL (R36): the lane's SD input falls. -/
  | signalFall (lane : Lane)
  /-- SEED_LOADED (R37): these further symbols of the receive lane reach a fixed-pattern hunt. -/
  | seedLoaded (lane : Lane) (rx : Reception)
  /-- ANCHOR_MATCH (R38): these further symbols of the receive lane reach a user-pattern hunt. -/
  | anchorMatch (lane : Lane) (rx : Reception)
  /-- VERIFY_WORD_END (R39): the symbols of the word the receive lane brought. -/
  | verifyWordEnd (lane : Lane) (rx : Reception)
  /-- WORD_RESULT (R49): the symbols of the word the receive lane brought, and what meets it beside them. -/
  | wordResult (lane : Lane) (rx : Reception) (beside : Alongside)
  /-- WRITE_COMPLETION (R148). -/
  | writeCompletion
  /-- GATE_START (R89). -/
  | gateStart (r : Req)
  /-- GATE_STOP (R102). -/
  | gateStop (r : Req)
  /-- GATE_READ (R105). -/
  | gateRead (r : Req)
  /-- COMBINE (R106). -/
  | combine (r : Req)
  /-- GATE_TIMER_EXPIRY (R93). -/
  | gateTimerExpiry (lane : Lane)
  /-- FILTER_SET (R81). -/
  | filterSet (r : Req)
  /-- FILTER_CLEAR (R82). -/
  | filterClear (r : Req)
  /-- FILTER_READ (R84). -/
  | filterRead (r : Req)
  /-- FILTER_PROBE (R85). -/
  | filterProbe (r : Req)
  /-- SWEEP_SET (R129). -/
  | sweepSet (r : Req)
  /-- SWEEP_START (R138). -/
  | sweepStart (r : Req)
  /-- SWEEP_STOP (R139). -/
  | sweepStop (r : Req)
  /-- SPOT_START (R137). -/
  | spotStart (r : Req)
  /-- SWEEP_READ (R143). -/
  | sweepRead (r : Req)
  /-- SETTLE_EXPIRY (R124); `midWord` says whether a comparison word of the lane is in progress at the expiry (R126). -/
  | settleExpiry (midWord : Bool)
  /-- LOCK_WAIT_EXPIRY (R125). -/
  | lockWaitExpiry
  /-- CAPTURE_SET (R145). -/
  | captureSet (r : Req)
  /-- CAPTURE_READ (R157). -/
  | captureRead (r : Req)
  /-- LOG_READ (R154). -/
  | logRead (r : Req)
  /-- LOG_CLEAR (R155). -/
  | logClear (r : Req)
  /-- LOG_SET (R156). -/
  | logSet (r : Req)
  deriving DecidableEq, Repr

end Sys2Proof
end

