-- ==== Sys2Proof/Decode.lean ====
section
/-! DEFINITION. Decode.lean: request kind codes (10 section 10.8, R170) and the command that executes a queued request.
No row of spec/opcode_table.json gives bits, so `decodeTableWord` answers none for every word (log 28). -/

namespace Sys2Proof

/-- The request kind codes of R170 that name a kind. -/
def knownKinds : List (BitVec 6) :=
  [0x01, 0x02, 0x03, 0x04, 0x05, 0x06, 0x08, 0x09, 0x0A, 0x0B, 0x0C, 0x10, 0x11, 0x12, 0x13, 0x14, 0x15, 0x16, 0x17,
   0x18, 0x19, 0x1A, 0x1B, 0x20, 0x21, 0x22, 0x23, 0x28, 0x29, 0x2A, 0x2B, 0x2C, 0x30, 0x31, 0x32, 0x33, 0x34]

/-- A kind code that names a kind; every other code is answered BAD_KIND (R161, R170). -/
def isKnownKind (code : BitVec 6) : Bool := knownKinds.contains code

/-- The command that executes a request of this kind code (the table of request kind codes, R170); an unlisted code is
an UNKNOWN_KIND. -/
def decodeKind (code : BitVec 6) (r : Req) : Instr :=
  match code.toNat with
  | 0x01 => .identify r
  | 0x02 => .status r
  | 0x03 => .reset r
  | 0x04 => .noticeMask r
  | 0x05 => .historyRead r
  | 0x06 => .historyClear r
  | 0x08 => .regionDefine r
  | 0x09 => .regionDelete r
  | 0x0A => .regionRead r
  | 0x0B => .patternWrite r
  | 0x0C => .patternRead r
  | 0x10 => .laneSet r
  | 0x11 => .genSet r
  | 0x12 => .genInsert r
  | 0x13 => .genRead r
  | 0x14 => .chkSet r
  | 0x15 => .chkHold r
  | 0x16 => .chkRelease r
  | 0x17 => .chkRead r
  | 0x18 => .filterSet r
  | 0x19 => .filterClear r
  | 0x1A => .filterRead r
  | 0x1B => .filterProbe r
  | 0x20 => .gateStart r
  | 0x21 => .gateStop r
  | 0x22 => .gateRead r
  | 0x23 => .combine r
  | 0x28 => .sweepSet r
  | 0x29 => .sweepStart r
  | 0x2A => .sweepStop r
  | 0x2B => .spotStart r
  | 0x2C => .sweepRead r
  | 0x30 => .captureSet r
  | 0x31 => .captureRead r
  | 0x32 => .logRead r
  | 0x33 => .logClear r
  | 0x34 => .logSet r
  | _ => .unknownKind code r

/-- The request a command executes, with its kind code; none for an event. -/
def requestOf (i : Instr) : Option (BitVec 6 × Req) :=
  match i with
  | .identify r => some (0x01, r)
  | .status r => some (0x02, r)
  | .reset r => some (0x03, r)
  | .noticeMask r => some (0x04, r)
  | .historyRead r => some (0x05, r)
  | .historyClear r => some (0x06, r)
  | .regionDefine r => some (0x08, r)
  | .regionDelete r => some (0x09, r)
  | .regionRead r => some (0x0A, r)
  | .patternWrite r => some (0x0B, r)
  | .patternRead r => some (0x0C, r)
  | .laneSet r => some (0x10, r)
  | .genSet r => some (0x11, r)
  | .genInsert r => some (0x12, r)
  | .genRead r => some (0x13, r)
  | .chkSet r => some (0x14, r)
  | .chkHold r => some (0x15, r)
  | .chkRelease r => some (0x16, r)
  | .chkRead r => some (0x17, r)
  | .filterSet r => some (0x18, r)
  | .filterClear r => some (0x19, r)
  | .filterRead r => some (0x1A, r)
  | .filterProbe r => some (0x1B, r)
  | .gateStart r => some (0x20, r)
  | .gateStop r => some (0x21, r)
  | .gateRead r => some (0x22, r)
  | .combine r => some (0x23, r)
  | .sweepSet r => some (0x28, r)
  | .sweepStart r => some (0x29, r)
  | .sweepStop r => some (0x2A, r)
  | .spotStart r => some (0x2B, r)
  | .sweepRead r => some (0x2C, r)
  | .captureSet r => some (0x30, r)
  | .captureRead r => some (0x31, r)
  | .logRead r => some (0x32, r)
  | .logClear r => some (0x33, r)
  | .logSet r => some (0x34, r)
  | .unknownKind code r => if isKnownKind code then none else some (code, r)
  | .powerOnReset _ => none
  | .lineReset _ => none
  | .softReset => none
  | .frameReceived _ => none
  | .interByteGap => none
  | .frameSent => none
  | .uptimeTick => none
  | .generatorWordStart _ => none
  | .signalRise _ => none
  | .signalFall _ => none
  | .seedLoaded _ _ => none
  | .anchorMatch _ _ => none
  | .verifyWordEnd _ _ => none
  | .wordResult _ _ _ => none
  | .writeCompletion => none
  | .gateTimerExpiry _ => none
  | .settleExpiry _ => none
  | .lockWaitExpiry => none

/-- The command a word spells by the table's bits: the table gives bits for no row (log 28). -/
def decodeTableWord (_nbits _w : Nat) : Option Instr := none

end Sys2Proof
end

