-- ==== Sys2Proof/Machine/Initial.lean ====
section
/-! DEFINITION. Initial.lean: the reset value of each block (R15, R32, R56, R75, R86, R108, R144, R158, R168). -/

namespace Sys2Proof.Machine

/-- The generator after every reset (R32). -/
def Generator.initial : Generator :=
  { run := none, pattern := 7, polarity := .normal, shaping := .preset 0, triple := ⟨0, 63, 0⟩, mode := .none,
    flight := .idle, inserted := 0 }

/-- The checker configuration after every reset (R47, R56). -/
def ChkConfig.initial : ChkConfig :=
  { pattern := 7, polarity := .normal, autoInvert := false, v := 256, a := 2, w := 8192, t := 1024, g := 32,
    interval := 1000 }

/-- All counters at 0 (R87). -/
def Counters.zero : Counters :=
  { bits := 0, errors := 0, onesToZero := 0, zerosToOne := 0, symbols := 0, d1 := 0, d2 := 0, d3 := 0,
    filters := Vector.replicate 16 0, unmatched := 0, overlap := 0, bursts := 0, bins := Vector.replicate 12 0,
    errIntervals := 0, cleanIntervals := 0, missed := 0 }

/-- The gate's own counters at 0 (R87). -/
def GateCounts.zero : GateCounts := { lockLosses := 0, elapsed := 0, paused := 0, unlocked := 0, armWait := 0 }

/-- The gate after every reset (R87, R108). The spec gives the kept pattern id no reset value: absent is the model's
choice (DESIGN CHOICE, log 39). -/
def Gate.initial : Gate :=
  { state := .idle, settings := none, startPattern := none, counters := .zero, counts := .zero, startStamp := none,
    endStamp := none, result := none }

/-- A lane after every reset, but for the level of its SD input, which is a pin (R32, R56, R75, R108). -/
def LaneState.initial (sd : Bool) : LaneState :=
  { power := .off, rate := 0, loopback := false, sd := sd, path := [], gen := .initial,
    chk := { phase := .off, config := .initial }, acct := { tracker := .closed, mark := false }, gate := .initial }

/-- The plan after every reset (R129). -/
def Plan.initial : Plan :=
  { lanes := 1, axis := .phase, eye := .middle, start := -32, step := 2, count := 32, dwell := 1048576, limit := 0,
    mode := .limit, lockWait := 100, continuous := false }

/-- A point table after every reset (R132). -/
def PointTable.initial : PointTable :=
  { count := 64
    entries := Vector.ofFn fun i => { offset := (i.val : Int) - 32, bits := 0, errors := 0, verdict := .pending, pass := 0 } }

/-- The margin unit after every reset (R144). -/
def Margin.initial : Margin :=
  { state := .idle, sampler := none, plan := .initial, passCounter := 0, tables := Vector.replicate 8 .initial,
    summaries := Vector.replicate 8 none, spot := none }

/-- The capture log after every reset (R158). -/
def CaptureLog.initial : CaptureLog :=
  { lanes := Vector.replicate 8 { mode := .off, quota := 64, quotaCount := 0, slot := none }, port := .free,
    lastGranted := 7, records := [], nextSequence := 0, fullMark := false, arb := .rotate, full := .stop,
    watermark := 256 }

/-- The control line after every reset: hunting, everything empty, every notice kind enabled (R168, R169). -/
def ControlLine.initial : ControlLine :=
  { received := [], inbound := [], replies := [], sending := none, outbox := [], noticeCount := 0, enabled := 0x3F,
    resetDue := false }

/-- The pattern store after a power-on reset (R15). -/
def Store.initial : Store := { memory := [], regions := Vector.replicate 16 none }

end Sys2Proof.Machine
end

