-- ==== Sys2Proof/Machine/State.lean ====
section
/-! DEFINITION. State.lean: everything the D880 holds, and its state after a power-on reset. -/

namespace Sys2Proof.Machine

/-- The D880's faults. The spec describes none: every request is answered with a status (R162) and every event either acts
or changes nothing, so no meaning raises a fault and the type is empty (safe: nothing stops early). -/
inductive Fault where
  deriving DecidableEq, Repr

/-- Why a command has no meaning. -/
inductive Refusal where
  /-- Raised by `exec`'s arm of a command without a meaning (safe: the run stops). No arm raises it in this model. -/
  | notModelled (mnemonic : String)
  deriving DecidableEq, Repr

/-- The state of the part, and the commands that wait. -/
structure State where
  /-- Strap values as last sampled (R159). -/
  straps : Straps
  /-- Uptime in ms, 48 bits (R107). -/
  uptime : Nat
  /-- Reset cause (R167). -/
  cause : ResetCause
  /-- Alarm history of each lane (R165). -/
  history : Vector HistorySet 8
  /-- Pattern memory and region table (R4, R5). -/
  store : Store
  /-- The lanes' settings, generators, checkers, accounting units and gates. -/
  lanes : Vector LaneState 8
  /-- The filter table (R76). -/
  filters : Vector (Option Filter) 16
  /-- The margin unit (chapter 8). -/
  margin : Margin
  /-- The capture log (chapter 9). -/
  log : CaptureLog
  /-- The control line (chapter 10). -/
  line : ControlLine
  /-- The model's own field: the commands waiting, first in, first out. -/
  pending : List Instr
  deriving DecidableEq, Repr

/-- The part right after a power-on reset (R168). The strap and SD levels are pins: DESIGN CHOICE (log 4). -/
def State.reset : State :=
  { straps := { node := 0, eightLanes := true, baud := 0 }, uptime := 0, cause := .powerOn,
    history := Vector.replicate 8 0, store := .initial, lanes := Vector.replicate 8 (.initial false),
    filters := Vector.replicate 16 none, margin := .initial, log := .initial, line := .initial, pending := [] }

end Sys2Proof.Machine
end

