-- ==== Sys2Proof/Machine/Ops.lean ====
section
/-! DEFINITION. Ops.lean: the named operations on State that every block shares: lanes and lane sets, the pattern memory,
the notice outbox, the reply queue and the outbound path. -/

namespace Sys2Proof.Machine

/-! ### Lanes and lane sets -/

/-- The lanes in ascending order. -/
def laneList : List Lane := [0, 1, 2, 3, 4, 5, 6, 7]

/-- The lanes a lane set names, in ascending order (R170). -/
def lanesOf (b : LaneSet) : List Lane := laneList.filter fun l => b.getLsbD l.val

/-- The lane set of the lanes that satisfy `p`. -/
def laneSetWhere (p : Lane → Bool) : LaneSet :=
  laneList.foldl (fun b l => if p l then b ||| (1#8 <<< l.val) else b) 0

/-- The lanes that exist under the lane-count strap (00_scope, "Lanes and lane sets"). -/
def strapLanes (st : Straps) : LaneSet := if st.eightLanes then 0xFF else 0x0F

/-- The lane count of the strap, 8 or 4. -/
def strapLaneCount (st : Straps) : Nat := if st.eightLanes then 8 else 4

/-- A lane set names a lane that does not exist. -/
def State.namesAbsent (s : State) (b : LaneSet) : Bool := b &&& ~~~strapLanes s.straps != 0

/-- A byte is the number of an existing lane. -/
def State.existingLane (s : State) (b : Byte) : Option Lane :=
  if h : b.toNat < strapLaneCount s.straps ∧ b.toNat < 8 then some ⟨b.toNat, h.2⟩ else none

/-- One lane. -/
def State.lane (s : State) (l : Lane) : LaneState := s.lanes[l]

/-- Replace one lane by a function of it. -/
def State.modLane (l : Lane) (f : LaneState → LaneState) (s : State) : State :=
  { s with lanes := s.lanes.set l (f s.lanes[l]) }

/-- Replace one lane's gate by a function of it. -/
def State.modGate (l : Lane) (f : Gate → Gate) (s : State) : State :=
  s.modLane l fun x => { x with gate := f x.gate }

/-- Replace one lane's capture settings and slot by a function of them. -/
def State.modCapture (l : Lane) (f : CaptureLane → CaptureLane) (s : State) : State :=
  { s with log := { s.log with lanes := s.log.lanes.set l (f s.log.lanes[l]) } }

/-- The generator's state (R16). -/
def Generator.state (g : Generator) : GenState := if g.run.isSome then .running else .off

/-- The transmit side has power (section 2.1). -/
def LanePower.tx : LanePower → Bool
  | .off => false
  | .txOnly => true
  | .rxOnly => false
  | .full => true

/-- The receive side has power (section 2.1). -/
def LanePower.rx : LanePower → Bool
  | .off => false
  | .txOnly => false
  | .rxOnly => true
  | .full => true

/-- The state of a checker phase (R33). -/
def Phase.state : Phase → CheckerState
  | .off => .off
  | .noSignal => .noSignal
  | .hunt _ _ => .hunt
  | .verify _ _ _ _ => .verify
  | .locked _ _ _ _ => .locked
  | .held => .held

/-- The lane's checker state. -/
def LaneState.chkState (x : LaneState) : CheckerState := x.chk.phase.state

/-- The checker's signal (R34): the generator's running with loopback on, the SD input with loopback off. -/
def LaneState.signal (x : LaneState) : Bool := if x.loopback then x.gen.run.isSome else x.sd

/-- The lane's modulation is PAM4 (rate table of section 2.1). -/
def LaneState.pam4 (x : LaneState) : Bool := 2 ≤ x.rate.val

/-- The active gate states (chapter 6). -/
def GateState.active : GateState → Bool
  | .idle => false
  | .armed => true
  | .running => true
  | .paused => true
  | .done => false

/-! ### Pattern memory -/

/-- The byte at an address; power-on clears the memory, so an unlisted byte is zero (R4). -/
def readByte : List Host.Cell → Nat → Byte
  | [], _ => 0
  | (b, v) :: t, a => if b = a then v else readByte t a

/-- Store a byte, keeping the addresses rising and listing no zero byte. -/
def writeByte : List Host.Cell → Nat → Byte → List Host.Cell
  | [], a, v => if v = 0 then [] else [(a, v)]
  | (b, w) :: t, a, v =>
    if a < b then (if v = 0 then (b, w) :: t else (a, v) :: (b, w) :: t)
    else if a = b then (if v = 0 then t else (a, v) :: t)
    else (b, w) :: writeByte t a v

/-- Store bytes at consecutive addresses from `a` on. -/
def writeBytes : List Host.Cell → Nat → List Byte → List Host.Cell
  | m, _, [] => m
  | m, a, v :: vs => writeBytes (writeByte m a v) (a + 1) vs

/-- The canonical form of the memory: addresses strictly rising, within the 4096 words, and no zero byte listed. -/
abbrev Memory.wf (m : List Host.Cell) : Prop :=
  m.Pairwise (fun x y => x.1 < y.1) ∧ ∀ c ∈ m, c.2 ≠ 0 ∧ c.1 < Config.memoryBytes

/-! ### Notices (R163, R164) -/

/-- The kind of a notice. -/
def Notice.kind : Notice → NoticeKind
  | .lock _ _ _ => .lock
  | .gate _ _ => .gate
  | .alarm _ _ _ => .alarm
  | .sweep _ _ => .sweep
  | .spot _ _ _ _ => .spot
  | .log _ _ _ => .log

/-- The lane a notice is held under; none stands for the device-wide 0Fh. -/
def Notice.lane : Notice → Option Lane
  | .lock l _ _ => some l
  | .gate l _ => some l
  | .alarm l _ _ => some l
  | .sweep _ _ => none
  | .spot _ _ _ _ => none
  | .log _ _ _ => none

/-- The bit of a notice kind in a set of kinds: code k at bit k - 1 (R170). -/
def NoticeKind.bit : NoticeKind → Nat
  | .lock => 0
  | .gate => 1
  | .alarm => 2
  | .sweep => 3
  | .spot => 4
  | .log => 5

/-- Same kind and lane, so one replaces the other in the outbox. -/
def Notice.sameKey (m n : Notice) : Bool := m.kind == n.kind && m.lane == n.lane

/-- Queue a notice: in place of a waiting one of its kind and lane, otherwise behind every waiting notice (R164). -/
def outboxPut (n : Notice) : List Notice → List Notice
  | [] => [n]
  | m :: t => if m.sameKey n then n :: t else m :: outboxPut n t

/-- Queue a notice unless its kind is disabled (R164). -/
def ControlLine.queueNotice (n : Notice) (c : ControlLine) : ControlLine :=
  { c with outbox := if c.enabled.getLsbD n.kind.bit then outboxPut n c.outbox else c.outbox }

/-- Queue a notice (R164). -/
def State.queueNotice (n : Notice) (s : State) : State := { s with line := s.line.queueNotice n }

/-! ### The outbound path (R162, R163, R169) -/

/-- Queue a reply at the back of the reply queue (R162). -/
def State.queueReply (r : Reply) (s : State) : State :=
  { s with line := { s.line with replies := s.line.replies ++ [r] } }

/-- If the line is free and something waits, the next frame begins: the oldest reply, else the first notice, which leaves
the outbox tagged with the notice count. Once an accepted soft reset has no reply left to wait for, nothing begins
(R163, R169). -/
def ControlLine.pump (c : ControlLine) : ControlLine :=
  match c.sending, c.replies, c.outbox with
  | some _, _, _ => c
  | none, _ :: _, _ => { c with sending := some (.reply 0) }
  | none, [], [] => c
  | none, [], n :: rest =>
    if c.resetDue then c
    else { c with sending := some (.notice c.noticeCount n), outbox := rest, noticeCount := (c.noticeCount + 1) % 256 }

/-- Let the line begin a frame if it can. -/
def State.pump (s : State) : State := { s with line := s.line.pump }

end Sys2Proof.Machine
end

