-- ==== Sys2Proof/Machine/Operands.lean ====
section
/-! DEFINITION. Operands.lean: the fields of request bodies, their coded values, clamping, and body lengths (R170). -/

namespace Sys2Proof.Machine

/-! ### Reading fields -/

/-- The number whose bytes these are, most significant first (R170). -/
def natOf (bytes : List Byte) : Nat := bytes.foldl (fun n b => n * 256 + b.toNat) 0

/-- The unsigned field of `size` bytes at offset `off` of a body. -/
def field (body : List Byte) (off size : Nat) : Nat := natOf ((body.drop off).take size)

/-- The byte at an offset of a body. -/
def byteAt (body : List Byte) (off : Nat) : Byte := body.getD off 0

/-- The signed byte at an offset of a body (R170: two's complement). -/
def signedAt (body : List Byte) (off : Nat) : Int := (byteAt body off).toInt

/-- `n` as `size` bytes, most significant first (R170). -/
def bytesOf : (size n : Nat) → List Byte
  | 0, _ => []
  | k + 1, n => BitVec.ofNat 8 (n / 256 ^ k) :: bytesOf k n

/-! ### Clamping and rounding -/

/-- Clamp a number to a range. -/
def clampNat (lo hi n : Nat) : Nat := max lo (min hi n)

/-- Clamp an integer to a range. -/
def clampInt (lo hi n : Int) : Int := max lo (min hi n)

/-- Round up to a multiple of 32. -/
def roundUp32 (n : Nat) : Nat := (n + 31) / 32 * 32

/-- The least of 1024, 2048, … 65536 that is at least `n`, or 65536: rounding up to a power of two, then clamping to the
range of W (R47). -/
def roundPow2 (n : Nat) : Nat :=
  if n ≤ 1024 then 1024 else if n ≤ 2048 then 2048 else if n ≤ 4096 then 4096 else if n ≤ 8192 then 8192
  else if n ≤ 16384 then 16384 else if n ≤ 32768 then 32768 else 65536

/-! ### Coded values (the code table of R170) -/

/-- Lane power codes. -/
def LanePower.ofCode : Nat → Option LanePower
  | 0 => some .off
  | 1 => some .txOnly
  | 2 => some .rxOnly
  | 3 => some .full
  | _ => none

/-- Polarity codes. -/
def Polarity.ofCode : Nat → Option Polarity
  | 0 => some .normal
  | 1 => some .inverted
  | _ => none

/-- Off and on codes of loopback, auto-invert and continuous. -/
def switchOf : Nat → Option Bool
  | 0 => some false
  | 1 => some true
  | _ => none

/-- Start mode codes. -/
def StartMode.ofCode : Nat → Option StartMode
  | 0 => some .now
  | 1 => some .onLock
  | _ => none

/-- Lock policy codes. -/
def LockPolicy.ofCode : Nat → Option LockPolicy
  | 0 => some .keep
  | 1 => some .pause
  | 2 => some .abort
  | _ => none

/-- Confidence level codes: the number itself. -/
def Level.ofCode : Nat → Option Level
  | 90 => some .cl90
  | 95 => some .cl95
  | 99 => some .cl99
  | _ => none

/-- Source codes of GATE_READ and COMBINE: true for RESULT. -/
def sourceOf : Nat → Option Bool
  | 0 => some false
  | 1 => some true
  | _ => none

/-- Direction codes. -/
def Direction.ofCode : Nat → Option Direction
  | 0 => some .onesToZero
  | 1 => some .zerosToOne
  | _ => none

/-- Axis codes. -/
def Axis.ofCode : Nat → Option Axis
  | 0 => some .phase
  | 1 => some .threshold
  | _ => none

/-- Eye codes. -/
def Eye.ofCode : Nat → Option Eye
  | 0 => some .lower
  | 1 => some .middle
  | 2 => some .upper
  | _ => none

/-- Verdict mode codes. -/
def VerdictMode.ofCode : Nat → Option VerdictMode
  | 0 => some .count
  | 1 => some .limit
  | _ => none

/-- Capture mode codes. -/
def CaptureMode.ofCode : Nat → Option CaptureMode
  | 0 => some .off
  | 1 => some .words
  | 2 => some .bursts
  | 3 => some .events
  | _ => none

/-- Arbitration policy codes. -/
def ArbPolicy.ofCode : Nat → Option ArbPolicy
  | 0 => some .rotate
  | 1 => some .fixed
  | 2 => some .stay
  | _ => none

/-- Full policy codes. -/
def FullPolicy.ofCode : Nat → Option FullPolicy
  | 0 => some .stop
  | 1 => some .ring
  | _ => none

/-- The interval code is the interval in ms, one of four (R46). -/
def intervalOk (n : Nat) : Bool := n == 1 || n == 10 || n == 100 || n == 1000

/-- The rate figure whose four bytes stand at an offset of a body (R170); of the flags byte, bit 0 alone is read
(log 18). -/
def figureAt (body : List Byte) (off : Nat) : Figure :=
  { mantissa := field body off 2, exponent := signedAt body (off + 2), undef := (byteAt body (off + 3)).getLsbD 0 }

/-! ### Body lengths and broadcast kinds -/

/-- The body length each kind requires (R170); PATTERN_WRITE takes 1 to 192 data bytes after its three. -/
def bodyLengthOk (kind : BitVec 6) (n : Nat) : Bool :=
  match kind.toNat with
  | 0x04 => n == 1
  | 0x06 => n == 2
  | 0x08 => n == 7
  | 0x09 => n == 1
  | 0x0B => 4 ≤ n && n ≤ 195
  | 0x0C => n == 4
  | 0x10 => n == 4
  | 0x11 => n == 8
  | 0x12 => n == 3
  | 0x13 => n == 2
  | 0x14 => n == 17
  | 0x15 => n == 1
  | 0x16 => n == 1
  | 0x17 => n == 1
  | 0x18 => n == 7
  | 0x19 => n == 2
  | 0x1B => n == 4
  | 0x20 => n == 30
  | 0x21 => n == 1
  | 0x22 => n == 2
  | 0x23 => n == 3
  | 0x28 => n == 18
  | 0x2B => n == 15
  | 0x2C => n == 1
  | 0x30 => n == 4
  | 0x32 => n == 1
  | 0x34 => n == 4
  | _ => n == 0

/-- The kinds a broadcast may carry: GATE_START, GATE_STOP and RESET (R161). -/
def broadcastKind (kind : BitVec 6) : Bool := kind == 0x20 || kind == 0x21 || kind == 0x03

end Sys2Proof.Machine
end

