-- ==== Sys2Proof/Machine/Pattern.lean ====
section
/-! DEFINITION. Pattern.lean: patterns, pattern memory as regions see it, and playback (chapter 1). -/

namespace Sys2Proof.Machine

/-! ### Fixed patterns (R2, R3) -/

/-- The register length n of a fixed pattern (section 1.2); 0 for an id that names none. -/
def prbsLength : Nat → Nat
  | 1 => 7
  | 2 => 9
  | 3 => 11
  | 4 => 13
  | 5 => 15
  | 6 => 23
  | 7 => 31
  | _ => 0

/-- The feedback taps of a fixed pattern (section 1.2). -/
def prbsTaps : Nat → List Nat
  | 1 => [7, 6]
  | 2 => [9, 5]
  | 3 => [11, 9]
  | 4 => [13, 12, 2, 1]
  | 5 => [15, 14]
  | 6 => [23, 18]
  | 7 => [31, 28]
  | _ => []

/-- The register with all n stages at one (R3). -/
def prbsOnes (id : Nat) : BitVec 32 := BitVec.ofNat 32 (2 ^ prbsLength id - 1)

/-- The exclusive OR of the stages named as taps; stage i is bit i - 1 (R2). -/
def prbsFeedback (id : Nat) (reg : BitVec 32) : Bool :=
  (prbsTaps id).foldl (fun b t => b ^^ reg.getLsbD (t - 1)) false

/-- The register one place on with `b` in stage 1 and the old stage n dropped (R2). -/
def prbsShift (id : Nat) (reg : BitVec 32) (b : Bool) : BitVec 32 :=
  ((reg <<< 1) ||| (if b then 1 else 0)) &&& prbsOnes id

/-- One step of a PRBS register: the output bit is the feedback bit (R2). -/
def prbsStep (id : Nat) (reg : BitVec 32) : Bool × BitVec 32 :=
  (prbsFeedback id reg, prbsShift id reg (prbsFeedback id reg))

/-! ### Regions (R5, R6) -/

/-- The region table's entry of a user id, none when undefined or no user id (R1). -/
def Store.region (st : Store) (id : Nat) : Option Region :=
  if h : 16 ≤ id ∧ id < 32 then st.regions[id - 16]'(by omega) else none

/-- The words of a region's extent (R5). -/
def Region.words (r : Region) : Nat := (r.length + 63) / 64

/-- The last word of a region's extent (R5). -/
def Region.last (r : Region) : Nat := r.base + r.words - 1

/-- The bytes of a region's extent (section 1.5). -/
def Region.bytes (r : Region) : Nat := 8 * r.words

/-- Two extents share a word. -/
def Region.meets (a b : Region) : Bool := a.base ≤ b.last && b.base ≤ a.last

/-- The check every pattern id passes before anything else (R1): none when the id names a pattern. -/
def Store.checkPattern (st : Store) (id : Nat) : Option Status :=
  if 1 ≤ id ∧ id ≤ 7 then none
  else if 16 ≤ id ∧ id < 32 then (if (st.region id).isSome then none else some .noRegion)
  else some .badArg

/-! ### Playback (R12, R13) -/

/-- Bit position p of a region's pattern: byte p / 8 of its extent, first bit most significant (R4, R5). -/
def Store.bitAt (st : Store) (r : Region) (p : Nat) : Bool :=
  (readByte st.memory (8 * r.base + p / 8)).getMsbD (p % 8)

/-- The next bit of a pattern and the place after it (R2, R12). A user id with no region under it, which R6 rules out,
plays zeros (log 21). -/
def Store.nextBit (st : Store) (id : Nat) : Source → Bool × Source
  | .prbs reg => ((prbsStep id reg).1, .prbs (prbsStep id reg).2)
  | .user p =>
    match st.region id with
    | some r => (st.bitAt r p, .user (if p + 1 < r.length then p + 1 else 0))
    | none => (false, .user p)

/-- The next `n` bits of a pattern shifted into `w`, and the place after them. -/
def Store.takeBits (st : Store) (id : Nat) : Nat → Source → Word → Word × Source
  | 0, src, w => (w, src)
  | n + 1, src, w =>
    st.takeBits id n (st.nextBit id src).2 ((w <<< 1) ||| (if (st.nextBit id src).1 then 1 else 0))

/-- The next 32 bits of a pattern as a word, and the place after them (R20, R41). -/
def Store.takeWord (st : Store) (id : Nat) (src : Source) : Word × Source := st.takeBits id 32 src 0

/-- Where a pattern starts: the all-ones register, or position 0 (R3, R12). -/
def startSource (id : Nat) : Source := if id < 16 then .prbs (prbsOnes id) else .user 0

/-- The anchor of a region: the 64 bits of its base word (R13). -/
def Store.anchor (st : Store) (r : Region) : BitVec 64 :=
  BitVec.ofNat 64 (natOf ((List.range 8).map fun k => readByte st.memory (8 * r.base + k)))

/-! ### References (R6) -/

/-- The lanes whose generator configuration names the id. -/
def State.generatorsNaming (s : State) (id : Nat) : LaneSet := laneSetWhere fun l => (s.lane l).gen.pattern == id

/-- The lanes whose checker configuration names the id. -/
def State.checkersNaming (s : State) (id : Nat) : LaneSet := laneSetWhere fun l => (s.lane l).chk.config.pattern == id

/-- The region is referenced (R6). -/
def State.referenced (s : State) (id : Nat) : Bool :=
  s.generatorsNaming id != 0 || s.checkersNaming id != 0

/-- The region is in active use: the pattern of a RUNNING generator, or of a checker neither OFF nor HELD (R6). -/
def State.inActiveUse (s : State) (id : Nat) : Bool :=
  laneList.any fun l =>
    ((s.lane l).gen.run.isSome && (s.lane l).gen.pattern == id) ||
    ((s.lane l).chkState != .off && (s.lane l).chkState != .held && (s.lane l).chk.config.pattern == id)

/-- A word of this extent belongs to another defined region (R7). -/
def Store.clashes (st : Store) (id : Nat) (r : Region) : Bool :=
  (List.range 16).any fun k =>
    k + 16 != id && match st.region (k + 16) with
      | some other => r.meets other
      | none => false

/-! ### Requests of the pattern store -/

/-- Replace one entry of the region table. -/
def Store.setRegion (st : Store) (id : Nat) (r : Option Region) : Store :=
  if h : 16 ≤ id ∧ id < 32 then { st with regions := st.regions.set (id - 16) r (by omega) } else st

/-- A refused request's answer: the status alone (R162). -/
def refuse (st : Status) : Answer := { status := st, fields := .none }

/-- OK or ADJUSTED (00_scope, "Adjusted values"). -/
def okOr (adjusted : Bool) : Status := if adjusted then .adjusted else .ok

/-- REGION_DEFINE on its body (R7). The spec conflicts with itself on a length below 128: check 2, section 1.4 and R13 ask
for at least 128, and the worked examples of sections 1.4 and 1.5 define U2 with 100 bits and status OK. That check 2 holds,
so that a length of 100 is refused BAD_REGION, is the model's choice (DESIGN CHOICE, log 45). -/
def regionDefineAct (body : List Byte) (s : State) : State × Answer :=
  let id := field body 0 1
  let r : Region := { base := field body 1 2, length := field body 3 4 }
  if ¬(16 ≤ id ∧ id < 32) then (s, refuse .badArg)
  else if ¬(128 ≤ r.length ∧ r.length ≤ 262144) ∨ 4095 < r.base then (s, refuse .badRegion)
  else if 4095 < r.last then (s, refuse .badRegion)
  else if (s.store.region id).isSome && s.referenced id then (s, refuse .regionInUse)
  else if s.store.clashes id r then (s, refuse .regionClash)
  else ({ s with store := s.store.setRegion id (some r) },
    { status := .ok, fields := .regionDefine id r.base r.length r.base r.last })

/-- REGION_DELETE on its body (R8). -/
def regionDeleteAct (body : List Byte) (s : State) : State × Answer :=
  let id := field body 0 1
  if ¬(16 ≤ id ∧ id < 32) then (s, refuse .badArg)
  else if (s.store.region id).isNone then (s, refuse .noRegion)
  else if s.referenced id then (s, refuse .regionInUse)
  else ({ s with store := s.store.setRegion id none }, { status := .ok, fields := .regionDelete id })

/-- The region table as REGION_READ reports it (R9). -/
def State.regionRows (s : State) : List (Nat × Option RegionInfo) :=
  (List.range 16).map fun k =>
    (k + 16, (s.store.region (k + 16)).map fun r =>
      { region := r, first := r.base, last := r.last, generators := s.generatorsNaming (k + 16),
        checkers := s.checkersNaming (k + 16) })

/-- REGION_READ (R9). -/
def regionReadAct (s : State) : State × Answer := (s, { status := .ok, fields := .regionRead s.regionRows })

/-- PATTERN_WRITE on its body (R10). -/
def patternWriteAct (body : List Byte) (s : State) : State × Answer :=
  let id := field body 0 1
  let off := field body 1 2
  let data := body.drop 3
  if ¬(16 ≤ id ∧ id < 32) then (s, refuse .badArg)
  else match s.store.region id with
    | none => (s, refuse .noRegion)
    | some r =>
      if r.bytes < off + data.length then (s, refuse .badArg)
      else if s.inActiveUse id then (s, refuse .regionInUse)
      else ({ s with store := { s.store with memory := writeBytes s.store.memory (8 * r.base + off) data } },
        { status := .ok, fields := .patternWrite id off data.length })

/-- The byte count PATTERN_READ applies (R11). -/
def patternReadCount (r : Region) (off count : Nat) : Nat := min (clampNat 1 192 count) (r.bytes - off)

/-- PATTERN_READ on its body (R11). -/
def patternReadAct (body : List Byte) (s : State) : State × Answer :=
  let id := field body 0 1
  let off := field body 1 2
  let count := field body 3 1
  if ¬(16 ≤ id ∧ id < 32) then (s, refuse .badArg)
  else match s.store.region id with
    | none => (s, refuse .noRegion)
    | some r =>
      if r.bytes ≤ off then (s, refuse .badArg)
      else
        let n := patternReadCount r off count
        (s, { status := okOr (n != count)
              fields := .patternRead id off n
                ((List.range n).map fun k => readByte s.store.memory (8 * r.base + off + k)) })

end Sys2Proof.Machine
end

