-- ==== Sys2Proof/Machine/Generator.lean ====
section
/-! DEFINITION. Generator.lean: word production, error insertion, polarity, shaping (chapter 2). -/

namespace Sys2Proof.Machine

/-! ### Rate table and symbols (section 2.1, R14) -/

/-- bits_per_ms of a rate entry (section 2.1, R120). -/
def bitsPerMs (rate : Fin 4) : Nat :=
  match rate.val with
  | 0 => 10312500
  | 1 => 25781250
  | 2 => 53125000
  | _ => 106250000

/-- Symbol rate in kBd of a rate entry (section 2.1). -/
def symbolRateKBd (rate : Fin 4) : Nat :=
  match rate.val with
  | 0 => 10312500
  | 1 => 25781250
  | 2 => 26562500
  | _ => 53125000

/-- The level of a bit pair, more significant bit first (R14). -/
def grayLevel : Bool → Bool → PamLevel
  | false, false => 0
  | false, true => 1
  | true, true => 2
  | true, false => 3

/-- The level of symbol j (0 to 15) of a word on a PAM4 lane (R14). -/
def symbolLevel (w : Word) (j : Nat) : PamLevel := grayLevel (w.getMsbD (2 * j)) (w.getMsbD (2 * j + 1))

/-- The bit pair of a received level, more significant bit first: the same table read backwards (R14, R34). -/
def levelBits : PamLevel → List Bool
  | 0 => [false, false]
  | 1 => [false, true]
  | 2 => [true, true]
  | 3 => [true, false]

/-- The received bits of a lane of the given modulation, each PAM4 symbol decoded to its pair (R14, R34). Symbols of the
other modulation bring no bit to the lane (log 41). -/
def receivedBits (pam4 : Bool) : Reception → List Bool
  | .nrz bits => if pam4 then [] else bits
  | .pam4 levels => if pam4 then levels.flatMap levelBits else []

/-- Nominal amplitude in thirds of full swing: NRZ bits at -3 and +3 (R24). -/
def nrzAmplitude (b : Bool) : Int := if b then 3 else -3

/-- Nominal amplitude in thirds of full swing of a PAM4 level (R24). -/
def pamAmplitude (level : PamLevel) : Int := 2 * (level.val : Int) - 3

/-- The symbols of a word: 16 on a PAM4 lane, else its 32 bits (section 2.2). -/
def Production.symbols (p : Production) : Nat := if p.pam4 then 16 else 32

/-- The nominal amplitude of symbol j (from 0) of a word, in thirds of full swing (R24). -/
def Production.nominal (p : Production) (j : Nat) : Int :=
  if p.pam4 then pamAmplitude (symbolLevel p.word j) else nrzAmplitude (p.word.getMsbD j)

/-- The transmitted amplitude of a symbol from its own nominal amplitude and its neighbours', in 189ths of full swing
(63 times 3) (R24, log 20). -/
def shapedAmplitude (t : Triple) (preceding own following : Int) : Int :=
  t.pre * following + t.main * own + t.post * preceding

/-- The nominal amplitude of the symbol before a word, in thirds of full swing: the last of the word before it, or after
silence a free value from -3 to 3, so that the first symbol lies within full swing too (R24, log 40). -/
def precedingAmplitude : Option Production → Int
  | none => (Config.silentAmplitude.val : Int) - 3
  | some old => old.nominal (old.symbols - 1)

/-- The amplitude of the last symbol of the word before, settled by the first symbol of the next word and shaped with the
triple that its own word keeps (R22, R24). -/
def Production.lastAmplitude (old : Production) (following : Int) : Int :=
  shapedAmplitude old.triple (old.nominal (old.symbols - 2)) (old.nominal (old.symbols - 1)) following

/-- The amplitudes of a word's symbols but the last, which waits for the symbol that follows it (R24). -/
def Production.amplitudes (before : Int) (p : Production) : List Int :=
  (List.range (p.symbols - 1)).map fun j =>
    shapedAmplitude p.triple (if j = 0 then before else p.nominal (j - 1)) (p.nominal j) (p.nominal (j + 1))

/-- The amplitudes that the start of a word settles, in the order sent: the last symbol of the word before, then the word's
own but its last (R24, log 20). -/
def settledAmplitudes (before : Option Production) (p : Production) : List Int :=
  (before.map fun old => old.lastAmplitude (p.nominal 0)).toList ++ p.amplitudes (precedingAmplitude before)

/-! ### Shaping (R24, R25) -/

/-- The triple of a preset (section 2.3). -/
def presetTriple : Nat → Triple
  | 0 => ⟨0, 63, 0⟩
  | 1 => ⟨0, 55, -8⟩
  | 2 => ⟨0, 50, -13⟩
  | 3 => ⟨-4, 49, -10⟩
  | 4 => ⟨-6, 45, -12⟩
  | 5 => ⟨-8, 41, -14⟩
  | 6 => ⟨-10, 38, -15⟩
  | _ => ⟨-15, 33, -15⟩

/-- The sum of the weights' magnitudes of a triple whose outer weights are not positive and whose main is not negative. -/
def Triple.magnitude (t : Triple) : Int := t.main - t.pre - t.post

/-- First step: each weight to its own range (R25). -/
def Triple.clampRanges (t : Triple) : Triple :=
  { pre := clampInt (-15) 0 t.pre, main := clampInt 16 63 t.main, post := clampInt (-15) 0 t.post }

/-- Second step: main lowered until the magnitudes sum to 63 (R25). -/
def Triple.lowerMain (t : Triple) : Triple :=
  { t with main := if 63 < t.magnitude then 63 + t.pre + t.post else t.main }

/-- The applied triple of a custom request (R25). -/
def Triple.applied (t : Triple) : Triple := t.clampRanges.lowerMain

/-! ### Error insertion (R27 to R29) -/

/-- The word whose first `n` bits are ones. -/
def firstBits (n : Nat) : Word := ~~~(BitVec.allOnes 32 >>> n)

/-- The number of ones of a word. -/
def popCount (w : Word) : Nat := (List.range 32).foldl (fun n i => if w.getLsbD i then n + 1 else n) 0

/-- What the insertion stage does to one word: the bits it flips, and the mode and burst after it. -/
structure Insertion where
  flips : Word
  mode : InsertMode
  flight : Flight
  deriving DecidableEq, Repr

/-- A burst in progress flips the first bits of the word and, if bits remain, stays in progress. -/
def continueBurst (left : Nat) (after : Nat → Flight) (mode ended : InsertMode) : Insertion :=
  if left ≤ 32 then { flips := firstBits left, mode := ended, flight := .idle }
  else { flips := firstBits 32, mode := mode, flight := after (left - 32) }

/-- The RATE counter over one word: at most one flip, since 10^k is at least 1000 (R28). -/
def rateWord (k phase : Nat) : Insertion :=
  if 10 ^ k ≤ phase + 32 then
    { flips := 1#32 <<< (phase + 32 - 10 ^ k), mode := .rate k (phase + 32 - 10 ^ k), flight := .idle }
  else { flips := 0, mode := .rate k (phase + 32), flight := .idle }

/-- The insertion stage over one word (R27 to R29). A burst in progress comes first; the mode that waits behind it acts
from the first word begun after its last bit. -/
def Generator.insertion (g : Generator) : Insertion :=
  match g.flight, g.mode with
  | .own left, m => continueBurst left .own m .none
  | .detached left, m => continueBurst left .detached m m
  | .idle, .none => { flips := 0, mode := .none, flight := .idle }
  | .idle, .single => { flips := firstBits 1, mode := .none, flight := .idle }
  | .idle, .burst b => continueBurst b .own (.burst b) .none
  | .idle, .rate k phase => rateWord k phase

/-- Complement a word when the polarity is inverted (R23, R34). -/
def Polarity.word : Polarity → Word → Word
  | .normal, w => w
  | .inverted, w => ~~~w

/-- The other polarity. -/
def Polarity.flip : Polarity → Polarity
  | .normal => .inverted
  | .inverted => .normal

/-- A RUNNING generator begins its next word on a lane of the given modulation: 32 pattern bits, insertion, polarity,
shaping with the triple in force, and the count of flipped bits, which saturates (R20, R22, R23, R24, R30). An OFF
generator produces nothing. -/
def Generator.beginWord (st : Store) (pam4 : Bool) (g : Generator) : Generator :=
  match g.run with
  | none => g
  | some run =>
    let next := st.takeWord g.pattern run.source
    let ins := g.insertion
    let made : Production := { word := g.polarity.word (next.1 ^^^ ins.flips), pam4 := pam4, triple := g.triple }
    { g with
      run := some { source := next.2, word := some made, sent := settledAmplitudes run.word made }
      mode := ins.mode
      flight := ins.flight
      inserted := min Config.max48 (g.inserted + popCount ins.flips) }

/-- The bits of a word in the order sent. -/
def wordBits (w : Word) : List Bool := (List.range 32).map fun i => w.getMsbD i

/-- The word whose bits, in the order sent, are the first 32 of a list. -/
def wordOfBits (bits : List Bool) : Word :=
  (bits.take 32).foldl (fun w b => (w <<< 1) ||| (if b then 1 else 0)) 0

/-- The checker state takes bits from its input (R31, R33). -/
def CheckerState.listening : CheckerState → Bool
  | .off => false
  | .noSignal => false
  | .hunt => true
  | .verify => true
  | .locked => true
  | .held => false

/-- GENERATOR_WORD_START on one lane. With loopback on, the word's bits also go to a checker that is listening (R31). -/
def LaneState.generatorWord (st : Store) (x : LaneState) : LaneState :=
  { x with
    gen := x.gen.beginWord st x.pam4
    path :=
      if x.loopback && x.chkState.listening && x.gen.run.isSome then
        x.path ++ ((((x.gen.beginWord st x.pam4).run.bind GenRun.word).map fun p => wordBits p.word).getD [])
      else x.path }

/-- Begin the pattern again at its first bit from the next word (R3, R12, R22). -/
def Generator.reload (g : Generator) : Generator :=
  { g with run := g.run.map fun r => { r with source := startSource g.pattern } }

/-- Enter RUNNING at the pattern's first bit (R18). -/
def Generator.start (g : Generator) : Generator :=
  { g with run := some { source := startSource g.pattern, word := none, sent := [] } }

/-- Enter OFF: the word in production is dropped, the place discarded, a burst in progress ended; the mode becomes NONE
unless a GEN_INSERT replaced it (R18, R29). -/
def Generator.stop (g : Generator) : Generator :=
  { g with
    run := none
    mode := match g.flight with
      | .own _ => .none
      | _ => g.mode
    flight := .idle }

/-- A SINGLE or BURST waits for its word (R27). -/
def Generator.insertionPending (g : Generator) : Bool :=
  match g.mode, g.flight with
  | .single, _ => true
  | .burst _, .own _ => false
  | .burst _, _ => true
  | _, _ => false

/-- A pending SINGLE or BURST is withdrawn (R29). -/
def Generator.cancelPending (g : Generator) : Generator :=
  { g with mode := if g.insertionPending then .none else g.mode }

/-- Take a new insertion mode; a burst in progress is held apart from it (R26, R29). -/
def Generator.setMode (m : InsertMode) (g : Generator) : Generator :=
  { g with
    mode := m
    flight := match g.flight with
      | .own left => .detached left
      | f => f }

/-- Apply GEN_SET's values; the word in production keeps its own bits and its own triple (R21, R22). -/
def Generator.configure (pattern : Nat) (pol : Polarity) (src : ShapingSource) (t : Triple) (g : Generator) : Generator :=
  let g' := { g.cancelPending with pattern := pattern, polarity := pol, shaping := src, triple := t }
  if g.pattern != pattern || g.polarity != pol then g'.reload else g'

/-- GEN_SET with these values reloads this generator (R22). -/
def Generator.reloads (pattern : Nat) (pol : Polarity) (g : Generator) : Bool :=
  g.run.isSome && (g.pattern != pattern || g.polarity != pol)

/-! ### Requests of the generator -/

/-- Apply a function to every named lane, in ascending order. -/
def State.onLanes (b : LaneSet) (f : LaneState → LaneState) (s : State) : State :=
  (lanesOf b).foldl (fun s l => s.modLane l f) s

/-- The named lanes whose present state satisfies `p`. -/
def State.namedWhere (s : State) (b : LaneSet) (p : LaneState → Bool) : LaneSet :=
  laneSetWhere fun l => b.getLsbD l.val && p (s.lane l)

/-- GEN_SET once its checks have passed (R21, R22). -/
def genSetApply (b : LaneSet) (pattern : Nat) (pol : Polarity) (src : ShapingSource) (t : Triple) (adjusted : Bool)
    (s : State) : State × Answer :=
  (s.onLanes b fun x => { x with gen := x.gen.configure pattern pol src t },
    { status := okOr adjusted
      fields := .genSet pattern pol t (s.namedWhere b fun x => x.gen.reloads pattern pol)
        (s.namedWhere b fun x => x.gen.insertionPending) })

/-- GEN_SET on its body (R21, R25). -/
def genSetAct (body : List Byte) (s : State) : State × Answer :=
  let b := byteAt body 0
  let pattern := field body 1 1
  let requested : Triple := { pre := signedAt body 5, main := signedAt body 6, post := signedAt body 7 }
  if s.namesAbsent b then (s, refuse .noLane)
  else if b = 0 then (s, refuse .badArg)
  else match Polarity.ofCode (field body 2 1), switchOf (field body 3 1) with
    | some pol, some custom =>
      if !custom && 7 < field body 4 1 then (s, refuse .badArg)
      else match s.store.checkPattern pattern with
        | some st => (s, refuse st)
        | none =>
          if custom then genSetApply b pattern pol .custom requested.applied (requested.applied != requested) s
          else genSetApply b pattern pol (.preset (field body 4 1)) (presetTriple (field body 4 1)) false s
    | _, _ => (s, refuse .badArg)

/-- The insertion mode a GEN_INSERT applies, and whether its parameter was clamped (R26). -/
def insertModeOf (code param : Nat) : Option (InsertMode × Bool) :=
  match code with
  | 0 => some (.none, false)
  | 1 => some (.single, false)
  | 2 => some (.burst (clampNat 1 64 param), clampNat 1 64 param != param)
  | 3 => some (.rate (clampNat 3 12 param) 0, clampNat 3 12 param != param)
  | _ => none

/-- GEN_INSERT on its body (R26). -/
def genInsertAct (body : List Byte) (s : State) : State × Answer :=
  let b := byteAt body 0
  if s.namesAbsent b then (s, refuse .noLane)
  else if b = 0 then (s, refuse .badArg)
  else match insertModeOf (field body 1 1) (field body 2 1) with
    | none => (s, refuse .badArg)
    | some (m, adjusted) =>
      (s.onLanes b fun x => { x with gen := x.gen.setMode m },
        { status := okOr adjusted, fields := .genInsert m (s.namedWhere b fun x => x.gen.insertionPending) })

/-- The progress GEN_READ reports of a SINGLE or BURST (R30). -/
def Generator.progress (g : Generator) : InsertProgress :=
  match g.mode, g.flight with
  | .burst _, .own left => .inProgress left
  | .single, _ => .pending 1
  | .burst b, _ => .pending b
  | _, _ => .none

/-- The bits left of a burst whose mode has been replaced (R30). -/
def Flight.replacedLeft : Flight → Nat
  | .detached left => left
  | _ => 0

/-- GEN_READ's fields for one lane (R30). -/
def LaneState.genReadFields (x : LaneState) : GenReadFields :=
  { power := x.power, rate := x.rate, loopback := x.loopback, state := x.gen.state, pattern := x.gen.pattern,
    polarity := x.gen.polarity, shaping := x.gen.shaping, triple := x.gen.triple, mode := x.gen.mode,
    progress := x.gen.progress, replacedLeft := x.gen.flight.replacedLeft, inserted := x.gen.inserted }

/-- GEN_READ on its body; the clear option is any value but 0 (R30, R170). -/
def genReadAct (body : List Byte) (s : State) : State × Answer :=
  match s.existingLane (byteAt body 0) with
  | none => (s, refuse .noLane)
  | some l =>
    (s.modLane l fun x => { x with gen := { x.gen with inserted := if field body 1 1 = 0 then x.gen.inserted else 0 } },
      { status := .ok, fields := .genRead (s.lane l).genReadFields })

end Sys2Proof.Machine
end

