-- ==== Sys2Proof/Machine/Arithmetic.lean ====
section
/-! DEFINITION. Arithmetic.lean: the rate arithmetic unit (chapter 7). It holds no state (R110). -/

namespace Sys2Proof.Machine

/-- The zero figure (R109). -/
def Figure.zero : Figure := { mantissa := 0, exponent := 0, undef := false }

/-- The undefined figure (R109, R111). -/
def Figure.undefined : Figure := { mantissa := 0, exponent := 0, undef := true }

/-- A defined, non-zero figure (R90, R109). -/
def Figure.valid (f : Figure) : Bool :=
  1000 ≤ f.mantissa && f.mantissa ≤ 9999 && -20 ≤ f.exponent && f.exponent ≤ 0 && !f.undef

/-- The zero figure, its flag clear: no confidence target (R90, R109). -/
def Figure.isZero (f : Figure) : Bool := f.mantissa == 0 && f.exponent == 0 && !f.undef

/-- The comparison of defined figures by value (R109): the larger exponent, then the larger mantissa; zero is below every
non-zero figure; an undefined figure compares with nothing. -/
def Figure.below (f g : Figure) : Bool :=
  !f.undef && !g.undef && !g.isZero &&
    (f.isZero || f.exponent < g.exponent || (f.exponent == g.exponent && f.mantissa < g.mantissa))

/-- The least k, from `k` on and within `fuel` steps, with num × 10^k at least den: minus the decimal exponent of a
quotient below 10, found by exact comparison (R112, R115). -/
def decade (num den : Nat) : (fuel k : Nat) → Nat
  | 0, k => k
  | fuel + 1, k => if den ≤ num * 10 ^ k then k else decade num den fuel (k + 1)

/-- Division rounded up. -/
def ceilDiv (a b : Nat) : Nat := (a + b - 1) / b

/-- The ratio figure of E errors in N bits, rounded toward zero (R111, R112). -/
def ratioFigure (e n : Nat) : Figure :=
  if n = 0 then .undefined
  else if e = 0 then .zero
  else
    let k := decade e n 20 0
    { mantissa := e * 10 ^ (3 + k) / n, exponent := -(k : Int), undef := false }

/-- One row of the table of R113: the count bound in thousandths at 90, 95 and 99 %. -/
def boundRow : Nat → Nat × Nat × Nat
  | 0 => (2303, 2996, 4605)
  | 1 => (3890, 4744, 6638)
  | 2 => (5322, 6296, 8406)
  | 3 => (6681, 7754, 10045)
  | 4 => (7994, 9154, 11605)
  | 5 => (9275, 10513, 13108)
  | 6 => (10532, 11842, 14571)
  | 7 => (11771, 13148, 16000)
  | 8 => (12995, 14435, 17403)
  | 9 => (14206, 15705, 18783)
  | 10 => (15407, 16962, 20145)
  | 11 => (16598, 18208, 21490)
  | 12 => (17782, 19443, 22821)
  | 13 => (18958, 20669, 24139)
  | 14 => (20128, 21886, 25446)
  | _ => (21292, 23097, 26743)

/-- The constant z of R114. -/
def Level.z : Level → Nat
  | .cl90 => 1282
  | .cl95 => 1645
  | .cl99 => 2326

/-- The constant c of R114. -/
def Level.c : Level → Nat
  | .cl90 => 1214
  | .cl95 => 1568
  | .cl99 => 2470

/-- The column of a level in the table of R113. -/
def Level.column (cl : Level) (row : Nat × Nat × Nat) : Nat :=
  match cl with
  | .cl90 => row.1
  | .cl95 => row.2.1
  | .cl99 => row.2.2

/-- The count bound Q in thousandths (R113, R114). -/
def countBound (e : Nat) (cl : Level) : Nat :=
  if e < 16 then cl.column (boundRow e)
  else 1000 * e + cl.z * Nat.sqrt ((e + 1) * 10 ^ 6) / 1000 + cl.c

/-- A bound mantissa of 10000 is renormalised (R115). -/
def renormalise (m : Nat) (x : Int) : Figure :=
  if m = 10000 then { mantissa := 1000, exponent := x + 1, undef := false }
  else { mantissa := m, exponent := x, undef := false }

/-- The bound figure of E errors in N bits, rounded upward (R111, R115). -/
def boundFigure (e n : Nat) (cl : Level) : Figure :=
  if n = 0 then .undefined
  else
    let q := countBound e cl
    let k := decade q (1000 * n) 20 0
    renormalise (ceilDiv (q * 10 ^ (3 + k)) (1000 * n)) (-(k : Int))

/-- Ten to the power 3 - tx of a target's exponent tx (R118). -/
def Figure.scale (f : Figure) : Nat := 10 ^ (3 - f.exponent).toNat

/-- The confidence stop holds: the exact bound is below the target (R118). -/
def confident (e n : Nat) (cl : Level) (target : Figure) : Bool :=
  countBound e cl * target.scale < 1000 * n * target.mantissa

/-- The smallest number of compared bits at which the stop would hold (R119). -/
def bitsNeeded (e : Nat) (cl : Level) (target : Figure) : Nat :=
  countBound e cl * target.scale / (1000 * target.mantissa) + 1

/-- The time to confidence in ms, capped at 64 bits (R119, R120). -/
def timeToConfidence (e n : Nat) (cl : Level) (target : Figure) (rate : Fin 4) : TimeToConfidence :=
  let ms := ceilDiv (bitsNeeded e cl target - n) (bitsPerMs rate)
  { ms := min Config.max64 ms, capped := Config.max64 < ms }

end Sys2Proof.Machine
end

