-- ==== Sys2Proof/Machine/Filter.lean ====
section
/-! DEFINITION. Filter.lean: the filter table (chapter 5). -/

namespace Sys2Proof.Machine

/-- The bit of a direction in a direction set (R170). -/
def Direction.bit : Direction → Nat
  | .onesToZero => 0
  | .zerosToOne => 1

/-- A valid filter matches an errored bit: lane, direction, and the context outside the mask (R77). -/
def Filter.matchesBit (f : Filter) (l : Lane) (d : Direction) (ctx : BitVec 16) : Bool :=
  f.lanes.getLsbD l.val && f.directions.getLsbD d.bit && ((ctx ^^^ f.value) &&& ~~~f.mask) == 0

/-- The sixteen filter numbers. -/
def filterList : List (Fin 16) := [0, 1, 2, 3, 4, 5, 6, 7, 8, 9, 10, 11, 12, 13, 14, 15]

/-- The filters that match an errored bit, in ascending order (R79). -/
def matching (table : Vector (Option Filter) 16) (l : Lane) (d : Direction) (ctx : BitVec 16) : List (Fin 16) :=
  filterList.filter fun k => match table[k] with
    | some f => f.matchesBit l d ctx
    | none => false

/-- The class of an errored bit: unmatched, one filter's, or overlap (R63). -/
def classify (table : Vector (Option Filter) 16) (l : Lane) (d : Direction) (ctx : BitVec 16) : FilterClass :=
  match matching table l d ctx with
  | [] => .unmatched
  | [k] => .filter k
  | _ => .overlap

/-- A filter set as a bit map: bit k stands for Fk (R170). -/
def filterSetWhere (p : Fin 16 → Bool) : BitVec 16 :=
  filterList.foldl (fun b k => if p k then b ||| (1#16 <<< k.val) else b) 0

/-- Bit 0 is unmasked and the direction set holds only the direction that bit 0 of the value excludes (R78). -/
def Filter.unmatchable (f : Filter) : Bool :=
  !f.mask.getLsbD 0 &&
    ((f.value.getLsbD 0 && f.directions == 0b10) || (!f.value.getLsbD 0 && f.directions == 0b01))

/-- The lane set holds a lane whose gate is ARMED, RUNNING or PAUSED (R80). -/
def State.holdsActiveGate (s : State) (b : LaneSet) : Bool := (lanesOf b).any fun l => (s.lane l).gate.state.active

/-- The filter is in use (R80). -/
def State.filterInUse (s : State) (k : Fin 16) : Bool :=
  match s.filters[k] with
  | some f => s.holdsActiveGate f.lanes
  | none => false

/-! ### Requests of the filter table -/

/-- FILTER_SET on its body (R81). Of the direction set, bits 0 and 1 are read (R170). A request that repeats the filter's
present definition is accepted and changes nothing, whatever the gates; R80 blocks changes. -/
def filterSetAct (body : List Byte) (s : State) : State × Answer :=
  let f : Filter :=
    { value := BitVec.ofNat 16 (field body 1 2), mask := BitVec.ofNat 16 (field body 3 2)
      directions := (byteAt body 5).setWidth 2, lanes := byteAt body 6 }
  if h : field body 0 1 < 16 then
    let k : Fin 16 := ⟨field body 0 1, h⟩
    if s.namesAbsent f.lanes then (s, refuse .noLane)
    else if f.value &&& f.mask ≠ 0 ∨ f.directions = 0 ∨ f.lanes = 0 then (s, refuse .badFilter)
    else if s.filters[k] ≠ some f ∧ (s.filterInUse k || s.holdsActiveGate f.lanes) then (s, refuse .filterInUse)
    else ({ s with filters := s.filters.set k (some f) },
      { status := .ok, fields := .filterSet k.val f f.unmatchable })
  else (s, refuse .badArg)

/-- The table with every filter of a set made invalid (R82). -/
def clearFilters (b : BitVec 16) (table : Vector (Option Filter) 16) : Vector (Option Filter) 16 :=
  Vector.ofFn fun k => if b.getLsbD k.val then none else table[k]

/-- FILTER_CLEAR on its body (R82). -/
def filterClearAct (body : List Byte) (s : State) : State × Answer :=
  let b := BitVec.ofNat 16 (field body 0 2)
  if b = 0 then (s, refuse .badArg)
  else if filterList.any fun k => b.getLsbD k.val && s.filterInUse k then (s, refuse .filterInUse)
  else ({ s with filters := clearFilters b s.filters },
    { status := .ok
      fields := .filterClear (filterSetWhere fun k => b.getLsbD k.val && s.filters[k].isSome)
        (filterSetWhere fun k => b.getLsbD k.val && s.filters[k].isNone) })

/-- The table as FILTER_READ reports it (R84). -/
def State.filterRows (s : State) : List (Nat × Option FilterInfo) :=
  filterList.map fun k =>
    (k.val, s.filters[k].map fun f => { filter := f, unmatchable := f.unmatchable, inUse := s.filterInUse k })

/-- FILTER_READ (R84). -/
def filterReadAct (s : State) : State × Answer := (s, { status := .ok, fields := .filterRead s.filterRows })

/-- FILTER_PROBE on its body (R85). -/
def filterProbeAct (body : List Byte) (s : State) : State × Answer :=
  match s.existingLane (byteAt body 0), Direction.ofCode (field body 1 1) with
  | none, _ => (s, refuse .noLane)
  | some _, none => (s, refuse .badArg)
  | some l, some d =>
    let ctx := BitVec.ofNat 16 (field body 2 2)
    (s, { status := .ok
          fields := .filterProbe (filterSetWhere fun k => (matching s.filters l d ctx).contains k)
            (classify s.filters l d ctx) })

end Sys2Proof.Machine
end

