-- ==== Sys2Proof/Machine/Accounting.lean ====
section
/-! DEFINITION. Accounting.lean: word results and word tallies (section 3.4, chapter 4). -/

namespace Sys2Proof.Machine

/-! ### Word results (R49 to R51) -/

/-- The direction of an errored bit from its expected value (R50). -/
def directionOf (expected : Bool) : Direction := if expected then .onesToZero else .zerosToOne

/-- The context word of the bit at index i (position i + 1): the 16 expected bits ending at it (R50). -/
def contextWord (last15 : BitVec 15) (expected : Word) (i : Nat) : BitVec 16 :=
  ((last15 ++ expected) >>> (31 - i)).setWidth 16

/-- The entry of the bit at index i, if it is in error. -/
def erroredBit (last15 : BitVec 15) (expected received : Word) (i : Nat) : Option ErroredBit :=
  if expected.getMsbD i = received.getMsbD i then none
  else some { position := i + 1, direction := directionOf (expected.getMsbD i), context := contextWord last15 expected i }

/-- The difference of two levels. -/
def levelGap (a b : Nat) : Nat := if a ≤ b then b - a else a - b

/-- The entry of symbol j (from 0), if it is in error; its distance is measured on the lane (R51). -/
def symbolError (pol : Polarity) (expected received : Word) (j : Nat) : Option SymbolError :=
  if expected.getMsbD (2 * j) = received.getMsbD (2 * j) ∧ expected.getMsbD (2 * j + 1) = received.getMsbD (2 * j + 1)
  then none
  else some { index := j + 1, distance := levelGap (symbolLevel (pol.word expected) j).val (symbolLevel (pol.word received) j).val }

/-- The word result of a compared word; `received` is in the pattern sense (R49). -/
def buildResult (l : Lane) (pam4 : Bool) (pol : Polarity) (last15 : BitVec 15) (expected received : Word) : WordResult :=
  { lane := l, expected := expected, received := received
    bits := (List.range 32).filterMap (erroredBit last15 expected received)
    symbols := if pam4 then (List.range 16).filterMap (symbolError pol expected received) else [] }

/-! ### Bursts (R64 to R66) -/

/-- The histogram bin of a burst of k errored bits (R66). -/
def burstBin (k : Nat) : Fin 12 :=
  if k ≤ 1 then 0 else if k ≤ 2 then 1 else if k ≤ 4 then 2 else if k ≤ 8 then 3 else if k ≤ 16 then 4
  else if k ≤ 32 then 5 else if k ≤ 64 then 6 else if k ≤ 128 then 7 else if k ≤ 256 then 8 else if k ≤ 512 then 9
  else if k ≤ 1024 then 10 else 11

/-- Add 1 to a bin. -/
def addBin (bins : Vector Nat 12) (k : Fin 12) : Vector Nat 12 := bins.set k (bins[k] + 1)

/-- The walk through a word: the tracker, the bursts opened and closed, and the index at which the first one opened. -/
structure BurstWalk where
  tracker : Tracker
  opened : Nat
  bins : Vector Nat 12
  first : Option Nat
  deriving DecidableEq, Repr

/-- One bit of the walk, with burst gap g (R64, R65). -/
def BurstWalk.bit (g : Nat) (b : BurstWalk) (i : Nat) (errored : Bool) : BurstWalk :=
  match b.tracker, errored with
  | .closed, true => { b with tracker := .opened 1 0, opened := b.opened + 1, first := b.first.or (some i) }
  | .closed, false => b
  | .opened k _, true => { b with tracker := .opened (min 1025 (k + 1)) 0 }
  | .opened k run, false =>
    if run < g then { b with tracker := .opened k (run + 1) }
    else { b with tracker := .closed, bins := addBin b.bins (burstBin k) }

/-- The walk through a word from bit 1 to bit 32; `errs` has a one at each errored bit (R64). -/
def walkWord (g : Nat) (t : Tracker) (errs : Word) : BurstWalk :=
  (List.range 32).foldl (fun b i => b.bit g i (errs.getMsbD i))
    { tracker := t, opened := 0, bins := Vector.replicate 12 0, first := none }

/-! ### The tally (R59 to R63, R71 to R73) -/

/-- Add one errored bit's direction and class to a set of increments (R61, R63). -/
def Counters.addBit (table : Vector (Option Filter) 16) (l : Lane) (c : Counters) (e : ErroredBit) : Counters :=
  let c := match e.direction with
    | .onesToZero => { c with onesToZero := c.onesToZero + 1 }
    | .zerosToOne => { c with zerosToOne := c.zerosToOne + 1 }
  match classify table l e.direction e.context with
  | .filter k => { c with filters := c.filters.set k (c.filters[k] + 1) }
  | .unmatched => { c with unmatched := c.unmatched + 1 }
  | .overlap => { c with overlap := c.overlap + 1 }

/-- The symbol entries of one level distance. -/
def countDistance (syms : List SymbolError) (d : Nat) : Nat := (syms.filter fun y => y.distance == d).length

/-- A word tally: the increments, the tracker and mark after the word, and the candidate (R59). -/
structure Tally where
  inc : Counters
  tracker : Tracker
  mark : Bool
  candidate : Option Candidate
  deriving DecidableEq, Repr

/-- The quota lets a candidate of the lane arise (R71, R146). -/
def CaptureLane.quotaAllows (c : CaptureLane) : Bool := c.quota == 0 || c.quotaCount < c.quota

/-- The candidate a tally raises (R71, R72). -/
def tallyCandidate (x : LaneState) (cap : CaptureLane) (wr : WordResult) (last15 : BitVec 15) (walk : BurstWalk) :
    Option Candidate :=
  if !cap.quotaAllows then none
  else match cap.mode, wr.bits, walk.first with
    | .words, e :: _, _ =>
      some { lane := wr.lane, elapsed := x.gate.counts.elapsed, bits := x.gate.counters.bits
             body := .errorWord e.context wr.expected wr.received }
    | .bursts, _, some i =>
      some { lane := wr.lane, elapsed := x.gate.counts.elapsed, bits := x.gate.counters.bits
             body := .burstStart (contextWord last15 wr.expected i) wr.expected wr.received (x.gate.counters.bursts + 1) }
    | _, _, _ => none

/-- The increments of a word that its bits and symbols give (R60 to R63). -/
def resultIncrements (table : Vector (Option Filter) 16) (pam4 : Bool) (wr : WordResult) : Counters :=
  let base := wr.bits.foldl (Counters.addBit table wr.lane) Counters.zero
  { base with
    bits := 32
    errors := wr.bits.length
    symbols := if pam4 then wr.symbols.length else wr.bits.length
    d1 := countDistance wr.symbols 1
    d2 := countDistance wr.symbols 2
    d3 := countDistance wr.symbols 3 }

/-- The tally of a word result, from the accounting state as it stands (R59). -/
def buildTally (table : Vector (Option Filter) 16) (cap : CaptureLane) (x : LaneState) (last15 : BitVec 15)
    (wr : WordResult) : Tally :=
  let walk := walkWord x.chk.config.g x.acct.tracker (wr.expected ^^^ wr.received)
  let cand := tallyCandidate x cap wr last15 walk
  { inc :=
      { resultIncrements table x.pam4 wr with
        bursts := walk.opened
        bins := walk.bins
        missed := if cand.isSome && cap.slot.isSome then 1 else 0 }
    tracker := walk.tracker
    mark := x.acct.mark || !wr.bits.isEmpty
    candidate := cand }

/-! ### Saturation (R70) -/

/-- Add vectors entry by entry. -/
def addVec {n : Nat} (a b : Vector Nat n) : Vector Nat n := Vector.ofFn fun k => a[k] + b[k]

/-- Add increments to counters (R59). -/
def Counters.add (c t : Counters) : Counters :=
  { bits := c.bits + t.bits, errors := c.errors + t.errors, onesToZero := c.onesToZero + t.onesToZero,
    zerosToOne := c.zerosToOne + t.zerosToOne, symbols := c.symbols + t.symbols, d1 := c.d1 + t.d1, d2 := c.d2 + t.d2,
    d3 := c.d3 + t.d3, filters := addVec c.filters t.filters, unmatched := c.unmatched + t.unmatched,
    overlap := c.overlap + t.overlap, bursts := c.bursts + t.bursts, bins := addVec c.bins t.bins,
    errIntervals := c.errIntervals + t.errIntervals, cleanIntervals := c.cleanIntervals + t.cleanIntervals,
    missed := c.missed + t.missed }

/-- Every counter is within its maximum (section 4.1). -/
def Counters.withinMax (c : Counters) : Bool :=
  c.bits ≤ Config.max64 && c.errors ≤ Config.max48 && c.onesToZero ≤ Config.max48 && c.zerosToOne ≤ Config.max48 &&
  c.symbols ≤ Config.max48 && c.d1 ≤ Config.max48 && c.d2 ≤ Config.max48 && c.d3 ≤ Config.max48 &&
  c.filters.all (· ≤ Config.max48) && c.unmatched ≤ Config.max48 && c.overlap ≤ Config.max48 &&
  c.bursts ≤ Config.max32 && c.bins.all (· ≤ Config.max32) && c.errIntervals ≤ Config.max32 &&
  c.cleanIntervals ≤ Config.max32 && c.missed ≤ Config.max32

/-! ### Closures (R67 to R69) -/

/-- The open burst closes into its bin; a closed tracker stays as it is (R67). -/
def LaneState.closeBurst (x : LaneState) : LaneState :=
  { x with
    acct := { x.acct with tracker := .closed }
    gate := { x.gate with counters := { x.gate.counters with
      bins := match x.acct.tracker with
        | .opened k _ => addBin x.gate.counters.bins (burstBin k)
        | .closed => x.gate.counters.bins } } }

/-- An interval closes: errored when marked, clean otherwise, and the mark clears (R68). -/
def LaneState.closeInterval (x : LaneState) : LaneState :=
  { x with
    acct := { x.acct with mark := false }
    gate := { x.gate with counters := { x.gate.counters with
      errIntervals := if x.acct.mark then x.gate.counters.errIntervals + 1 else x.gate.counters.errIntervals
      cleanIntervals := if x.acct.mark then x.gate.counters.cleanIntervals else x.gate.counters.cleanIntervals + 1 } } }

/-- The open interval is settled at a gate's end: counted when marked, dropped otherwise (R69). A count that stands at its
maximum takes a free value (log 15). -/
def LaneState.settleInterval (x : LaneState) : LaneState :=
  { x with
    acct := { x.acct with mark := false }
    gate := { x.gate with counters := { x.gate.counters with
      errIntervals :=
        if x.acct.mark then
          (if x.gate.counters.errIntervals < Config.max32 then x.gate.counters.errIntervals + 1
           else Config.errIntervalsPastMax.toNat)
        else x.gate.counters.errIntervals } } }

end Sys2Proof.Machine
end

