-- ==== Sys2Proof/Machine/Flags.lean ====
section
/-! DEFINITION. Flags.lean: the alarm history's flags and the ALARM notice (R165). -/

namespace Sys2Proof.Machine

/-- The bit of a history flag in a set (R170). -/
def HistoryFlag.bit : HistoryFlag → Nat
  | .losSeen => 0
  | .lockLost => 1
  | .verifyFailed => 2
  | .captureMissed => 3
  | .saturated => 4

/-- The set that holds one flag. -/
def HistoryFlag.mask (f : HistoryFlag) : HistorySet := 1#5 <<< f.bit

/-- The lane's flag is set. -/
def State.flagSet (s : State) (l : Lane) (f : HistoryFlag) : Bool := s.history[l].getLsbD f.bit

/-- Set a history flag. A change from clear to set queues an ALARM notice with the lane's flags as they then stand
(R165). -/
def State.setFlag (l : Lane) (f : HistoryFlag) (s : State) : State :=
  { s with
    history := s.history.set l (s.history[l] ||| f.mask)
    line := if s.flagSet l f then s.line else s.line.queueNotice (.alarm l (s.history[l] ||| f.mask) f) }

/-- The history summary: each flag set on at least one existing lane (R167). -/
def State.historySummary (s : State) : HistorySet :=
  (lanesOf (strapLanes s.straps)).foldl (fun b l => b ||| s.history[l]) 0

end Sys2Proof.Machine
end

