-- ==== Sys2Proof/Machine/Gate.lean ====
section
/-! DEFINITION. Gate.lean: measurement gates (chapter 6). -/

namespace Sys2Proof.Machine

/-- The settings of a gate. An active or DONE gate always holds some; without any, no stop is set (log 22). -/
def Gate.config (g : Gate) : GateSettings :=
  g.settings.getD { mode := .now, policy := .keep, duration := 0, bitLimit := 0, errorLimit := 0, target := .zero,
                    level := .cl95, armTimeout := 0, interval := 0 }

/-! ### Ending a gate (R103, R104) -/

/-- The result record of a gate that ends at uptime `now`, from the lane after its closures (R104). -/
def LaneState.record (l : Lane) (reason : EndReason) (now : Nat) (x : LaneState) : ResultRecord :=
  { lane := l, reason := reason, startStamp := x.gate.startStamp.getD 0, endStamp := now, counters := x.gate.counters,
    counts := x.gate.counts, settings := x.gate.config,
    ratio := ratioFigure x.gate.counters.errors x.gate.counters.bits,
    bound := boundFigure x.gate.counters.errors x.gate.counters.bits x.gate.config.level,
    pattern := x.chk.config.pattern, patternChanged := x.gate.startPattern != some x.chk.config.pattern, rate := x.rate }

/-- The gate enters DONE: burst closed, interval settled, record written (R103). -/
def LaneState.finishGate (l : Lane) (reason : EndReason) (now : Nat) (x : LaneState) : LaneState :=
  let y := x.closeBurst.settleInterval
  { y with gate := { y.gate with state := .done, endStamp := some now, result := some (y.record l reason now) } }

/-- A gate ends and queues its GATE notice (R103). -/
def State.endGate (l : Lane) (reason : EndReason) (s : State) : State :=
  (s.modLane l (LaneState.finishGate l reason s.uptime)).queueNotice (.gate l reason)

/-- A gate ends SATURATED; the history flag is set before the record is written (R100, R103). -/
def State.saturateGate (l : Lane) (s : State) : State := (s.setFlag l .saturated).endGate l .saturated

/-! ### Lock events (R94, R96, R97, R101) -/

/-- A lock resumes an ARMED or PAUSED gate (R94, R97). -/
def Gate.onLock (g : Gate) : Gate :=
  { g with state := match g.state with
      | .armed => .running
      | .paused => .running
      | st => st }

/-- A RUNNING gate pauses; the open burst closes (R97). -/
def LaneState.pauseGate (x : LaneState) : LaneState :=
  { x.closeBurst with gate := { x.closeBurst.gate with state := .paused } }

/-- Add one lock loss. -/
def Gate.addLoss (g : Gate) : Gate := { g with counts := { g.counts with lockLosses := g.counts.lockLosses + 1 } }

/-- A lock loss that reaches a RUNNING gate, by reason and policy (R96). -/
def State.lockLoss (l : Lane) (held : Bool) (s : State) : State :=
  if (s.lane l).gate.counts.lockLosses = Config.max32 then s.saturateGate l
  else
    let s' := s.modGate l Gate.addLoss
    if held then s'.modLane l LaneState.pauseGate
    else match (s.lane l).gate.config.policy with
      | .keep => s'
      | .pause => s'.modLane l LaneState.pauseGate
      | .abort => s'.endGate l .lockLost

/-- The gate loses its receive power: an active gate ends LANE_OFF (R101). -/
def State.gateLaneOff (l : Lane) (s : State) : State :=
  if (s.lane l).gate.state.active then s.endGate l .laneOff else s

/-- What the gate does with a transition of its checker (R88, and the table of section 6.8). On any exit from LOCKED the
open burst closes (R67). -/
def State.gateTransition (l : Lane) (left entered : CheckerState) (reason : Reason) (s : State) : State :=
  if entered = .locked then s.modGate l Gate.onLock
  else
    let s' := if left = .locked then s.modLane l LaneState.closeBurst else s
    if entered = .off then s'.gateLaneOff l
    else if (s.lane l).gate.state = .running then
      (if left = .locked ∧ (reason = .errors ∨ reason = .signal ∨ reason = .held) then s'.lockLoss l (reason = .held)
       else if entered = .held then s'.modLane l LaneState.pauseGate
       else s')
    else s'

/-! ### The gate timer (R93 to R95) -/

/-- Arm-wait ms one further, holding at the maximum (R87). -/
def Gate.tickArm (g : Gate) : Gate := { g with counts := { g.counts with armWait := min Config.max32 (g.counts.armWait + 1) } }

/-- Paused ms one further. -/
def Gate.tickPaused (g : Gate) : Gate := { g with counts := { g.counts with paused := g.counts.paused + 1 } }

/-- Steps 2 to 4 of R95: elapsed ms, unlocked ms, and the interval that is due. -/
def LaneState.tickRunning (x : LaneState) : LaneState :=
  let y := { x with gate := { x.gate with counts := { x.gate.counts with
    elapsed := x.gate.counts.elapsed + 1
    unlocked := if x.chkState = .locked then x.gate.counts.unlocked else x.gate.counts.unlocked + 1 } } }
  if (x.gate.counts.elapsed + 1) % x.gate.config.interval = 0 then y.closeInterval else y

/-- The confidence stop holds for the lane's gate (R99). -/
def LaneState.confidentNow (x : LaneState) : Bool :=
  !x.gate.config.target.isZero &&
    confident x.gate.counters.errors x.gate.counters.bits x.gate.config.level x.gate.config.target

/-- The duration stop holds for the lane's gate (R99). -/
def LaneState.timeUp (x : LaneState) : Bool :=
  x.gate.config.duration != 0 && x.gate.counts.elapsed == x.gate.config.duration

/-- An expiry in ARMED (R94). -/
def State.expireArmed (l : Lane) (s : State) : State :=
  let s' := s.modGate l Gate.tickArm
  if (s.lane l).gate.config.armTimeout ≠ 0 ∧ (s.lane l).gate.config.armTimeout ≤ (s'.lane l).gate.counts.armWait
  then s'.endGate l .armTimeout else s'

/-- An expiry in RUNNING (R95). -/
def State.expireRunning (l : Lane) (s : State) : State :=
  if (s.lane l).gate.counts.elapsed = Config.max32 then s.saturateGate l
  else
    let s' := s.modLane l LaneState.tickRunning
    if (s'.lane l).confidentNow then s'.endGate l .confident
    else if (s'.lane l).timeUp then s'.endGate l .time
    else s'

/-- An expiry in PAUSED (R93, R100). -/
def State.expirePaused (l : Lane) (s : State) : State :=
  if (s.lane l).gate.counts.paused = Config.max32 then s.saturateGate l else s.modGate l Gate.tickPaused

/-- One expiry of a lane's gate timer; none is taken in IDLE or DONE (R93). -/
def State.gateExpiry (l : Lane) (s : State) : State :=
  match (s.lane l).gate.state with
  | .idle => s
  | .armed => s.expireArmed l
  | .running => s.expireRunning l
  | .paused => s.expirePaused l
  | .done => s

/-! ### Word-granular stops (R98) -/

/-- After an accepted tally: the error limit, then the bit limit (R98). -/
def State.testLimits (l : Lane) (s : State) : State :=
  let g := (s.lane l).gate
  if g.config.errorLimit ≠ 0 ∧ g.config.errorLimit ≤ g.counters.errors then s.endGate l .errors
  else if g.config.bitLimit ≠ 0 ∧ g.config.bitLimit ≤ g.counters.bits then s.endGate l .bits
  else s

/-! ### GATE_START (R89 to R91) -/

/-- The bit limit as applied: up to a multiple of 32, at most 2^64 - 32; 0 sets none (R90). -/
def appliedBitLimit (n : Nat) : Nat := min (2 ^ 64 - 32) (roundUp32 n)

/-- The error limit as applied: at most 2^48 - 1; 0 sets none (R90). -/
def appliedErrorLimit (n : Nat) : Nat := min Config.max48 n

/-- GATE_START's values as applied, or none when a field is not one of its values or the target is malformed
(R89, R90). -/
def gateArgsOf (body : List Byte) : Option GateArgs :=
  match StartMode.ofCode (field body 1 1), LockPolicy.ofCode (field body 2 1), Level.ofCode (field body 27 1) with
  | some mode, some policy, some level =>
    let target := figureAt body 23
    if target.isZero || target.valid then
      some { mode := mode, policy := policy, duration := field body 3 4, bitLimit := appliedBitLimit (field body 7 8),
             errorLimit := appliedErrorLimit (field body 15 8), target := target,
             level := level, armTimeout := field body 28 2 }
    else none
  | _, _, _ => none

/-- The first state of a gate (the table of R91). -/
def firstGateState (mode : StartMode) (chk : CheckerState) : GateState :=
  match mode, chk with
  | .onLock, .locked => .running
  | .onLock, _ => .armed
  | .now, .held => .paused
  | .now, _ => .running

/-- A lane whose gate is started at uptime `now` (R91). That the end stamp of the gate before is discarded is the model's
choice (DESIGN CHOICE, log 37). -/
def LaneState.startGate (args : GateArgs) (now : Nat) (x : LaneState) : LaneState :=
  { x with
    acct := { tracker := .closed, mark := false }
    gate :=
      { state := firstGateState args.mode x.chkState
        settings := some { toGateArgs := args, interval := x.chk.config.interval }
        startPattern := some x.chk.config.pattern
        counters := .zero, counts := .zero, startStamp := some now, endStamp := none, result := x.gate.result } }

/-- Start one lane's gate and set its quota count to 0 (R91). -/
def State.startGate (args : GateArgs) (l : Lane) (s : State) : State :=
  (s.modLane l (LaneState.startGate args s.uptime)).modCapture l fun c => { c with quotaCount := 0 }

/-- GATE_START on its body (R89). That the reply's applied settings are the fields the request carries, without the
interval length L, is the model's choice (DESIGN CHOICE, log 38). -/
def gateStartAct (body : List Byte) (s : State) : State × Answer :=
  let b := byteAt body 0
  if s.namesAbsent b then (s, refuse .noLane)
  else if b = 0 then (s, refuse .badArg)
  else match gateArgsOf body with
    | none => (s, refuse .badArg)
    | some args =>
      if (lanesOf b).any fun l => (s.lane l).gate.state.active then (s, refuse .gateBusy)
      else if (lanesOf b).any fun l => (s.lane l).chkState == .off then (s, refuse .laneOff)
      else
        ((lanesOf b).foldl (fun s l => s.startGate args l) s,
          { status := okOr (args.bitLimit != field body 7 8 || args.errorLimit != field body 15 8)
            fields := .gateStart args ((lanesOf b).map fun l =>
              { lane := l, state := firstGateState args.mode (s.lane l).chkState, startStamp := s.uptime }) })

/-! ### GATE_STOP (R102) -/

/-- Stop one lane's gate if it is active. -/
def State.stopGate (l : Lane) (s : State) : State :=
  if (s.lane l).gate.state.active then s.endGate l .stopped else s

/-- GATE_STOP on its body (R102). -/
def gateStopAct (body : List Byte) (s : State) : State × Answer :=
  let b := byteAt body 0
  if s.namesAbsent b then (s, refuse .noLane)
  else if b = 0 then (s, refuse .badArg)
  else
    ((lanesOf b).foldl (fun s l => s.stopGate l) s,
      { status := .ok
        fields := .gateStop (s.namedWhere b fun x => x.gate.state.active)
          (s.namedWhere b fun x => !x.gate.state.active) })

/-! ### GATE_READ and COMBINE (R105, R106, R121) -/

/-- The rate id of a gate: a DONE gate keeps the one in its result record, since a LANE_SET may since have changed the
lane's; an active gate's lane keeps its rate (R17, R120). -/
def LaneState.gateRate (x : LaneState) : Fin 4 :=
  match x.gate.state, x.gate.result with
  | .done, some r => r.rate
  | _, _ => x.rate

/-- The SNAPSHOT of one lane (R74, R105). That it reports 0 errored bits of the open burst when no burst is open is the
model's choice (DESIGN CHOICE, log 36): R57, R74 and R105 give the value for an open burst alone. -/
def LaneState.snapshot (now : Nat) (x : LaneState) : SnapshotFields :=
  { state := x.gate.state, uptime := now, startStamp := x.gate.startStamp, settings := x.gate.settings,
    counters := x.gate.counters, counts := x.gate.counts,
    burstOpen := x.acct.tracker != .closed
    burstErrors := match x.acct.tracker with
      | .opened k _ => k
      | .closed => 0
    mark := x.acct.mark
    ratio := ratioFigure x.gate.counters.errors x.gate.counters.bits
    bound := boundFigure x.gate.counters.errors x.gate.counters.bits x.gate.config.level
    remaining :=
      if x.gate.config.target.isZero then none
      else some (timeToConfidence x.gate.counters.errors x.gate.counters.bits x.gate.config.level x.gate.config.target
        x.gateRate) }

/-- GATE_READ on its body (R105). -/
def gateReadAct (body : List Byte) (s : State) : State × Answer :=
  match s.existingLane (byteAt body 0), sourceOf (field body 1 1) with
  | none, _ => (s, refuse .noLane)
  | some _, none => (s, refuse .badArg)
  | some l, some false => (s, { status := .ok, fields := .gateSnapshot ((s.lane l).snapshot s.uptime) })
  | some l, some true =>
    match (s.lane l).gate.result with
    | some r => (s, { status := .ok, fields := .gateResult r })
    | none => (s, refuse .noResult)

/-- The bit errors and bits compared a lane brings to COMBINE, if it has data (R106). -/
def LaneState.combineData (fromResult : Bool) (x : LaneState) : Option (Nat × Nat) :=
  if fromResult then x.gate.result.map fun r => (r.counters.errors, r.counters.bits)
  else if x.gate.state = .idle then none
  else some (x.gate.counters.errors, x.gate.counters.bits)

/-- The sums of errors and bits over the named lanes that have data (R106, R121). -/
def State.combineSums (s : State) (b : LaneSet) (fromResult : Bool) : Nat × Nat :=
  (lanesOf b).foldl (fun acc l => match (s.lane l).combineData fromResult with
    | some (e, n) => (acc.1 + e, acc.2 + n)
    | none => acc) (0, 0)

/-- COMBINE on its body (R106). -/
def combineAct (body : List Byte) (s : State) : State × Answer :=
  let b := byteAt body 0
  if s.namesAbsent b then (s, refuse .noLane)
  else if b = 0 then (s, refuse .badArg)
  else match sourceOf (field body 1 1), Level.ofCode (field body 2 1) with
    | some src, some level =>
      let sums := s.combineSums b src
      let included := s.namedWhere b fun x => (x.combineData src).isSome
      (s, { status := if included = 0 then .noResult else .ok
            fields := .combine sums.1 sums.2 (ratioFigure sums.1 sums.2) (boundFigure sums.1 sums.2 level) included
              (s.namedWhere b fun x => (x.combineData src).isNone) })
    | _, _ => (s, refuse .badArg)

end Sys2Proof.Machine
end

