-- ==== Sys2Proof/Machine/Margin.lean ====
section
/-! DEFINITION. Margin.lean: the margin unit: points, spots, sweeps and their interleavings (chapter 8). -/

namespace Sys2Proof.Machine

/-! ### Reading the unit -/

/-- The state's name (R136). -/
def MarginState.name : MarginState → MarginName
  | .idle => .idle
  | .spot _ => .spot
  | .sweep _ _ => .sweep
  | .forcedSpot _ _ => .forcedSpot
  | .spotThenSweep _ _ => .spotThenSweep

/-- The point in progress (R136). -/
def MarginState.point : MarginState → Option Point
  | .idle => none
  | .spot p => some p
  | .sweep p _ => some p
  | .forcedSpot p _ => some p
  | .spotThenSweep p _ => some p

/-- Replace the point in progress. -/
def MarginState.withPoint (p : Point) : MarginState → MarginState
  | .idle => .idle
  | .spot _ => .spot p
  | .sweep _ sw => .sweep p sw
  | .forcedSpot _ sw => .forcedSpot p sw
  | .spotThenSweep _ w => .spotThenSweep p w

/-- Where the sampler stands for a point (R122). -/
def PointSettings.place (ps : PointSettings) : SamplerPlace :=
  { lane := ps.lane, axis := ps.axis, eye := ps.eye, offset := ps.offset }

/-- A point as it begins: SETTLE, no bits, no errors, mark clear (R124). -/
def Point.begin (ps : PointSettings) : Point := { settings := ps, phase := .settle false, bits := 0, errors := 0 }

/-! ### Plans and point lists (R129, R130) -/

/-- The offset of point i of a plan (R130). -/
def Plan.offset (p : Plan) (i : Nat) : Int := p.start + (i : Int) * (p.step : Int)

/-- The settings of point i of a plan on a lane. -/
def Plan.pointOn (p : Plan) (l : Lane) (i : Nat) : PointSettings :=
  { lane := l, axis := p.axis, eye := p.eye, offset := p.offset i, dwell := p.dwell, limit := p.limit, mode := p.mode,
    lockWait := p.lockWait }

/-- The lowest lane a plan names (R130); every plan names one (R129). -/
def Plan.firstLane (p : Plan) : Lane := (lanesOf p.lanes).headD 0

/-- The place after a finished point: the next point of the lane, else the first point of the next named lane, else
none (R130, R140). -/
def Plan.next (p : Plan) (l : Lane) (i : Nat) : Option (Lane × Nat) :=
  if i + 1 < p.count then some (l, i + 1)
  else ((lanesOf p.lanes).find? fun m => l.val < m.val).map fun m => (m, 0)

/-- The next pass number; after 2^32 - 1 it goes on at 1 (R131). -/
def nextPass (n : Nat) : Nat := if Config.max32 ≤ n then 1 else n + 1

/-! ### Tables and summaries (R132, R133) -/

/-- Rebuild a point table for a plan and pass; entries not in use keep their offsets (R132, log 23). -/
def PointTable.rebuild (p : Plan) (pass : Nat) (t : PointTable) : PointTable :=
  { count := p.count
    entries := Vector.ofFn fun i =>
      { offset := if i.val < p.count then p.offset i.val else t.entries[i].offset
        bits := 0, errors := 0, verdict := .pending, pass := pass } }

/-- Write a finished point's outcome into its entry, which keeps its offset and pass (R132). -/
def PointTable.write (i bits errors : Nat) (v : Verdict) (t : PointTable) : PointTable :=
  if h : i < 64 then
    { t with entries := t.entries.set i { t.entries[i] with bits := bits, errors := errors, verdict := v } }
  else t

/-- The entries in use (R132). -/
def PointTable.inUse (t : PointTable) : List PointEntry := t.entries.toList.take t.count

/-- The longest run of trues, earliest first, as (start, length): `at` and `len` are the current run, `best` the best one
so far (R133). -/
def longestRun : List Bool → (i start len : Nat) → (best : Nat × Nat) → Nat × Nat
  | [], _, _, _, best => best
  | true :: t, i, start, len, best =>
    let s := if len = 0 then i else start
    longestRun t (i + 1) s (len + 1) (if best.2 < len + 1 then (s, len + 1) else best)
  | false :: t, i, start, _, best => longestRun t (i + 1) start 0 best

/-- The eye summary of a lane whose last point has finished in a pass (R133). -/
def eyeSummary (step pass : Nat) (t : PointTable) : EyeSummary :=
  let map := t.inUse.map fun e => e.verdict == .pass
  let run := longestRun map 0 0 0 (0, 0)
  { pass := pass, map := map, opening := run.2 * step
    centre :=
      if run.2 = 0 then none
      else some (((t.inUse[run.1]?).map PointEntry.offset).getD 0 + (((run.2 - 1) * step / 2 : Nat) : Int)) }

/-- Rebuild one lane's table. -/
def Margin.rebuild (p : Plan) (pass : Nat) (l : Lane) (m : Margin) : Margin :=
  { m with tables := m.tables.set l (m.tables[l].rebuild p pass) }

/-! ### Beginning points -/

/-- Enter IDLE; the sampler returns home (R122). -/
def Margin.idle (m : Margin) : Margin := { m with state := .idle, sampler := none }

/-- Begin the point at a sweep's place; the first point of a lane rebuilds its table when `fresh` (R124, R132). -/
def Margin.beginSweepPoint (sw : Sweep) (fresh : Bool) (m : Margin) : Margin :=
  let ps := sw.plan.pointOn sw.lane sw.index
  let m := if fresh && sw.index == 0 then m.rebuild sw.plan sw.pass sw.lane else m
  { m with state := .sweep (Point.begin ps) sw, sampler := some ps.place }

/-- A sweep begins its first pass, or a continuous sweep its next: the next pass number is taken (R131, R138, R141). -/
def Margin.beginPass (p : Plan) (m : Margin) : Margin :=
  let pass := nextPass m.passCounter
  { m with passCounter := pass }.beginSweepPoint { plan := p, lane := p.firstLane, index := 0, pass := pass } true

/-- A spot begins in the state that `wrap` gives it (R137). -/
def Margin.beginSpot (ps : PointSettings) (wrap : Point → MarginState) (m : Margin) : Margin :=
  { m with state := wrap (Point.begin ps), sampler := some ps.place }

/-! ### Finishing points (R128, R140, R141) -/

/-- The spot record of a finished spot (R135). -/
def Point.spotRecord (p : Point) (v : Verdict) : SpotRecord :=
  { lane := p.settings.lane, axis := p.settings.axis, eye := p.settings.eye, offset := p.settings.offset,
    dwell := p.settings.dwell, mode := p.settings.mode, limit := p.settings.limit, bits := p.bits, errors := p.errors,
    verdict := v }

/-- The COMPLETE notice of a finished spot (R141). -/
def Point.spotNotice (p : Point) (v : Verdict) : Notice :=
  .spot .complete p.settings.lane p.settings.offset (some { verdict := v, bits := p.bits, errors := p.errors })

/-- The STOPPED notice of a cancelled spot (R139, R141). -/
def Point.stoppedNotice (p : Point) : Notice := .spot .stopped p.settings.lane p.settings.offset none

/-- A finished sweep point's outcome goes into its entry; the lane's last point also computes the summary
(R132, R133). -/
def Margin.recordPoint (p : Point) (sw : Sweep) (v : Verdict) (m : Margin) : Margin :=
  let table := m.tables[sw.lane].write sw.index p.bits p.errors v
  { m with
    tables := m.tables.set sw.lane table
    summaries :=
      if sw.index + 1 < sw.plan.count then m.summaries
      else m.summaries.set sw.lane (some (eyeSummary sw.plan.step sw.pass table)) }

/-- A sweep goes on after a point: its next point, or the end of the pass (R140, R141). -/
def Margin.afterPoint (sw : Sweep) (m : Margin) : Margin :=
  match sw.plan.next sw.lane sw.index with
  | some (l, i) => m.beginSweepPoint { sw with lane := l, index := i } true
  | none => if sw.plan.continuous then m.beginPass sw.plan else m.idle

/-- The point in progress finishes with a verdict, by state (R140). -/
def Margin.finish (v : Verdict) (m : Margin) : Margin :=
  match m.state with
  | .idle => m
  | .spot p => { m with spot := some (p.spotRecord v) }.idle
  | .sweep p sw => (m.recordPoint p sw v).afterPoint sw
  | .forcedSpot p sw => { m with spot := some (p.spotRecord v) }.beginSweepPoint sw false
  | .spotThenSweep p w => { m with spot := some (p.spotRecord v) }.beginPass w

/-- The notices a finish queues (R135, R140, R141). -/
def Margin.finishNotices (v : Verdict) (m : Margin) : List Notice :=
  match m.state with
  | .idle => []
  | .spot p => [p.spotNotice v]
  | .sweep _ sw => if (sw.plan.next sw.lane sw.index).isNone then [.sweep .complete sw.pass] else []
  | .forcedSpot p _ => [p.spotNotice v]
  | .spotThenSweep p _ => [p.spotNotice v]

/-- Queue notices in order. -/
def State.queueNotices (ns : List Notice) (s : State) : State :=
  { s with line := ns.foldl (fun c n => c.queueNotice n) s.line }

/-- The point in progress finishes, with its notices. -/
def State.finishPoint (v : Verdict) (s : State) : State :=
  { s with margin := s.margin.finish v }.queueNotices (s.margin.finishNotices v)

/-- Change the point in progress. -/
def State.setPoint (p : Point) (s : State) : State :=
  { s with margin := { s.margin with state := s.margin.state.withPoint p } }

/-! ### What reaches the point (R124 to R127, R142) -/

/-- A transition of the checker of the point's lane (the table of R142). -/
def State.pointTransition (left entered : CheckerState) (p : Point) (s : State) : State :=
  match p.phase with
  | .settle _ => if entered = .off ∨ entered = .held then s.setPoint { p with phase := .settle true } else s
  | .waitLock =>
    if entered = .locked then s.setPoint { p with phase := .dwell false }
    else if entered = .off ∨ entered = .held then s.finishPoint .noLock
    else s
  | .dwell _ => if left = .locked then s.finishPoint .noLock else s

/-- A checker transition as the margin unit meets it: only the lane of the point in progress matters (R142). -/
def State.marginTransition (l : Lane) (left entered : CheckerState) (s : State) : State :=
  match s.margin.state.point with
  | some p => if p.settings.lane = l then s.pointTransition left entered p else s
  | none => s

/-- The verdict of a point after a word, if it has one (the table of R126). -/
def Point.verdict (p : Point) : Option Verdict :=
  match p.settings.mode with
  | .count =>
    if p.settings.dwell ≤ p.bits then some (if p.errors ≤ p.settings.limit then .pass else .fail) else none
  | .limit =>
    if p.settings.limit < p.errors then some .fail
    else if p.settings.dwell ≤ p.bits then some .pass
    else none

/-- A comparison word of a lane ends with this many differing margin-sampled bits (R126). A word already in progress when
the point entered DWELL is passed over. -/
def State.dwellWord (l : Lane) (differing : Nat) (s : State) : State :=
  match s.margin.state.point with
  | none => s
  | some p =>
    if p.settings.lane = l then
      match p.phase with
      | .dwell true => s.setPoint { p with phase := .dwell false }
      | .dwell false =>
        let q := { p with bits := p.bits + 32, errors := p.errors + differing }
        match q.verdict with
        | some v => (s.setPoint q).finishPoint v
        | none => s.setPoint q
      | _ => s
    else s

/-- SETTLE_EXPIRY (R124): by the mark and the checker's state, NO_LOCK, DWELL or WAIT_LOCK; with a lock-wait of 0 an
unlocked checker gives NO_LOCK at once (R125). -/
def State.settleExpiry (midWord : Bool) (s : State) : State :=
  match s.margin.state.point with
  | none => s
  | some p =>
    match p.phase with
    | .settle disturbed =>
      let chk := (s.lane p.settings.lane).chkState
      if disturbed ∨ chk = .off ∨ chk = .held then s.finishPoint .noLock
      else if chk = .locked then s.setPoint { p with phase := .dwell midWord }
      else if p.settings.lockWait = 0 then s.finishPoint .noLock
      else s.setPoint { p with phase := .waitLock }
    | _ => s

/-- LOCK_WAIT_EXPIRY (R125). -/
def State.lockWaitExpiry (s : State) : State :=
  match s.margin.state.point with
  | none => s
  | some p =>
    match p.phase with
    | .waitLock => s.finishPoint .noLock
    | _ => s

/-! ### Requests of the margin unit -/

/-- The dwell as applied (R130). -/
def appliedDwell (n : Nat) : Nat := clampNat 64 (2 ^ 32 - 32) (roundUp32 n)

/-- The point count as applied, against the applied start and step (R130). -/
def appliedCount (start : Int) (step count : Nat) : Nat :=
  min (clampNat 1 64 count) ((31 - start).toNat / step + 1)

/-- SWEEP_SET's plan as requested, or none when a field is not one of its values (R129). -/
def requestedPlan (body : List Byte) : Option Plan :=
  match Axis.ofCode (field body 1 1), Eye.ofCode (field body 2 1), VerdictMode.ofCode (field body 14 1),
    switchOf (field body 17 1) with
  | some axis, some eye, some mode, some continuous =>
    some { lanes := byteAt body 0, axis := axis, eye := eye, start := signedAt body 3, step := field body 4 1,
           count := field body 5 1, dwell := field body 6 4, limit := field body 10 4, mode := mode,
           lockWait := field body 15 2, continuous := continuous }
  | _, _, _, _ => none

/-- A plan with its numeric fields adjusted in the order of R130. -/
def Plan.applied (p : Plan) : Plan :=
  { p with
    start := clampInt (-32) 31 p.start
    step := clampNat 1 16 p.step
    count := appliedCount (clampInt (-32) 31 p.start) (clampNat 1 16 p.step) p.count
    dwell := appliedDwell p.dwell
    lockWait := clampNat 0 1000 p.lockWait }

/-- The offsets a plan defines, in list order (R129). -/
def Plan.offsets (p : Plan) : List Int := (List.range p.count).map p.offset

/-- SWEEP_SET on its body (R129). -/
def sweepSetAct (body : List Byte) (s : State) : State × Answer :=
  let b := byteAt body 0
  if s.namesAbsent b then (s, refuse .noLane)
  else if b = 0 then (s, refuse .badArg)
  else match requestedPlan body with
    | none => (s, refuse .badArg)
    | some p =>
      ({ s with margin := { s.margin with plan := p.applied } },
        { status := okOr (p.applied != p), fields := .sweepSet p.applied p.applied.offsets })

/-- The margin unit after SWEEP_START (R138). -/
def Margin.sweepStart (m : Margin) : Margin :=
  match m.state with
  | .idle => m.beginPass m.plan
  | .spot p => { m with state := .spotThenSweep p m.plan }
  | .sweep _ sw =>
    let m' := (lanesOf m.plan.lanes).foldl (fun n l => n.rebuild m.plan sw.pass l) m
    m'.beginSweepPoint { plan := m.plan, lane := m.plan.firstLane, index := 0, pass := sw.pass } false
  | .forcedSpot p _ => { m with state := .spotThenSweep p m.plan }
  | .spotThenSweep p _ => { m with state := .spotThenSweep p m.plan }

/-- SWEEP_START (R138). -/
def sweepStartAct (s : State) : State × Answer :=
  ({ s with margin := s.margin.sweepStart },
    { status := .ok, fields := .sweepStart s.margin.sweepStart.state.name s.margin.plan })

/-- The notices SWEEP_STOP queues (R139). -/
def MarginState.stopNotices : MarginState → List Notice
  | .idle => []
  | .spot p => [p.stoppedNotice]
  | .sweep _ sw => [.sweep .stopped sw.pass]
  | .forcedSpot p sw => [p.stoppedNotice, .sweep .stopped sw.pass]
  | .spotThenSweep p _ => [p.stoppedNotice]

/-- A spot is in progress. -/
def MarginState.hasSpot : MarginState → Bool
  | .idle => false
  | .spot _ => true
  | .sweep _ _ => false
  | .forcedSpot _ _ => true
  | .spotThenSweep _ _ => true

/-- A sweep has begun and is in force. -/
def MarginState.hasSweep : MarginState → Bool
  | .idle => false
  | .spot _ => false
  | .sweep _ _ => true
  | .forcedSpot _ _ => true
  | .spotThenSweep _ _ => false

/-- SWEEP_STOP (R139). -/
def sweepStopAct (s : State) : State × Answer :=
  ({ s with margin := s.margin.idle }.queueNotices s.margin.state.stopNotices,
    { status := .ok, fields := .sweepStop s.margin.state.hasSpot s.margin.state.hasSweep })

/-- The margin unit after an accepted SPOT_START (R137). -/
def Margin.spotStart (ps : PointSettings) (m : Margin) : Margin :=
  match m.state with
  | .idle => m.beginSpot ps .spot
  | .spot _ => m.beginSpot ps .spot
  | .sweep _ sw => m.beginSpot ps fun p => .forcedSpot p sw
  | .forcedSpot _ sw => m.beginSpot ps fun p => .forcedSpot p sw
  | .spotThenSweep _ w => m.beginSpot ps fun p => .spotThenSweep p w

/-- SPOT_START's settings as requested (R134). -/
def requestedSpot (l : Lane) (body : List Byte) : Option PointSettings :=
  match Axis.ofCode (field body 1 1), Eye.ofCode (field body 2 1), VerdictMode.ofCode (field body 12 1) with
  | some axis, some eye, some mode =>
    some { lane := l, axis := axis, eye := eye, offset := signedAt body 3, dwell := field body 4 4,
           limit := field body 8 4, mode := mode, lockWait := field body 13 2 }
  | _, _, _ => none

/-- Spot settings as applied (R134, R130). -/
def PointSettings.applied (ps : PointSettings) : PointSettings :=
  { ps with
    offset := clampInt (-32) 31 ps.offset
    dwell := appliedDwell ps.dwell
    lockWait := clampNat 0 1000 ps.lockWait }

/-- SPOT_START on its body (R134). -/
def spotStartAct (body : List Byte) (s : State) : State × Answer :=
  match s.existingLane (byteAt body 0) with
  | none => (s, refuse .noLane)
  | some l =>
    match requestedSpot l body with
    | none => (s, refuse .badArg)
    | some ps =>
      ({ s with margin := s.margin.spotStart ps.applied },
        { status := okOr (ps.applied != ps)
          fields := .spotStart ps.applied (s.margin.spotStart ps.applied).state.name })

/-- The name of a point's phase (R143). -/
def PointPhase.name : PointPhase → PhaseName
  | .settle _ => .settle
  | .waitLock => .waitLock
  | .dwell _ => .dwell

/-- SWEEP_READ's sweep position (R143). -/
def MarginState.position : MarginState → Option SweepPlace
  | .sweep _ sw => some { lane := sw.lane, index := sw.index, pass := sw.pass }
  | .forcedSpot _ sw => some { lane := sw.lane, index := sw.index, pass := sw.pass }
  | _ => none

/-- The plan copy a sweep in force or waiting runs under (R143). -/
def MarginState.planCopy : MarginState → Option Plan
  | .sweep _ sw => some sw.plan
  | .forcedSpot _ sw => some sw.plan
  | .spotThenSweep _ w => some w
  | _ => none

/-- SWEEP_READ's fields for one lane (R143). -/
def Margin.readFields (m : Margin) (l : Lane) : SweepReadFields :=
  { state := m.state.name, sampler := m.sampler
    point := m.state.point.map fun p =>
      { ofSpot := m.state.hasSpot, phase := p.phase.name, bits := p.bits, errors := p.errors }
    position := m.state.position, plan := m.state.planCopy, passCounter := m.passCounter
    entries := m.tables[l].inUse, summary := m.summaries[l], spot := m.spot }

/-- SWEEP_READ on its body (R143). -/
def sweepReadAct (body : List Byte) (s : State) : State × Answer :=
  match s.existingLane (byteAt body 0) with
  | none => (s, refuse .noLane)
  | some l => (s, { status := .ok, fields := .sweepRead (s.margin.readFields l) })

end Sys2Proof.Machine
end

