-- ==== Sys2Proof/Machine/Capture.lean ====
section
/-! DEFINITION. Capture.lean: capture slots, the write port and its arbiter, and the log (chapter 9). -/

namespace Sys2Proof.Machine

/-- The state with this capture log. -/
def State.withLog (c : CaptureLog) (s : State) : State := { s with log := c }

/-! ### Misses and offers (R73, R147) -/

/-- A miss outside a tally: captures missed one further while the gate is active and the counter below its maximum
(R147, R150). -/
def Gate.addMissed (g : Gate) : Gate :=
  if g.state.active && g.counters.missed < Config.max32 then
    { g with counters := { g.counters with missed := g.counters.missed + 1 } }
  else g

/-- A dropped lock candidate or a discarded candidate: the miss and the history flag (R147, R150). -/
def State.missCandidate (l : Lane) (s : State) : State := (s.modGate l Gate.addMissed).setFlag l .captureMissed

/-- The lane's slot holds a candidate. -/
def CaptureLog.slotFull (c : CaptureLog) (l : Lane) : Bool := c.lanes[l].slot.isSome

/-- Put a candidate into the lane's slot. -/
def State.fillSlot (l : Lane) (cand : Candidate) (s : State) : State :=
  s.modCapture l fun c => { c with slot := some cand }

/-- A lock candidate is offered to its lane's slot (R147). -/
def State.offerLock (l : Lane) (cand : Candidate) (s : State) : State :=
  if s.log.slotFull l then s.missCandidate l else s.fillSlot l cand

/-- An accepted tally's candidate is offered to its lane's slot; its miss is in the tally (R73, R147). -/
def State.offerTally (l : Lane) (cand : Candidate) (s : State) : State :=
  if s.log.slotFull l then s.setFlag l .captureMissed else s.fillSlot l cand

/-! ### The arbiter (R148 to R150) -/

/-- The search order of ROTATE: last granted + 1 on, wrapping, ending with the last granted lane (R149). -/
def rotateOrder (last : Lane) : List Lane := laneList.map fun k => last + 1 + k

/-- The first full slot in the ROTATE order. -/
def CaptureLog.rotateChoice (c : CaptureLog) : Option Lane := (rotateOrder c.lastGranted).find? c.slotFull

/-- The lane granted, by the arbitration policy in force (R149). -/
def CaptureLog.choose (c : CaptureLog) : Option Lane :=
  match c.arb with
  | .rotate => c.rotateChoice
  | .fixed => laneList.find? c.slotFull
  | .stay => if c.slotFull c.lastGranted then some c.lastGranted else c.rotateChoice

/-- The sequence number of the newest record; 0 when the log is empty (no notice is queued for an empty log). -/
def CaptureLog.newest (c : CaptureLog) : Nat := (c.records.getLast?.map Record.sequence).getD 0

/-- A granted candidate is discarded at a full log under STOP (R150). That the ALARM of its CAPTURE_MISSED is queued before
the LOG notice FULL is the model's choice (DESIGN CHOICE, log 42): R150 names both and no order. -/
def State.discard (l : Lane) (s : State) : State :=
  let s' := (s.modCapture l fun c => { c with slot := none }).missCandidate l
  if s'.log.fullMark then s'
  else (s'.withLog { s'.log with fullMark := true }).queueNotice (.log .full s'.log.records.length s'.log.newest)

/-- One grant: the last granted lane, then the write or the discard (R148, R150). -/
def State.grantTo (l : Lane) (s : State) : State :=
  if s.log.full = .stop ∧ Config.logCapacity ≤ s.log.records.length then
    (s.withLog { s.log with lastGranted := l }).discard l
  else s.withLog { s.log with lastGranted := l, port := .writing l s.log.full }

/-- Grant while the port is FREE and a slot is full. Each round fills the port or empties a slot. -/
def State.grantRounds : Nat → State → State
  | 0, s => s
  | n + 1, s =>
    match s.log.port, s.log.choose with
    | .free, some l => (s.grantTo l).grantRounds n
    | _, _ => s

/-- The arbiter acts until the port is WRITING or every slot is empty: at most eight rounds (R148). -/
def State.grant (s : State) : State := s.grantRounds 8

/-! ### Write completion (R148, R150, R151, R153) -/

/-- The record enters the log; a write granted under RING first removes the oldest of 512 (R150, R151). -/
def CaptureLog.enter (l : Lane) (policy : FullPolicy) (cand : Candidate) (c : CaptureLog) : CaptureLog :=
  { c with
    records :=
      (if policy = .ring ∧ Config.logCapacity ≤ c.records.length then c.records.drop 1 else c.records)
        ++ [{ sequence := c.nextSequence, candidate := cand }]
    nextSequence := (c.nextSequence + 1) % 2 ^ 32
    lanes := c.lanes.set l { c.lanes[l] with quotaCount := min 65535 (c.lanes[l].quotaCount + 1), slot := none }
    port := .free }

/-- The completion raises the count from one below the watermark to the watermark (R153). -/
def CaptureLog.reaches (before after : CaptureLog) : Bool :=
  before.records.length + 1 == before.watermark && after.records.length == before.watermark

/-- WRITE_COMPLETION: the record enters, the watermark is tested, the next grant is made. Nothing is being written while
the port is FREE (log 2). -/
def State.writeCompletion (s : State) : State :=
  match s.log.port with
  | .free => s
  | .writing l policy =>
    match s.log.lanes[l].slot with
    | none => s
    | some cand =>
      let log := s.log.enter l policy cand
      if s.log.reaches log then
        ((s.withLog log).queueNotice (.log .watermark log.records.length log.newest)).grant
      else (s.withLog log).grant

/-! ### Requests of the capture log -/

/-- CAPTURE_SET on its body (R145). -/
def captureSetAct (body : List Byte) (s : State) : State × Answer :=
  let b := byteAt body 0
  if s.namesAbsent b then (s, refuse .noLane)
  else if b = 0 then (s, refuse .badArg)
  else match CaptureMode.ofCode (field body 1 1) with
    | none => (s, refuse .badArg)
    | some mode =>
      ((lanesOf b).foldl (fun s l => s.modCapture l fun c => { c with mode := mode, quota := field body 2 2 }) s,
        { status := .ok
          fields := .captureSet mode (field body 2 2) ((lanesOf b).map fun l => (l, s.log.lanes[l].quotaCount)) })

/-- The cause of a candidate (R152). -/
def CandidateBody.cause : CandidateBody → Cause
  | .errorWord _ _ _ => .errorWord
  | .burstStart _ _ _ _ => .burstStart
  | .lockGained _ _ => .lockGained
  | .lockLost _ _ => .lockLost

/-- CAPTURE_READ's account of one lane (R157). -/
def CaptureLog.row (c : CaptureLog) (l : Lane) : CaptureRow :=
  { lane := l, mode := c.lanes[l].mode, quota := c.lanes[l].quota, quotaCount := c.lanes[l].quotaCount,
    slot := c.lanes[l].slot.map fun cand => cand.body.cause }

/-- The lane whose candidate is being written. -/
def Port.writingLane : Port → Option Lane
  | .free => none
  | .writing l _ => some l

/-- CAPTURE_READ's fields (R157). -/
def State.captureFields (s : State) : CaptureReadFields :=
  { lanes := (lanesOf (strapLanes s.straps)).map s.log.row, writing := s.log.port.writingLane,
    lastGranted := s.log.lastGranted, arb := s.log.arb, full := s.log.full, watermark := s.log.watermark,
    count := s.log.records.length, oldest := s.log.records.head?.map Record.sequence,
    newest := s.log.records.getLast?.map Record.sequence, nextSequence := s.log.nextSequence,
    fullMark := s.log.fullMark }

/-- CAPTURE_READ (R157). -/
def captureReadAct (s : State) : State × Answer := (s, { status := .ok, fields := .captureRead s.captureFields })

/-- LOG_READ on its body (R154). -/
def logReadAct (body : List Byte) (s : State) : State × Answer :=
  let n := clampNat 1 6 (field body 0 1)
  let rest := s.log.records.drop n
  (s.withLog { s.log with records := rest, fullMark := s.log.fullMark && Config.logCapacity ≤ rest.length },
    { status := okOr (n != field body 0 1), fields := .logRead rest.length (s.log.records.take n) })

/-- LOG_CLEAR (R155). -/
def logClearAct (s : State) : State × Answer :=
  (s.withLog { s.log with records := [], fullMark := false },
    { status := .ok, fields := .logClear s.log.records.length s.log.nextSequence })

/-- LOG_SET on its body (R156). -/
def logSetAct (body : List Byte) (s : State) : State × Answer :=
  match ArbPolicy.ofCode (field body 0 1), FullPolicy.ofCode (field body 1 1) with
  | some arb, some full =>
    let w := clampNat 1 512 (field body 2 2)
    (s.withLog { s.log with arb := arb, full := full, watermark := w },
      { status := okOr (w != field body 2 2), fields := .logSet arb full w })
  | _, _ => (s, refuse .badArg)

end Sys2Proof.Machine
end

