-- ==== Sys2Proof/Machine/Checker.lean ====
section
/-! DEFINITION. Checker.lean: checker transitions, hunting, verifying, locked comparison, hold and release
(chapter 3), and LANE_SET, whose effects reach the checker (R17 to R19). -/

namespace Sys2Proof.Machine

/-! ### Transitions (R52 to R54) -/

/-- A transition of one lane's checker: the phase entered and the reason (R53). -/
structure Move where
  lane : Lane
  phase : Phase
  reason : Reason
  deriving DecidableEq, Repr

/-- The loopback bits already handed over reach the phase entered: true when the stream goes on without a break. -/
def Reason.keepsPath : Reason → Bool
  | .powerUp => false
  | .powerDown => false
  | .signalUp => false
  | .signal => false
  | .found => true
  | .inverted => true
  | .verified => true
  | .verifyFailed => true
  | .errors => true
  | .reconfigured => false
  | .held => false
  | .released => false

/-- Enter a phase. -/
def LaneState.enter (p : Phase) (r : Reason) (x : LaneState) : LaneState :=
  { x with chk := { x.chk with phase := p }, path := if r.keepsPath then x.path else [] }

/-- The history flag a transition sets (R54). -/
def Reason.flag : Reason → Option HistoryFlag
  | .powerUp => none
  | .powerDown => none
  | .signalUp => none
  | .signal => some .losSeen
  | .found => none
  | .inverted => none
  | .verified => none
  | .verifyFailed => some .verifyFailed
  | .errors => some .lockLost
  | .reconfigured => none
  | .held => none
  | .released => none

/-- Set a transition's history flag, if it has one. -/
def State.setReasonFlag (l : Lane) (r : Reason) (s : State) : State :=
  match r.flag with
  | some f => s.setFlag l f
  | none => s

/-- The lane's capture settings let a lock candidate arise (R146). -/
def CaptureLane.wantsLock (c : CaptureLane) : Bool := c.mode != .off && c.quotaAllows

/-- A lock candidate as it stands at the event (R146). -/
def LaneState.lockCandidate (l : Lane) (body : CandidateBody) (x : LaneState) : Candidate :=
  { lane := l, elapsed := x.gate.counts.elapsed, bits := x.gate.counters.bits, body := body }

/-- An exit from LOCKED that reaches a RUNNING gate offers a LOCK_LOST candidate, before the gate acts (R146, R147). -/
def State.exitCandidate (m : Move) (s : State) : State :=
  let x := s.lane m.lane
  if x.chkState = .locked ∧ x.gate.state = .running ∧ s.log.lanes[m.lane].wantsLock then
    s.offerLock m.lane (x.lockCandidate m.lane (.lockLost m.phase.state m.reason))
  else s

/-- An entry into LOCKED that leaves the gate RUNNING offers a LOCK_GAINED candidate (R146). -/
def State.entryCandidate (m : Move) (s : State) : State :=
  let x := s.lane m.lane
  if m.phase.state = .locked ∧ x.gate.state = .running ∧ s.log.lanes[m.lane].wantsLock then
    (s.offerLock m.lane (x.lockCandidate m.lane (.lockGained m.phase.state m.reason))).grant
  else s

/-- One transition as its neighbours meet it: history flag, gate, entry candidate, margin unit, LOCK notice (R52 to R54,
log 6). -/
def State.applyMove (s : State) (m : Move) : State :=
  let left := (s.lane m.lane).chkState
  let entered := m.phase.state
  ((((((s.modLane m.lane (LaneState.enter m.phase m.reason)).setReasonFlag m.lane m.reason).gateTransition m.lane left
    entered m.reason).entryCandidate m).marginTransition m.lane left entered).queueNotice
      (.lock m.lane entered m.reason))

/-- The transitions of one event: first the candidates of exits from LOCKED and the grants they bring, then lane by lane
the rest (log 7). -/
def State.transition (ms : List Move) (s : State) : State :=
  ms.foldl State.applyMove (ms.foldl (fun s m => s.exitCandidate m) s).grant

/-- "Signal decides" (section 3.2): a fresh HUNT with a signal, NO_SIGNAL without. -/
def LaneState.signalDecides (x : LaneState) : Phase := if x.signal then .hunt 0 0 else .noSignal

/-- What a change to the lane's present signal does to its checker (R36). -/
def LaneState.signalMove (l : Lane) (x : LaneState) : Option Move :=
  match x.signal, x.chkState with
  | true, .noSignal => some { lane := l, phase := .hunt 0 0, reason := .signalUp }
  | false, .hunt => some { lane := l, phase := .noSignal, reason := .signal }
  | false, .verify => some { lane := l, phase := .noSignal, reason := .signal }
  | false, .locked => some { lane := l, phase := .noSignal, reason := .signal }
  | _, _ => none

/-- The SD input of a lane takes a level; with loopback off a change of it is an event of the checker (R34, R36). -/
def State.signalLevel (l : Lane) (level : Bool) (s : State) : State :=
  if (s.lane l).sd = level then s
  else
    let s' := s.modLane l fun x => { x with sd := level }
    if (s.lane l).loopback then s' else s'.transition ((s'.lane l).signalMove l).toList

/-! ### The checker's input (R31, R34) -/

/-- A received bit in the pattern sense. -/
def Polarity.bit : Polarity → Bool → Bool
  | .normal, b => b
  | .inverted, b => !b

/-- The bits that reach the checker: the loopback path's with loopback on, the receive lane's, decoded, otherwise
(R31, R34). -/
def LaneState.inputBits (rx : Reception) (x : LaneState) : List Bool :=
  if x.loopback then x.path else receivedBits x.pam4 rx

/-- The word of a reception, if it holds one word at the lane's modulation (R34, log 41). -/
def LaneState.receivedWord (rx : Reception) (x : LaneState) : Option Word :=
  if (receivedBits x.pam4 rx).length = 32 then some (wordOfBits (receivedBits x.pam4 rx)) else none

/-- The next whole word at the checker's input and the path after it; with loopback on, none until the generator has sent
one. -/
def LaneState.inputWord (rx : Reception) (x : LaneState) : Option (Word × List Bool) :=
  if x.loopback then (if 32 ≤ x.path.length then some (wordOfBits x.path, x.path.drop 32) else none)
  else (x.receivedWord rx).map fun w => (w, x.path)

/-! ### The margin sampler's second reading (R123) -/

/-- The level below the boundary of an eye (R123). -/
def Eye.below : Eye → PamLevel
  | .lower => 0
  | .middle => 1
  | .upper => 2

/-- The level the sampler decides for a PAM4 symbol that the lane itself decides as `own`, `above` the moved boundary of the
eye or not: the other two boundaries stay the lane's own, so the moved one tells only its two levels apart (R123; that it
cannot set these two aside where a phase shift makes it disagree with them is DEDUCED, log 44). -/
def Eye.sampledLevel (eye : Eye) (own : PamLevel) (above : Bool) : PamLevel :=
  if own = eye.below ∨ own = eye.below + 1 then (if above then eye.below + 1 else eye.below) else own

/-- The bits the sampler decides beside a lane's word: one for each NRZ symbol, whatever the eye, and a pair for each PAM4
symbol (R14, R123). -/
def sampledBits (pam4 : Bool) (eye : Eye) (w : Word) (above : List Bool) : List Bool :=
  if pam4 then above.zipIdx.flatMap fun (a, j) => levelBits (eye.sampledLevel (symbolLevel w j) a) else above

/-- The word the margin sampler reads beside the word `w` of lane `l`, where it serves that lane: with loopback on the same
(R31, R123; DEDUCED, log 30), otherwise the one it decides symbol by symbol. Decisions that make no word at the lane's
modulation are read as `w` (DESIGN CHOICE, log 41). -/
def State.sampledWord (l : Lane) (above : List Bool) (w : Word) (s : State) : Word :=
  match s.margin.sampler with
  | some place =>
    let bits := sampledBits (s.lane l).pam4 place.eye w above
    if place.lane = l ∧ (s.lane l).loopback = false ∧ bits.length = 32 then wordOfBits bits else w
  | none => w

/-! ### Hunting (R37, R38) -/

/-- The window with one more bit. -/
def pushBit (w : BitVec 64) (b : Bool) : BitVec 64 := (w <<< 1) ||| (if b then 1 else 0)

/-- The outcome of feeding bits to a hunt: window, bits received, bits not taken, and for a hunt that has found its
pattern, whether it matched in the opposite sense. -/
structure Hunted where
  window : BitVec 64
  count : Nat
  rest : List Bool
  found : Option Bool
  deriving DecidableEq, Repr

/-- Feed bits to a fixed-pattern hunt that ends after `need` bits (R37). -/
def huntFixed (need : Nat) (pol : Polarity) : List Bool → BitVec 64 → Nat → Hunted
  | [], w, c => { window := w, count := c, rest := [], found := none }
  | b :: t, w, c =>
    if need ≤ c + 1 then { window := pushBit w (pol.bit b), count := c + 1, rest := t, found := some false }
    else huntFixed need pol t (pushBit w (pol.bit b)) (c + 1)

/-- A user-pattern window after `c` bits: whether it is tested and matches, and in which sense (R38). -/
def anchorTest (anchor : BitVec 64) (pam4 auto : Bool) (w : BitVec 64) (c : Nat) : Option Bool :=
  if c < 64 || (pam4 && c % 2 == 1) then none
  else if w = anchor then some false
  else if auto && w == ~~~anchor then some true
  else none

/-- Feed bits to a user-pattern hunt (R38). -/
def huntUser (anchor : BitVec 64) (pam4 auto : Bool) (pol : Polarity) : List Bool → BitVec 64 → Nat → Hunted
  | [], w, c => { window := w, count := c, rest := [], found := none }
  | b :: t, w, c =>
    match anchorTest anchor pam4 auto (pushBit w (pol.bit b)) (c + 1) with
    | some inv => { window := pushBit w (pol.bit b), count := c + 1, rest := t, found := some inv }
    | none => huntUser anchor pam4 auto pol t (pushBit w (pol.bit b)) (c + 1)

/-- The register that the seed bits load: the last in stage 1. On PAM4 the window also holds the bit after the seed, and
the register steps once for it (R37). -/
def seedRegister (id : Nat) (pam4 : Bool) (w : BitVec 64) : BitVec 32 :=
  if pam4 then (prbsStep id ((w >>> 1).setWidth 32 &&& prbsOnes id)).2 else w.setWidth 32 &&& prbsOnes id

/-- Bits a fixed-pattern hunt takes: n, or n + 1 on PAM4 (R37). -/
def seedBits (id : Nat) (pam4 : Bool) : Nat := if pam4 then prbsLength id + 1 else prbsLength id

/-- The lane after bits have been fed to its hunt: the path's bits not taken stay on it (log 11). -/
def LaneState.afterHunt (h : Hunted) (x : LaneState) : LaneState :=
  { x with
    path := if x.loopback then h.rest else x.path
    chk := { x.chk with phase := .hunt h.window h.count } }

/-- Flip the checker's polarity field (R38, R40). -/
def LaneState.flipPolarity (x : LaneState) : LaneState :=
  { x with chk := { x.chk with config := { x.chk.config with polarity := x.chk.config.polarity.flip } } }

/-- The pattern is a fixed one (R1). -/
def fixedId (id : Nat) : Bool := id < 16

/-- SEED_LOADED: bits reach a fixed-pattern hunt, which ends when its seed is complete (R37). -/
def State.seedLoaded (l : Lane) (rx : Reception) (s : State) : State :=
  let x := s.lane l
  let id := x.chk.config.pattern
  match x.chk.phase, fixedId id with
  | .hunt w c, true =>
    let h := huntFixed (seedBits id x.pam4) x.chk.config.polarity (x.inputBits rx) w c
    let s' := s.modLane l (LaneState.afterHunt h)
    if h.found.isSome then
      s'.transition [{ lane := l, phase := .verify (.prbs (seedRegister id x.pam4 h.window)) 0 0 0, reason := .found }]
    else s'
  | _, _ => s

/-- ANCHOR_MATCH: bits reach a user-pattern hunt, which ends at a match (R38). -/
def State.anchorMatch (l : Lane) (rx : Reception) (s : State) : State :=
  let x := s.lane l
  let cfg := x.chk.config
  match x.chk.phase, s.store.region cfg.pattern with
  | .hunt w c, some r =>
    let h := huntUser (s.store.anchor r) x.pam4 cfg.autoInvert cfg.polarity (x.inputBits rx) w c
    let s' := s.modLane l (LaneState.afterHunt h)
    match h.found with
    | some inv =>
      (if inv then s'.modLane l LaneState.flipPolarity else s').transition
        [{ lane := l, phase := .verify (.user 64) 0 0 0, reason := .found }]
    | none => s'
  | _, _ => s

/-! ### Verifying (R39, R40) -/

/-- What the end of a verify word brings. -/
inductive VerifyEnd where
  | goesOn | verified | failed | inverted
  deriving DecidableEq, Repr

/-- The outcome of a verify word by whose end `c` bits have been compared and `e` were in error (R39, R40). -/
def verifyEnd (cfg : ChkConfig) (c e : Nat) : VerifyEnd :=
  if cfg.a < e ∧ (cfg.autoInvert = false ∨ e < c) then .failed
  else if c < cfg.v then .goesOn
  else if e ≤ cfg.a then .verified
  else .inverted

/-- The last 15 bits of an expected word (R50). -/
def lastBits (expected : Word) : BitVec 15 := expected.setWidth 15

/-- Take a word from the checker's input: the path after it, and the phase. -/
def LaneState.takeInput (rest : List Bool) (p : Phase) (x : LaneState) : LaneState :=
  { x with path := rest, chk := { x.chk with phase := p } }

/-- VERIFY_WORD_END on the symbols `rx` of the receive lane (R39, R40). -/
def State.verifyWord (l : Lane) (rx : Reception) (s : State) : State :=
  let x := s.lane l
  let cfg := x.chk.config
  match x.chk.phase, x.inputWord rx with
  | .verify src _ c e, some (w, rest) =>
    let next := s.store.takeWord cfg.pattern src
    let c' := c + 32
    let e' := e + popCount (next.1 ^^^ cfg.polarity.word w)
    let s' := s.modLane l (LaneState.takeInput rest (.verify next.2 (lastBits next.1) c' e'))
    match verifyEnd cfg c' e' with
    | .goesOn => s'
    | .verified =>
      s'.transition [{ lane := l, phase := .locked next.2 (lastBits next.1) 0 0, reason := .verified }]
    | .failed => s'.transition [{ lane := l, phase := .hunt 0 0, reason := .verifyFailed }]
    | .inverted =>
      (s'.modLane l LaneState.flipPolarity).transition
        [{ lane := l, phase := .verify next.2 (lastBits next.1) 0 0, reason := .inverted }]
  | _, _ => s

/-! ### Locked comparison (R41, R42, R49, R52) -/

/-- An accepted tally: its increments, tracker and mark (R59). -/
def LaneState.takeTally (t : Tally) (x : LaneState) : LaneState :=
  { x with
    acct := { tracker := t.tracker, mark := t.mark }
    gate := { x.gate with counters := x.gate.counters.add t.inc } }

/-- A tally is accepted: counters, then the slot, then the limits (R59, R73, R98). -/
def State.acceptTally (l : Lane) (t : Tally) (s : State) : State :=
  let s' := s.modLane l (LaneState.takeTally t)
  match t.candidate with
  | some cand => ((s'.offerTally l cand).grant).testLimits l
  | none => s'.testLimits l

/-- Accounting meets a word result: it is counted only by a RUNNING gate, and whole or not at all (R58, R59, R70). -/
def State.account (l : Lane) (last15 : BitVec 15) (wr : WordResult) (s : State) : State :=
  let x := s.lane l
  if x.gate.state = .running then
    let t := buildTally s.filters s.log.lanes[l] x last15 wr
    if (x.gate.counters.add t.inc).withinMax then s.acceptTally l t else s.saturateGate l
  else s

/-- The loss block after a word: closed at W bits, or going on (R42). -/
def lossBlock (cfg : ChkConfig) (src : Source) (last15 : BitVec 15) (bits errors : Nat) : Phase :=
  if cfg.w ≤ bits then .locked src last15 0 0 else .locked src last15 bits errors

/-- A loss is declared at a word's end (R42). A write may complete between the word and the loss, and the loss's LOCK_LOST
candidate then meets the slot as that leaves it (R146); that WORD_RESULT says whether one does is the model's choice (DESIGN
CHOICE, log 43). -/
def State.declareLoss (l : Lane) (written : Bool) (s : State) : State :=
  (if written then s.writeCompletion else s).transition [{ lane := l, phase := .hunt 0 0, reason := .errors }]

/-- WORD_RESULT: the word is compared and accounted, then reaches the margin point, then a loss is declared
(R41, R42, R52, R126, R127). That one word reaches accounting and the gate before the margin point, so that a GATE notice
it brings is queued before its SPOT or SWEEP notice, is the model's choice (DESIGN CHOICE, log 35): R52 and R127 order only
the loss after both. -/
def State.lockedWord (l : Lane) (rx : Reception) (above : List Bool) (written : Bool) (s : State) : State :=
  let x := s.lane l
  let cfg := x.chk.config
  match x.chk.phase, x.inputWord rx with
  | .locked src last15 bits errors, some (w, rest) =>
    let next := s.store.takeWord cfg.pattern src
    let wr := buildResult l x.pam4 cfg.polarity last15 next.1 (cfg.polarity.word w)
    let bits' := bits + 32
    let errors' := errors + wr.bits.length
    let s1 := s.modLane l (LaneState.takeInput rest (lossBlock cfg next.2 (lastBits next.1) bits' errors'))
    let s2 := s1.account l last15 wr
    let s3 := s2.dwellWord l (popCount (next.1 ^^^ cfg.polarity.word (s.sampledWord l above w)))
    if cfg.t < errors' then s3.declareLoss l written else s3
  | _, _ => s

/-! ### LANE_SET (R17 to R19) -/

/-- The lane's rate or loopback would change. -/
def LaneState.reconfigures (rate : Fin 4) (loopback : Bool) (x : LaneState) : Bool :=
  x.rate != rate || x.loopback != loopback

/-- The generator's part of LANE_SET: start, stop, or reload (R18, R19). -/
def LaneState.applySettings (power : LanePower) (rate : Fin 4) (loopback : Bool) (x : LaneState) : LaneState :=
  { x with
    power := power, rate := rate, loopback := loopback
    gen :=
      if power.tx && !x.power.tx then x.gen.start
      else if !power.tx && x.power.tx then x.gen.stop
      else if x.reconfigures rate loopback then x.gen.reload
      else x.gen }

/-- The checker's part of LANE_SET: receive power first, then reconfiguration, then a loopback signal that changed
(R35, R43, R31; log 16). -/
def settingsMove (l : Lane) (before after : LaneState) : Option Move :=
  if before.power.rx && !after.power.rx then some { lane := l, phase := .off, reason := .powerDown }
  else if !before.power.rx && after.power.rx then some { lane := l, phase := after.signalDecides, reason := .powerUp }
  else if before.chkState = .off ∨ before.chkState = .held then none
  else if before.reconfigures after.rate after.loopback then
    (if before.chkState = .noSignal ∧ after.signal = false then none
     else some { lane := l, phase := after.signalDecides, reason := .reconfigured })
  else if before.signal = after.signal then none
  else after.signalMove l

/-- LANE_SET's account of a lane (R17). -/
def State.laneSetRow (s : State) (l : Lane) : LaneSetRow :=
  { lane := l, power := (s.lane l).power, rate := (s.lane l).rate, loopback := (s.lane l).loopback,
    gen := (s.lane l).gen.state, checker := (s.lane l).chkState }

/-- LANE_SET once its checks have passed: settings and generators, then the checkers' transitions. -/
def State.applyLaneSet (b : LaneSet) (power : LanePower) (rate : Fin 4) (loopback : Bool) (s : State) : State :=
  (s.onLanes b (LaneState.applySettings power rate loopback)).transition
    ((lanesOf b).filterMap fun l => settingsMove l (s.lane l) ((s.lane l).applySettings power rate loopback))

/-- LANE_SET on its body (R17). -/
def laneSetAct (body : List Byte) (s : State) : State × Answer :=
  let b := byteAt body 0
  if s.namesAbsent b then (s, refuse .noLane)
  else if b = 0 then (s, refuse .badArg)
  else match LanePower.ofCode (field body 1 1), switchOf (field body 3 1) with
    | some power, some loopback =>
      if h : field body 2 1 < 4 then
        let rate : Fin 4 := ⟨field body 2 1, h⟩
        if (lanesOf b).any fun l => (s.lane l).gate.state.active && (s.lane l).reconfigures rate loopback then
          (s, refuse .gateBusy)
        else
          let s' := s.applyLaneSet b power rate loopback
          (s', { status := .ok, fields := .laneSet ((lanesOf b).map s'.laneSetRow) })
      else (s, refuse .badArg)
    | _, _ => (s, refuse .badArg)

/-! ### CHK_SET (R46, R47) -/

/-- CHK_SET's configuration as requested, or none when a coded field is not one of its values (R46). -/
def requestedChk (body : List Byte) : Option ChkConfig :=
  match Polarity.ofCode (field body 2 1), switchOf (field body 3 1) with
  | some pol, some auto =>
    if intervalOk (field body 15 2) then
      some { pattern := field body 1 1, polarity := pol, autoInvert := auto, v := field body 4 2, a := field body 6 1,
             w := field body 7 4, t := field body 11 2, g := field body 13 2, interval := field body 15 2 }
    else none
  | _, _ => none

/-- The numeric fields adjusted (R47); T against the applied W. -/
def ChkConfig.applied (c : ChkConfig) : ChkConfig :=
  { c with
    v := clampNat 64 4096 (roundUp32 c.v)
    a := clampNat 0 15 c.a
    w := roundPow2 c.w
    t := clampNat 1 (roundPow2 c.w / 2) c.t
    g := clampNat 1 1024 c.g }

/-- The checker is neither OFF nor HELD (R46). -/
def LaneState.chkActive (x : LaneState) : Bool := x.chkState != .off && x.chkState != .held

/-- CHK_SET on its body (R46). -/
def chkSetAct (body : List Byte) (s : State) : State × Answer :=
  let b := byteAt body 0
  if s.namesAbsent b then (s, refuse .noLane)
  else if b = 0 then (s, refuse .badArg)
  else match requestedChk body with
    | none => (s, refuse .badArg)
    | some cfg =>
      match s.store.checkPattern cfg.pattern with
      | some st => (s, refuse st)
      | none =>
        if (lanesOf b).any fun l => (s.lane l).chkActive then (s, refuse .laneActive)
        else
          (s.onLanes b fun x => { x with chk := { x.chk with config := cfg.applied } },
            { status := okOr (cfg.applied != cfg), fields := .chkSet cfg.applied })

/-! ### CHK_HOLD, CHK_RELEASE, CHK_READ (R44, R45, R55) -/

/-- The transitions of a CHK_HOLD. -/
def State.holdMoves (s : State) (b : LaneSet) : List Move :=
  ((lanesOf b).filter fun l => (s.lane l).chkState != .held).map fun l => { lane := l, phase := .held, reason := .held }

/-- CHK_HOLD on its body (R44). -/
def chkHoldAct (body : List Byte) (s : State) : State × Answer :=
  let b := byteAt body 0
  if s.namesAbsent b then (s, refuse .noLane)
  else if b = 0 then (s, refuse .badArg)
  else if (lanesOf b).any fun l => (s.lane l).chkState == .off then (s, refuse .laneOff)
  else
    (s.transition (s.holdMoves b),
      { status := .ok
        fields := .chkHold (s.namedWhere b fun x => x.chkState != .held) (s.namedWhere b fun x => x.chkState == .held) })

/-- The transitions of a CHK_RELEASE. -/
def State.releaseMoves (s : State) (b : LaneSet) : List Move :=
  (lanesOf b).map fun l => { lane := l, phase := (s.lane l).signalDecides, reason := .released }

/-- CHK_RELEASE on its body (R45). -/
def chkReleaseAct (body : List Byte) (s : State) : State × Answer :=
  let b := byteAt body 0
  if s.namesAbsent b then (s, refuse .noLane)
  else if b = 0 then (s, refuse .badArg)
  else if (lanesOf b).any fun l => (s.lane l).chkState != .held then (s, refuse .notHeld)
  else
    (s.transition (s.releaseMoves b),
      { status := .ok, fields := .chkRelease ((lanesOf b).map fun l => (l, (s.lane l).signalDecides.state)) })

/-- The progress CHK_READ reports (R55). -/
def Phase.progress : Phase → ChkProgress
  | .off => .none
  | .noSignal => .none
  | .hunt _ c => .hunt (min 64 c)
  | .verify _ _ c e => .verify c e
  | .locked _ _ b e => .locked b e
  | .held => .none

/-- CHK_READ on its body (R55). -/
def chkReadAct (body : List Byte) (s : State) : State × Answer :=
  match s.existingLane (byteAt body 0) with
  | none => (s, refuse .noLane)
  | some l =>
    (s, { status := .ok
          fields := .chkRead (s.lane l).chkState (s.lane l).signal (s.lane l).chk.config (s.lane l).chk.phase.progress })

end Sys2Proof.Machine
end

