-- ==== Sys2Proof/Machine/Layout.lean ====
section
/-! DEFINITION. Layout.lean: characters and frames on the control line, the byte layouts R170 gives to replies, and the
frames the part sends (sections 10.1 to 10.4 and 10.8). -/

namespace Sys2Proof.Machine

/-! ### Characters and the line's rate (R159) -/

/-- The line's rate in baud that a BAUD strap code selects (R159). -/
def baudRate (code : BitVec 2) : Nat :=
  match code with
  | 0 => 115200
  | 1 => 460800
  | 2 => 921600
  | 3 => 3000000

/-- The rate at which the line runs: that of the BAUD straps as last sampled (R159). -/
def State.lineRate (s : State) : Nat := baudRate s.straps.baud

/-- A byte as the part sends it: start bit low, data bits least significant first, stop bit high (R159). -/
def characterOf (b : Byte) : Character := 1#1 ++ b ++ 0#1

/-- The byte of a received character: its 8 data bits as received, whatever its stop bit (R159). -/
def characterByte (c : Character) : Byte := c.extractLsb' 1 8

/-! ### Frames (section 10.2, R160) -/

/-- The sync byte. -/
def syncByte : Byte := 0xC3

/-- The broadcast node address. -/
def broadcastNode : Byte := 0x0F

/-- One bit entered into the CRC: generator x^16 + x^12 + x^5 + 1 (R160). -/
def crcShift (c : BitVec 16) : BitVec 16 := if c.msb then (c <<< 1) ^^^ 0x1021 else c <<< 1

/-- One byte entered into the CRC, most significant bit first (R160). -/
def crcByte (c : BitVec 16) (b : Byte) : BitVec 16 :=
  crcShift (crcShift (crcShift (crcShift (crcShift (crcShift (crcShift (crcShift (c ^^^ (b.setWidth 16 <<< 8)))))))))

/-- The CRC over bytes, from FFFFh (R160). -/
def crcOf (bytes : List Byte) : BitVec 16 := bytes.foldl crcByte 0xFFFF

/-- A 16-bit word, high byte first. -/
def bytes16 (w : BitVec 16) : List Byte := [(w >>> 8).setWidth 8, w.setWidth 8]

/-- A frame's class (section 10.2). -/
inductive FrameClass where
  | request | reply | notice
  deriving DecidableEq, Repr

/-- The class-and-kind byte: class in the upper two bits, kind in the lower six. -/
def classKind (cls : FrameClass) (kind : BitVec 6) : Byte :=
  match cls with
  | .request => 0b00#2 ++ kind
  | .reply => 0b01#2 ++ kind
  | .notice => 0b10#2 ++ kind

/-- A whole frame: sync, length, node through body, CRC high byte first (section 10.2). -/
def frameBytes (node : Byte) (cls : FrameClass) (kind : BitVec 6) (tag : Byte) (body : List Byte) : List Byte :=
  let payload := node :: classKind cls kind :: tag :: body
  syncByte :: BitVec.ofNat 8 payload.length :: (payload ++ bytes16 (crcOf payload))

/-! ### Codes (R170) -/

/-- Status codes. -/
def Status.code : Status → Byte
  | .ok => 0x00
  | .adjusted => 0x01
  | .badKind => 0x10
  | .badLength => 0x11
  | .badArg => 0x12
  | .noLane => 0x13
  | .laneOff => 0x14
  | .laneActive => 0x15
  | .notHeld => 0x16
  | .gateBusy => 0x17
  | .noResult => 0x18
  | .noRegion => 0x19
  | .badRegion => 0x1A
  | .regionClash => 0x1B
  | .regionInUse => 0x1C
  | .badFilter => 0x1D
  | .filterInUse => 0x1E

/-- Lock reason codes: the order of the reason table of R53, from 1. -/
def Reason.code : Reason → Nat
  | .powerUp => 1
  | .powerDown => 2
  | .signalUp => 3
  | .signal => 4
  | .found => 5
  | .inverted => 6
  | .verified => 7
  | .verifyFailed => 8
  | .errors => 9
  | .reconfigured => 10
  | .held => 11
  | .released => 12

/-- Checker state codes of a capture record. -/
def CheckerState.code : CheckerState → Nat
  | .off => 0
  | .noSignal => 1
  | .hunt => 2
  | .verify => 3
  | .locked => 4
  | .held => 5

/-- Gate end reason codes. -/
def EndReason.code : EndReason → Nat
  | .bits => 1
  | .errors => 2
  | .time => 3
  | .confident => 4
  | .saturated => 5
  | .lockLost => 6
  | .armTimeout => 7
  | .laneOff => 8
  | .stopped => 9

/-- Start mode codes. -/
def StartMode.code : StartMode → Nat
  | .now => 0
  | .onLock => 1

/-- Lock policy codes. -/
def LockPolicy.code : LockPolicy → Nat
  | .keep => 0
  | .pause => 1
  | .abort => 2

/-- Confidence level codes. -/
def Level.code : Level → Nat
  | .cl90 => 90
  | .cl95 => 95
  | .cl99 => 99

/-- Lane power codes. -/
def LanePower.code : LanePower → Byte
  | .off => 0
  | .txOnly => 1
  | .rxOnly => 2
  | .full => 3

/-- Polarity codes. -/
def Polarity.code : Polarity → Byte
  | .normal => 0
  | .inverted => 1

/-- Codes of loopback, auto-invert and continuous. -/
def switchCode (on : Bool) : Byte := if on then 1 else 0

/-- Source codes of GATE_READ and COMBINE. -/
def sourceCode (fromResult : Bool) : Byte := if fromResult then 1 else 0

/-- Direction codes. -/
def Direction.code : Direction → Byte
  | .onesToZero => 0
  | .zerosToOne => 1

/-- Axis codes. -/
def Axis.code : Axis → Byte
  | .phase => 0
  | .threshold => 1

/-- Eye codes. -/
def Eye.code : Eye → Byte
  | .lower => 0
  | .middle => 1
  | .upper => 2

/-- Verdict mode codes. -/
def VerdictMode.code : VerdictMode → Byte
  | .count => 0
  | .limit => 1

/-- Capture mode codes. -/
def CaptureMode.code : CaptureMode → Byte
  | .off => 0
  | .words => 1
  | .bursts => 2
  | .events => 3

/-- Arbitration policy codes. -/
def ArbPolicy.code : ArbPolicy → Byte
  | .rotate => 0
  | .fixed => 1
  | .stay => 2

/-- Full policy codes. -/
def FullPolicy.code : FullPolicy → Byte
  | .stop => 0
  | .ring => 1

/-- Notice kind codes. -/
def NoticeKind.code : NoticeKind → BitVec 6
  | .lock => 0x01
  | .gate => 0x02
  | .alarm => 0x03
  | .sweep => 0x04
  | .spot => 0x05
  | .log => 0x06

/-! ### Records (R170) -/

/-- A rate figure's four bytes. -/
def Figure.bytes (f : Figure) : List Byte :=
  bytesOf 2 f.mantissa ++ [BitVec.ofInt 8 f.exponent, if f.undef then 1 else 0]

/-- Numbers in consecutive fields of one size. -/
def bytesEach (size : Nat) (ns : List Nat) : List Byte := ns.flatMap (bytesOf size)

/-- The counters of a gate result record: offsets 14 to 235. -/
def Counters.bytes (c : Counters) : List Byte :=
  bytesOf 8 c.bits
    ++ bytesEach 6 [c.errors, c.onesToZero, c.zerosToOne, c.symbols, c.d1, c.d2, c.d3]
    ++ bytesEach 6 c.filters.toList ++ bytesEach 6 [c.unmatched, c.overlap]
    ++ bytesOf 4 c.bursts ++ bytesEach 4 c.bins.toList
    ++ bytesEach 4 [c.errIntervals, c.cleanIntervals, c.missed]

/-- The gate's own counters in a gate result record: offsets 236 to 255. -/
def GateCounts.bytes (c : GateCounts) : List Byte :=
  bytesEach 4 [c.lockLosses, c.elapsed, c.paused, c.unlocked, c.armWait]

/-- A gate result record, 296 bytes. -/
def ResultRecord.bytes (r : ResultRecord) : List Byte :=
  bytesEach 1 [r.lane.val, r.reason.code] ++ bytesEach 6 [r.startStamp, r.endStamp]
    ++ r.counters.bytes ++ r.counts.bytes
    ++ bytesEach 1 [r.settings.mode.code, r.settings.policy.code] ++ bytesOf 4 r.settings.duration
    ++ bytesOf 8 r.settings.bitLimit ++ bytesOf 6 r.settings.errorLimit
    ++ bytesEach 2 [r.settings.armTimeout, r.settings.interval] ++ bytesOf 1 r.settings.level.code
    ++ r.settings.target.bytes ++ r.ratio.bytes ++ r.bound.bytes
    ++ bytesEach 1 [r.pattern, if r.patternChanged then 1 else 0, r.rate.val]

/-- Cause codes of a capture record. -/
def Cause.code : Cause → Nat
  | .errorWord => 1
  | .burstStart => 2
  | .lockGained => 3
  | .lockLost => 4

/-- The fields of a capture record from offset 18 on. -/
def CandidateBody.bytes : CandidateBody → List Byte
  | .errorWord ctx exp rcv => bytesOf 2 ctx.toNat ++ bytesEach 4 [exp.toNat, rcv.toNat, 0]
  | .burstStart ctx exp rcv k => bytesOf 2 ctx.toNat ++ bytesEach 4 [exp.toNat, rcv.toNat, k]
  | .lockGained st r => bytesEach 1 [st.code, r.code] ++ bytesEach 4 [0, 0, 0]
  | .lockLost st r => bytesEach 1 [st.code, r.code] ++ bytesEach 4 [0, 0, 0]

/-- A capture record, 32 bytes. -/
def Record.bytes (r : Record) : List Byte :=
  bytesOf 4 r.sequence ++ bytesEach 1 [r.candidate.lane.val, r.candidate.body.cause.code]
    ++ bytesOf 4 r.candidate.elapsed ++ bytesOf 8 r.candidate.bits ++ r.candidate.body.bytes

/-! ### Request bodies (R170) -/

/-- The body of a LANE_SET. -/
def laneSetBody (b : LaneSet) (power : LanePower) (rate : Fin 4) (loopback : Bool) : List Byte :=
  [b, power.code, BitVec.ofNat 8 rate.val, switchCode loopback]

/-- The body of a CHK_SET. -/
def chkSetBody (b : LaneSet) (c : ChkConfig) : List Byte :=
  [b] ++ bytesOf 1 c.pattern ++ [c.polarity.code, switchCode c.autoInvert] ++ bytesOf 2 c.v ++ bytesOf 1 c.a
    ++ bytesOf 4 c.w ++ bytesOf 2 c.t ++ bytesOf 2 c.g ++ bytesOf 2 c.interval

/-- The body of a GATE_START. -/
def gateStartBody (b : LaneSet) (a : GateArgs) : List Byte :=
  [b] ++ bytesOf 1 a.mode.code ++ bytesOf 1 a.policy.code ++ bytesOf 4 a.duration ++ bytesOf 8 a.bitLimit
    ++ bytesOf 8 a.errorLimit ++ a.target.bytes ++ bytesOf 1 a.level.code ++ bytesOf 2 a.armTimeout

/-- The body of a FILTER_SET. -/
def filterSetBody (k : Fin 16) (f : Filter) : List Byte :=
  [BitVec.ofNat 8 k.val] ++ bytes16 f.value ++ bytes16 f.mask ++ [f.directions.setWidth 8, f.lanes]

/-- The body of a SWEEP_SET. -/
def sweepSetBody (p : Plan) : List Byte :=
  [p.lanes, p.axis.code, p.eye.code, BitVec.ofInt 8 p.start] ++ bytesOf 1 p.step ++ bytesOf 1 p.count
    ++ bytesOf 4 p.dwell ++ bytesOf 4 p.limit ++ [p.mode.code] ++ bytesOf 2 p.lockWait ++ [switchCode p.continuous]

/-- The body of a SPOT_START. -/
def spotStartBody (ps : PointSettings) : List Byte :=
  [BitVec.ofNat 8 ps.lane.val, ps.axis.code, ps.eye.code, BitVec.ofInt 8 ps.offset] ++ bytesOf 4 ps.dwell
    ++ bytesOf 4 ps.limit ++ [ps.mode.code] ++ bytesOf 2 ps.lockWait

/-! ### Reply contents and segments (R162, R170) -/

/-- A reply's field bytes, where R170 gives every field a layout: no field at all, a gate result record, the records of
a LOG_READ, or sets alone. -/
def ReplyFields.bytes? : ReplyFields → Option (List Byte)
  | .none => some []
  | .gateResult r => some r.bytes
  | .logRead remaining records =>
    some (bytesOf 2 remaining ++ bytesOf 1 records.length ++ records.flatMap Record.bytes)
  | .chkHold entered already => some [entered, already]
  | .gateStop stopped skipped => some [stopped, skipped]
  | .filterClear cleared already => some (bytes16 cleared ++ bytes16 already)
  | _ => Option.none

/-- The byte string of a reply's fields: as R170 lays it out, a free value where it does not (log 13). -/
def Reply.content (r : Reply) : List Byte := r.answer.fields.bytes?.getD (Config.replyBytes r.kind r.answer.fields)

/-- The number of segments of a reply: at least one, each of up to 238 bytes (R170). -/
def Reply.segments (r : Reply) : Nat := max 1 ((r.content.length + (Config.segmentBytes - 1)) / Config.segmentBytes)

/-- The body of a reply's segment: status code, segment byte, segment; the segment byte holds the index, and 80h on the
last (R162, R170). -/
def Reply.segmentBody (r : Reply) (i : Nat) : List Byte :=
  r.answer.status.code :: BitVec.ofNat 8 ((if i + 1 = r.segments then 128 else 0) + i % 128)
    :: (r.content.drop (Config.segmentBytes * i)).take Config.segmentBytes

/-! ### The frames the part sends (R162, R163) -/

/-- The frame of a reply's segment: the part's node, class REPLY, the request's kind and tag (R162). -/
def Reply.frame (node : BitVec 2) (i : Nat) (r : Reply) : List Byte :=
  frameBytes (node.setWidth 8) .reply r.kind r.tag (r.segmentBody i)

/-- The frame of a notice: the part's node, class NOTICE, the kind's code, the notice count as its tag (R163), and a body
that R170 does not lay out (log 29). -/
def Notice.frame (node : BitVec 2) (count : Nat) (n : Notice) : List Byte :=
  frameBytes (node.setWidth 8) .notice n.kind.code (BitVec.ofNat 8 count) ((Config.noticeBytes n).take Config.bodyBytes)

/-- The frame being sent on CTL_TXD; none at a free line (R163). -/
def State.frameOnLine (s : State) : List Byte :=
  match s.line.sending, s.line.replies with
  | some (.reply i), r :: _ => r.frame s.straps.node i
  | some (.notice k n), _ => n.frame s.straps.node k
  | _, _ => []

/-- That frame as CTL_TXD carries it, character by character (R159, R163). -/
def State.lineOutput (s : State) : List Character := s.frameOnLine.map characterOf

end Sys2Proof.Machine
end

