-- ==== Sys2Proof/Machine/Line.lean ====
section
/-! DEFINITION. Line.lean: the receiver, the inbound queue, the execution of requests and the outbound path
(sections 10.2 to 10.4). -/

namespace Sys2Proof.Machine

/-! ### The receiver (R160) -/

/-- What a scan of received bytes leaves: the payloads (node through body) of the frames that stand, in order, and the
partial frame. -/
structure Scanned where
  payloads : List (List Byte)
  rest : List Byte
  deriving DecidableEq, Repr

/-- A frame stands: its CRC matches and its class is REQUEST (R160). -/
def frameStands (payload crc : List Byte) : Bool :=
  crc == bytes16 (crcOf payload) && (byteAt payload 1) >>> 6 == 0#8

/-- Hunt for frames. After a discard the hunt resumes at the byte that followed the sync byte (R160). `fuel` bounds the
bytes examined. -/
def scan : (fuel : Nat) → List Byte → Scanned
  | 0, buf => { payloads := [], rest := buf }
  | _ + 1, [] => { payloads := [], rest := [] }
  | fuel + 1, b :: t =>
    if b ≠ syncByte then scan fuel t
    else match t with
      | [] => { payloads := [], rest := [b] }
      | len :: rest =>
        if len.toNat < 3 ∨ 243 < len.toNat then scan fuel (len :: rest)
        else if rest.length < len.toNat + 2 then { payloads := [], rest := b :: len :: rest }
        else if frameStands (rest.take len.toNat) ((rest.drop len.toNat).take 2) then
          { payloads := rest.take len.toNat :: (scan fuel (rest.drop (len.toNat + 2))).payloads
            rest := (scan fuel (rest.drop (len.toNat + 2))).rest }
        else scan fuel (len :: rest)

/-- The request of a payload that is addressed to the part or to all; any other good frame is ignored (R160). -/
def requestOfPayload (node : BitVec 2) : List Byte → Option Request
  | addr :: kind :: tag :: body =>
    if addr.toNat = node.toNat then some { broadcast := false, kind := kind.setWidth 6, tag := tag, body := body }
    else if addr = broadcastNode then some { broadcast := true, kind := kind.setWidth 6, tag := tag, body := body }
    else none
  | _ => none

/-- Offer a request to the inbound queue; a queue that holds 4 discards it (R161). -/
def ControlLine.offer (c : ControlLine) (q : Request) : ControlLine :=
  { c with inbound := if c.inbound.length < Config.inboundCapacity then c.inbound ++ [q] else c.inbound }

/-- FRAME_RECEIVED: characters arrive, and their bytes go to the receiver; each frame completed is discarded, ignored, or
offered to the queue (R159 to R161, log 34). -/
def State.frameReceived (chars : List Character) (s : State) : State :=
  let buf := s.line.received ++ chars.map characterByte
  let got := scan (buf.length + 1) buf
  let line := { s.line with received := got.rest }
  { s with line := (got.payloads.filterMap (requestOfPayload s.straps.node)).foldl ControlLine.offer line }

/-- INTER_BYTE_GAP: the partial frame is abandoned (R160). -/
def State.interByteGap (s : State) : State := { s with line := { s.line with received := [] } }

/-! ### Execution (R161, R162) -/

/-- A request's command finds its request at the head of the inbound queue, or brings it: it then arrives under R161
(log 1). -/
def ControlLine.arrive (q : Request) (c : ControlLine) : ControlLine := if c.inbound.head? = some q then c else c.offer q

/-- The head of the queue is this request and may execute: no soft reset is due, and fewer than 4 replies wait or it was
broadcast (R161, R169). -/
def ControlLine.ready (q : Request) (c : ControlLine) : Bool :=
  c.inbound.head? == some q && !c.resetDue && (q.broadcast || c.replies.length < Config.replyCapacity)

/-- The executed request leaves the inbound queue. -/
def State.popRequest (s : State) : State := { s with line := { s.line with inbound := s.line.inbound.tail } }

/-- Act and queue the reply (R162). -/
def State.answerTo (q : Request) (r : State × Answer) : State :=
  r.1.queueReply { kind := q.kind, tag := q.tag, answer := r.2 }

/-- Execute a request of a known kind: length first, then the kind's own checks and act; a broadcast has no reply, and
acts only for the broadcast kinds (R161). -/
def State.perform (q : Request) (act : List Byte → State → State × Answer) (s : State) : State :=
  if q.broadcast then
    (if broadcastKind q.kind && bodyLengthOk q.kind q.body.length then (act q.body s).1 else s)
  else if bodyLengthOk q.kind q.body.length then State.answerTo q (act q.body s)
  else State.answerTo q (s, refuse .badLength)

/-- Run `body` on the request if it is at the head of the queue and may execute; otherwise it waits or is lost (R161). -/
def State.execute (q : Request) (body : State → State) (s : State) : State :=
  let s' := { s with line := s.line.arrive q }
  if s'.line.ready q then (body s'.popRequest).pump else s'

/-- The request a command carries. -/
def requestFor (kind : BitVec 6) (r : Req) : Request :=
  { broadcast := r.broadcast, kind := kind, tag := r.tag, body := r.body }

/-- A request command of a known kind. -/
def State.serve (kind : BitVec 6) (r : Req) (act : List Byte → State → State × Answer) (s : State) : State :=
  s.execute (requestFor kind r) (State.perform (requestFor kind r) act)

/-- UNKNOWN_KIND: answered BAD_KIND, and without effect when broadcast; a code that names a kind is no unknown kind
(R161, log 24). -/
def State.unknownKind (code : BitVec 6) (r : Req) (s : State) : State :=
  if isKnownKind code then s
  else s.execute (requestFor code r) fun s =>
    if r.broadcast then s else State.answerTo (requestFor code r) (s, refuse .badKind)

/-! ### The outbound path (R162, R163) -/

/-- The frame being sent ends: a notice's frame frees the line; a reply goes on with its next segment, or leaves the queue
after its last (R162, R163). -/
def ControlLine.frameEnd (c : ControlLine) : ControlLine :=
  match c.sending, c.replies with
  | none, _ => c
  | some (.notice _ _), _ => { c with sending := none }
  | some (.reply _), [] => { c with sending := none }
  | some (.reply i), r :: rest =>
    if i + 1 < r.segments then { c with sending := some (.reply (i + 1)) } else { c with sending := none, replies := rest }

/-- FRAME_SENT: the frame ends and the next one begins. -/
def State.frameSent (s : State) : State := { s with line := s.line.frameEnd.pump }

/-- An accepted soft reset acts now: no reply is left and no frame is being sent (R169). -/
def ControlLine.resetActs (c : ControlLine) : Bool := c.resetDue && c.sending.isNone && c.replies.isEmpty

end Sys2Proof.Machine
end

