-- ==== Sys2Proof/Machine/Control.lean ====
section
/-! DEFINITION. Control.lean: identity, status, history, notice mask, uptime and the three resets (sections 10.4 to
10.7, R107). -/

namespace Sys2Proof.Machine

/-! ### Identity and status (R166, R167) -/

/-- A descriptor; its parameter byte count is a free value (log 14). -/
def descriptor (id : Nat) (params : List Int) : Descriptor :=
  { id := id, version := 1, paramBytes := Config.descriptorBytes id, params := params }

/-- The parameters of one rate entry: id, symbol rate in kBd, modulation (0 NRZ, 1 PAM4), bits_per_ms. -/
def rateParams (r : Fin 4) : List Int :=
  [(r.val : Int), (symbolRateKBd r : Int), if 2 ≤ r.val then 1 else 0, (bitsPerMs r : Int)]

/-- The parameters of one fixed pattern: id and register length. -/
def patternParams (id : Nat) : List Int := [(id : Int), (prbsLength id : Int)]

/-- The capability chain (R166). -/
def capabilityChain (st : Straps) : List Descriptor :=
  [ descriptor 1 [(strapLaneCount st : Int)],
    descriptor 2 (4 :: List.flatMap rateParams [0, 1, 2, 3]),
    descriptor 3 (7 :: List.flatMap patternParams [1, 2, 3, 4, 5, 6, 7]),
    descriptor 4 [4096, 64, 16, 128, 262144],
    descriptor 5 [16],
    descriptor 6 [512, 1],
    descriptor 7 [-32, 31, 64, 1] ]

/-- IDENTIFY (R166). -/
def identifyAct (s : State) : State × Answer :=
  (s, { status := .ok
        fields := .identify 0x2D17 0x0880 0x01 s.straps.node.toNat (strapLaneCount s.straps) s.straps.baud.toNat
          (capabilityChain s.straps).length (capabilityChain s.straps) })

/-- STATUS's account of one lane (R167). -/
def State.laneStatus (s : State) (l : Lane) : LaneStatus :=
  { lane := l, power := (s.lane l).power, checker := (s.lane l).chkState, gate := (s.lane l).gate.state }

/-- STATUS (R167). -/
def statusAct (s : State) : State × Answer :=
  (s, { status := .ok
        fields := .status s.cause s.uptime ((lanesOf (strapLanes s.straps)).map s.laneStatus) s.margin.state.name
          s.log.records.length s.historySummary })

/-- RESET: accepted, and due from now on (R169). -/
def resetAct (s : State) : State × Answer :=
  ({ s with line := { s.line with resetDue := true } }, { status := .ok, fields := .none })

/-! ### Notice mask and history (R164, R165) -/

/-- The notice's kind is in a set of kinds. -/
def Notice.enabledIn (set : BitVec 6) (n : Notice) : Bool := set.getLsbD n.kind.bit

/-- NOTICE_MASK on its body (R164). -/
def noticeMaskAct (body : List Byte) (s : State) : State × Answer :=
  let set : BitVec 6 := (byteAt body 0).setWidth 6
  ({ s with line := { s.line with enabled := set, outbox := s.line.outbox.filter fun n => n.enabledIn set } },
    { status := .ok
      fields := .noticeMask set (s.line.outbox.filter fun n => !n.enabledIn set).length })

/-- HISTORY_READ (R165). -/
def historyReadAct (s : State) : State × Answer :=
  (s, { status := .ok, fields := .history ((lanesOf (strapLanes s.straps)).map fun l => (l, s.history[l])) })

/-- Clear a set of flags on a set of lanes. -/
def clearHistory (b : LaneSet) (flags : HistorySet) (h : Vector HistorySet 8) : Vector HistorySet 8 :=
  Vector.ofFn fun l => if b.getLsbD l.val then h[l] &&& ~~~flags else h[l]

/-- HISTORY_CLEAR on its body; the reply carries the named lanes' flags (R165, log 31). -/
def historyClearAct (body : List Byte) (s : State) : State × Answer :=
  let b := byteAt body 0
  let flags : HistorySet := (byteAt body 1).setWidth 5
  if s.namesAbsent b then (s, refuse .noLane)
  else if b = 0 ∨ flags = 0 then (s, refuse .badArg)
  else
    let h := clearHistory b flags s.history
    ({ s with history := h }, { status := .ok, fields := .history ((lanesOf b).map fun l => (l, h[l])) })

/-! ### The time base (R107) -/

/-- UPTIME_TICK: one further, returning to 0 after 2^48 - 1 (R107). -/
def State.uptimeTick (s : State) : State := { s with uptime := (s.uptime + 1) % 2 ^ 48 }

/-! ### Resets (R168, R169) -/

/-- Every lane at its reset values; the SD inputs are pins and keep their levels (R32, R56, R75, R108). -/
def State.freshLanes (s : State) : Vector LaneState 8 := Vector.ofFn fun l => .initial s.lanes[l].sd

/-- The pattern store after a line reset: the memory kept, the regions undefined (R15). -/
def Store.lineReset (st : Store) : Store := { st with regions := Vector.replicate 16 none }

/-- POWER_ON_RESET, with the straps as then sampled (R168). -/
def State.powerOnReset (st : Straps) (s : State) : State :=
  { straps := st, uptime := 0, cause := .powerOn, history := Vector.replicate 8 0, store := .initial,
    lanes := s.freshLanes, filters := Vector.replicate 16 none, margin := .initial, log := .initial, line := .initial,
    pending := s.pending }

/-- LINE_RESET, with the straps as then sampled (R168). -/
def State.lineReset (st : Straps) (s : State) : State :=
  { straps := st, uptime := 0, cause := .line, history := Vector.replicate 8 0, store := s.store.lineReset,
    lanes := s.freshLanes, filters := Vector.replicate 16 none, margin := .initial, log := .initial, line := .initial,
    pending := s.pending }

/-- The soft reset as it acts (R169). -/
def State.softResetNow (s : State) : State :=
  { straps := s.straps, uptime := 0, cause := .soft, history := s.history, store := s.store,
    lanes := s.freshLanes, filters := Vector.replicate 16 none, margin := .initial, log := .initial, line := .initial,
    pending := s.pending }

/-- SOFT_RESET: acts once an accepted RESET has no reply left to wait for and no frame is being sent (R169, log 8). -/
def State.softReset (s : State) : State := if s.line.resetActs then s.softResetNow else s

end Sys2Proof.Machine
end

