-- ==== Sys2Proof/Machine/ExecCapture.lean ====
section
/-! DEFINITION. ExecCapture.lean: the meanings of the requests and the write completion of the capture log (chapter 9). -/

namespace Sys2Proof.Machine

/-- CAPTURE_SET (R145). -/
def execCaptureSet (r : Req) (s : State) : Host.Outcome State Fault Refusal :=
  .next (s.serve 0x30 r captureSetAct)

/-- CAPTURE_READ (R157). -/
def execCaptureRead (r : Req) (s : State) : Host.Outcome State Fault Refusal :=
  .next (s.serve 0x31 r (fun _ => captureReadAct))

/-- LOG_READ (R154). -/
def execLogRead (r : Req) (s : State) : Host.Outcome State Fault Refusal :=
  .next (s.serve 0x32 r logReadAct)

/-- LOG_CLEAR (R155). -/
def execLogClear (r : Req) (s : State) : Host.Outcome State Fault Refusal :=
  .next (s.serve 0x33 r (fun _ => logClearAct))

/-- LOG_SET (R156). -/
def execLogSet (r : Req) (s : State) : Host.Outcome State Fault Refusal :=
  .next (s.serve 0x34 r logSetAct)

/-- WRITE_COMPLETION (R148, R150, R151, R153). -/
def execWriteCompletion (s : State) : Host.Outcome State Fault Refusal :=
  .next s.writeCompletion.pump

end Sys2Proof.Machine
end

