-- ==== Sys2Proof/Machine/ExecChecker.lean ====
section
/-! DEFINITION. ExecChecker.lean: the meanings of the requests and events of lane checkers (chapter 3). -/

namespace Sys2Proof.Machine

/-- CHK_SET (R46, R47). -/
def execChkSet (r : Req) (s : State) : Host.Outcome State Fault Refusal :=
  .next (s.serve 0x14 r chkSetAct)

/-- CHK_HOLD (R44). -/
def execChkHold (r : Req) (s : State) : Host.Outcome State Fault Refusal :=
  .next (s.serve 0x15 r chkHoldAct)

/-- CHK_RELEASE (R45). -/
def execChkRelease (r : Req) (s : State) : Host.Outcome State Fault Refusal :=
  .next (s.serve 0x16 r chkReleaseAct)

/-- CHK_READ (R55). -/
def execChkRead (r : Req) (s : State) : Host.Outcome State Fault Refusal :=
  .next (s.serve 0x17 r chkReadAct)

/-- SIGNAL_RISE (R34, R36). -/
def execSignalRise (lane : Lane) (s : State) : Host.Outcome State Fault Refusal :=
  .next (s.signalLevel lane true).pump

/-- SIGNAL_FALL (R34, R36). -/
def execSignalFall (lane : Lane) (s : State) : Host.Outcome State Fault Refusal :=
  .next (s.signalLevel lane false).pump

/-- SEED_LOADED (R37). -/
def execSeedLoaded (lane : Lane) (rx : Reception) (s : State) : Host.Outcome State Fault Refusal :=
  .next (s.seedLoaded lane rx).pump

/-- ANCHOR_MATCH (R38). -/
def execAnchorMatch (lane : Lane) (rx : Reception) (s : State) : Host.Outcome State Fault Refusal :=
  .next (s.anchorMatch lane rx).pump

/-- VERIFY_WORD_END (R39, R40). -/
def execVerifyWordEnd (lane : Lane) (rx : Reception) (s : State) : Host.Outcome State Fault Refusal :=
  .next (s.verifyWord lane rx).pump

/-- WORD_RESULT (R41, R42, R49, R52). -/
def execWordResult (lane : Lane) (rx : Reception) (beside : Alongside) (s : State) : Host.Outcome State Fault Refusal :=
  .next (s.lockedWord lane rx beside.above beside.written).pump

end Sys2Proof.Machine
end

