-- ==== Sys2Proof/Machine/ExecDevice.lean ====
section
/-! DEFINITION. ExecDevice.lean: the meanings of the requests of identity, status, reset, notices and history (chapter 10). -/

namespace Sys2Proof.Machine

/-- IDENTIFY (R166). -/
def execIdentify (r : Req) (s : State) : Host.Outcome State Fault Refusal :=
  .next (s.serve 0x01 r (fun _ => identifyAct))

/-- STATUS (R167). -/
def execStatus (r : Req) (s : State) : Host.Outcome State Fault Refusal :=
  .next (s.serve 0x02 r (fun _ => statusAct))

/-- RESET (R169). -/
def execReset (r : Req) (s : State) : Host.Outcome State Fault Refusal :=
  .next (s.serve 0x03 r (fun _ => resetAct))

/-- NOTICE_MASK (R164). -/
def execNoticeMask (r : Req) (s : State) : Host.Outcome State Fault Refusal :=
  .next (s.serve 0x04 r noticeMaskAct)

/-- HISTORY_READ (R165). -/
def execHistoryRead (r : Req) (s : State) : Host.Outcome State Fault Refusal :=
  .next (s.serve 0x05 r (fun _ => historyReadAct))

/-- HISTORY_CLEAR (R165). -/
def execHistoryClear (r : Req) (s : State) : Host.Outcome State Fault Refusal :=
  .next (s.serve 0x06 r historyClearAct)

end Sys2Proof.Machine
end

