-- ==== Sys2Proof/Machine/ExecFilter.lean ====
section
/-! DEFINITION. ExecFilter.lean: the meanings of the requests of the filter table (chapter 5). -/

namespace Sys2Proof.Machine

/-- FILTER_SET (R81). -/
def execFilterSet (r : Req) (s : State) : Host.Outcome State Fault Refusal :=
  .next (s.serve 0x18 r filterSetAct)

/-- FILTER_CLEAR (R82). -/
def execFilterClear (r : Req) (s : State) : Host.Outcome State Fault Refusal :=
  .next (s.serve 0x19 r filterClearAct)

/-- FILTER_READ (R84). -/
def execFilterRead (r : Req) (s : State) : Host.Outcome State Fault Refusal :=
  .next (s.serve 0x1A r (fun _ => filterReadAct))

/-- FILTER_PROBE (R85). -/
def execFilterProbe (r : Req) (s : State) : Host.Outcome State Fault Refusal :=
  .next (s.serve 0x1B r filterProbeAct)

end Sys2Proof.Machine
end

