-- ==== Sys2Proof/Machine/ExecGate.lean ====
section
/-! DEFINITION. ExecGate.lean: the meanings of the requests and the timer of measurement gates (chapter 6). -/

namespace Sys2Proof.Machine

/-- GATE_START (R89 to R91). -/
def execGateStart (r : Req) (s : State) : Host.Outcome State Fault Refusal :=
  .next (s.serve 0x20 r gateStartAct)

/-- GATE_STOP (R102). -/
def execGateStop (r : Req) (s : State) : Host.Outcome State Fault Refusal :=
  .next (s.serve 0x21 r gateStopAct)

/-- GATE_READ (R105). -/
def execGateRead (r : Req) (s : State) : Host.Outcome State Fault Refusal :=
  .next (s.serve 0x22 r gateReadAct)

/-- COMBINE (R106). -/
def execCombine (r : Req) (s : State) : Host.Outcome State Fault Refusal :=
  .next (s.serve 0x23 r combineAct)

/-- GATE_TIMER_EXPIRY (R93 to R95). -/
def execGateTimerExpiry (lane : Lane) (s : State) : Host.Outcome State Fault Refusal :=
  .next (s.gateExpiry lane).pump

end Sys2Proof.Machine
end

