-- ==== Sys2Proof/Machine/ExecLane.lean ====
section
/-! DEFINITION. ExecLane.lean: the meanings of the requests and the event of lanes and generators (chapter 2). -/

namespace Sys2Proof.Machine

/-- LANE_SET (R17 to R19). -/
def execLaneSet (r : Req) (s : State) : Host.Outcome State Fault Refusal :=
  .next (s.serve 0x10 r laneSetAct)

/-- GEN_SET (R21, R22, R25). -/
def execGenSet (r : Req) (s : State) : Host.Outcome State Fault Refusal :=
  .next (s.serve 0x11 r genSetAct)

/-- GEN_INSERT (R26, R29). -/
def execGenInsert (r : Req) (s : State) : Host.Outcome State Fault Refusal :=
  .next (s.serve 0x12 r genInsertAct)

/-- GEN_READ (R30). -/
def execGenRead (r : Req) (s : State) : Host.Outcome State Fault Refusal :=
  .next (s.serve 0x13 r genReadAct)

/-- GENERATOR_WORD_START (R20, R27 to R31). -/
def execGeneratorWordStart (lane : Lane) (s : State) : Host.Outcome State Fault Refusal :=
  .next (s.modLane lane (LaneState.generatorWord s.store))

end Sys2Proof.Machine
end

