-- ==== Sys2Proof/Machine/ExecLine.lean ====
section
/-! DEFINITION. ExecLine.lean: the meanings of the resets, the line events and the uptime (chapter 10, R107). -/

namespace Sys2Proof.Machine

/-- POWER_ON_RESET (R168). -/
def execPowerOnReset (straps : Straps) (s : State) : Host.Outcome State Fault Refusal :=
  .next (s.powerOnReset straps)

/-- LINE_RESET (R168). -/
def execLineReset (straps : Straps) (s : State) : Host.Outcome State Fault Refusal :=
  .next (s.lineReset straps)

/-- SOFT_RESET (R169). -/
def execSoftReset (s : State) : Host.Outcome State Fault Refusal :=
  .next s.softReset

/-- FRAME_RECEIVED (R160, R161). -/
def execFrameReceived (chars : List Character) (s : State) : Host.Outcome State Fault Refusal :=
  .next (s.frameReceived chars)

/-- INTER_BYTE_GAP (R160). -/
def execInterByteGap (s : State) : Host.Outcome State Fault Refusal :=
  .next s.interByteGap

/-- UNKNOWN_KIND (R161). -/
def execUnknownKind (code : BitVec 6) (r : Req) (s : State) : Host.Outcome State Fault Refusal :=
  .next (s.unknownKind code r)

/-- FRAME_SENT (R162, R163). -/
def execFrameSent (s : State) : Host.Outcome State Fault Refusal :=
  .next s.frameSent

/-- UPTIME_TICK (R107). -/
def execUptimeTick (s : State) : Host.Outcome State Fault Refusal :=
  .next s.uptimeTick

end Sys2Proof.Machine
end

