-- ==== Sys2Proof/Machine/ExecMargin.lean ====
section
/-! DEFINITION. ExecMargin.lean: the meanings of the requests and timers of the margin unit (chapter 8). -/

namespace Sys2Proof.Machine

/-- SWEEP_SET (R129, R130). -/
def execSweepSet (r : Req) (s : State) : Host.Outcome State Fault Refusal :=
  .next (s.serve 0x28 r sweepSetAct)

/-- SWEEP_START (R138). -/
def execSweepStart (r : Req) (s : State) : Host.Outcome State Fault Refusal :=
  .next (s.serve 0x29 r (fun _ => sweepStartAct))

/-- SWEEP_STOP (R139). -/
def execSweepStop (r : Req) (s : State) : Host.Outcome State Fault Refusal :=
  .next (s.serve 0x2A r (fun _ => sweepStopAct))

/-- SPOT_START (R134, R137). -/
def execSpotStart (r : Req) (s : State) : Host.Outcome State Fault Refusal :=
  .next (s.serve 0x2B r spotStartAct)

/-- SWEEP_READ (R143). -/
def execSweepRead (r : Req) (s : State) : Host.Outcome State Fault Refusal :=
  .next (s.serve 0x2C r sweepReadAct)

/-- SETTLE_EXPIRY (R124, R125). -/
def execSettleExpiry (midWord : Bool) (s : State) : Host.Outcome State Fault Refusal :=
  .next (s.settleExpiry midWord).pump

/-- LOCK_WAIT_EXPIRY (R125). -/
def execLockWaitExpiry (s : State) : Host.Outcome State Fault Refusal :=
  .next s.lockWaitExpiry.pump

end Sys2Proof.Machine
end

