-- ==== Sys2Proof/Machine/ExecPattern.lean ====
section
/-! DEFINITION. ExecPattern.lean: the meanings of the requests of the pattern store (chapter 1). -/

namespace Sys2Proof.Machine

/-- REGION_DEFINE (R7). -/
def execRegionDefine (r : Req) (s : State) : Host.Outcome State Fault Refusal :=
  .next (s.serve 0x08 r regionDefineAct)

/-- REGION_DELETE (R8). -/
def execRegionDelete (r : Req) (s : State) : Host.Outcome State Fault Refusal :=
  .next (s.serve 0x09 r regionDeleteAct)

/-- REGION_READ (R9). -/
def execRegionRead (r : Req) (s : State) : Host.Outcome State Fault Refusal :=
  .next (s.serve 0x0A r (fun _ => regionReadAct))

/-- PATTERN_WRITE (R10). -/
def execPatternWrite (r : Req) (s : State) : Host.Outcome State Fault Refusal :=
  .next (s.serve 0x0B r patternWriteAct)

/-- PATTERN_READ (R11). -/
def execPatternRead (r : Req) (s : State) : Host.Outcome State Fault Refusal :=
  .next (s.serve 0x0C r patternReadAct)

end Sys2Proof.Machine
end

