-- ==== Sys2Proof/Machine/Dispatch.lean ====
section
/-! DEFINITION. Dispatch.lean: one arm per command. -/

namespace Sys2Proof.Machine

/-- The effect of a command on everything but the queue. -/
def exec (i : Instr) (s : State) : Host.Outcome State Fault Refusal :=
  match i with
  | .powerOnReset straps => Sys2Proof.Machine.execPowerOnReset straps s
  | .lineReset straps => Sys2Proof.Machine.execLineReset straps s
  | .softReset => Sys2Proof.Machine.execSoftReset s
  | .frameReceived chars => Sys2Proof.Machine.execFrameReceived chars s
  | .interByteGap => Sys2Proof.Machine.execInterByteGap s
  | .unknownKind code r => Sys2Proof.Machine.execUnknownKind code r s
  | .frameSent => Sys2Proof.Machine.execFrameSent s
  | .uptimeTick => Sys2Proof.Machine.execUptimeTick s
  | .identify r => Sys2Proof.Machine.execIdentify r s
  | .status r => Sys2Proof.Machine.execStatus r s
  | .reset r => Sys2Proof.Machine.execReset r s
  | .noticeMask r => Sys2Proof.Machine.execNoticeMask r s
  | .historyRead r => Sys2Proof.Machine.execHistoryRead r s
  | .historyClear r => Sys2Proof.Machine.execHistoryClear r s
  | .regionDefine r => Sys2Proof.Machine.execRegionDefine r s
  | .regionDelete r => Sys2Proof.Machine.execRegionDelete r s
  | .regionRead r => Sys2Proof.Machine.execRegionRead r s
  | .patternWrite r => Sys2Proof.Machine.execPatternWrite r s
  | .patternRead r => Sys2Proof.Machine.execPatternRead r s
  | .laneSet r => Sys2Proof.Machine.execLaneSet r s
  | .genSet r => Sys2Proof.Machine.execGenSet r s
  | .genInsert r => Sys2Proof.Machine.execGenInsert r s
  | .genRead r => Sys2Proof.Machine.execGenRead r s
  | .generatorWordStart lane => Sys2Proof.Machine.execGeneratorWordStart lane s
  | .chkSet r => Sys2Proof.Machine.execChkSet r s
  | .chkHold r => Sys2Proof.Machine.execChkHold r s
  | .chkRelease r => Sys2Proof.Machine.execChkRelease r s
  | .chkRead r => Sys2Proof.Machine.execChkRead r s
  | .signalRise lane => Sys2Proof.Machine.execSignalRise lane s
  | .signalFall lane => Sys2Proof.Machine.execSignalFall lane s
  | .seedLoaded lane rx => Sys2Proof.Machine.execSeedLoaded lane rx s
  | .anchorMatch lane rx => Sys2Proof.Machine.execAnchorMatch lane rx s
  | .verifyWordEnd lane rx => Sys2Proof.Machine.execVerifyWordEnd lane rx s
  | .wordResult lane rx beside => Sys2Proof.Machine.execWordResult lane rx beside s
  | .writeCompletion => Sys2Proof.Machine.execWriteCompletion s
  | .gateStart r => Sys2Proof.Machine.execGateStart r s
  | .gateStop r => Sys2Proof.Machine.execGateStop r s
  | .gateRead r => Sys2Proof.Machine.execGateRead r s
  | .combine r => Sys2Proof.Machine.execCombine r s
  | .gateTimerExpiry lane => Sys2Proof.Machine.execGateTimerExpiry lane s
  | .filterSet r => Sys2Proof.Machine.execFilterSet r s
  | .filterClear r => Sys2Proof.Machine.execFilterClear r s
  | .filterRead r => Sys2Proof.Machine.execFilterRead r s
  | .filterProbe r => Sys2Proof.Machine.execFilterProbe r s
  | .sweepSet r => Sys2Proof.Machine.execSweepSet r s
  | .sweepStart r => Sys2Proof.Machine.execSweepStart r s
  | .sweepStop r => Sys2Proof.Machine.execSweepStop r s
  | .spotStart r => Sys2Proof.Machine.execSpotStart r s
  | .sweepRead r => Sys2Proof.Machine.execSweepRead r s
  | .settleExpiry midWord => Sys2Proof.Machine.execSettleExpiry midWord s
  | .lockWaitExpiry => Sys2Proof.Machine.execLockWaitExpiry s
  | .captureSet r => Sys2Proof.Machine.execCaptureSet r s
  | .captureRead r => Sys2Proof.Machine.execCaptureRead r s
  | .logRead r => Sys2Proof.Machine.execLogRead r s
  | .logClear r => Sys2Proof.Machine.execLogClear r s
  | .logSet r => Sys2Proof.Machine.execLogSet r s

end Sys2Proof.Machine
end

