-- ==== Sys2Proof/Safety.lean ====
section
/-! DEFINITION. Safety.lean: when a request's command executes, what a reply leaves, and the properties that every step
keeps. The claims are stated in these terms. -/

namespace Sys2Proof.Machine

/-! ### Requests as claims speak of them -/

/-- A request to the part's own node. -/
def own (tag : Byte) (body : List Byte) : Req := { broadcast := false, tag := tag, body := body }

/-- A request to the broadcast address. -/
def toAll (tag : Byte) (body : List Byte) : Req := { broadcast := true, tag := tag, body := body }

/-- The line takes this request now: it is the head of the inbound queue, or the queue is empty and it has just arrived;
no soft reset is due; and fewer than 4 replies wait, or it was broadcast (R161, R169). -/
def ControlLine.Takes (c : ControlLine) (q : Request) : Prop :=
  (c.inbound = [] ∨ c.inbound.head? = some q) ∧ c.resetDue = false ∧
    (q.broadcast = true ∨ c.replies.length < Config.replyCapacity)

/-- The part takes this request, to its own node, now. -/
def State.TakesOwn (s : State) (kind : BitVec 6) (tag : Byte) (body : List Byte) : Prop :=
  s.line.Takes (requestFor kind (own tag body))

/-- The part takes this broadcast request now. -/
def State.TakesAll (s : State) (kind : BitVec 6) (tag : Byte) (body : List Byte) : Prop :=
  s.line.Takes (requestFor kind (toAll tag body))

/-- The state with this reply queued, a frame begun if the line was free (R162, R163). -/
def State.replied (kind : BitVec 6) (tag : Byte) (st : Status) (f : ReplyFields) (s : State) : State :=
  (s.queueReply { kind := kind, tag := tag, answer := { status := st, fields := f } }).pump

/-- The lane exists under the straps. -/
def State.Exists (s : State) (l : Lane) : Prop := l.val < strapLaneCount s.straps

/-- The lanes that exist, in ascending order. -/
def State.existing (s : State) : List Lane := (List.finRange 8).filter fun l => l.val < strapLaneCount s.straps

/-- A lane set a request may name: not empty, and of existing lanes only. -/
def State.MayName (s : State) (b : LaneSet) : Prop := b ≠ 0 ∧ ∀ l : Lane, b.getLsbD l.val = true → s.Exists l

/-- The notice waits in the outbox or is being sent. -/
def ControlLine.Announces (c : ControlLine) (n : Notice) : Prop :=
  n ∈ c.outbox ∨ ∃ k, c.sending = some (.notice k n)

/-! ### What stays the same -/

/-- Straps, uptime, reset cause, pattern store, filter table and command queue are the same. -/
structure SameBase (s t : State) : Prop where
  straps : t.straps = s.straps
  uptime : t.uptime = s.uptime
  cause : t.cause = s.cause
  store : t.store = s.store
  filters : t.filters = s.filters
  pending : t.pending = s.pending

/-- The lane is the same, but that its gate may have counted captures missed: the arbiter may discard its waiting
candidate at a full log (R150). -/
def LaneState.SameButMissed (x y : LaneState) : Prop :=
  ∃ n, y = { x with gate := { x.gate with counters := { x.gate.counters with missed := n } } }

/-- Power, rate, loopback, SD level, generator and checker configuration of a lane are the same. -/
def LaneState.SameSettings (x y : LaneState) : Prop :=
  y.power = x.power ∧ y.rate = x.rate ∧ y.loopback = x.loopback ∧ y.sd = x.sd ∧ y.gen = x.gen ∧
    y.chk.config = x.chk.config

/-- Outside the lanes of `p`, lanes keep everything but captures missed, and history flags other than CAPTURE_MISSED stay
as they are. -/
def State.OtherLanesKept (s t : State) (p : Lane → Prop) : Prop :=
  ∀ k, ¬p k → (s.lane k).SameButMissed (t.lane k) ∧
    ∀ f : HistoryFlag, f ≠ .captureMissed → t.flagSet k f = s.flagSet k f

/-! ### Reset values (R15, R32, R56, R75, R86, R108, R144, R158, R168) -/

/-- A lane at its reset values (R32, R56, R75, R108; the kept pattern id's is the model's choice, log 39). -/
def LaneState.AtReset (x : LaneState) : Prop :=
  x.power = .off ∧ x.rate = 0 ∧ x.loopback = false ∧ x.path = [] ∧
  x.gen = { run := none, pattern := 7, polarity := .normal, shaping := .preset 0, triple := ⟨0, 63, 0⟩, mode := .none,
            flight := .idle, inserted := 0 } ∧
  x.chk.phase = .off ∧
  x.chk.config = { pattern := 7, polarity := .normal, autoInvert := false, v := 256, a := 2, w := 8192, t := 1024,
                   g := 32, interval := 1000 } ∧
  x.acct = { tracker := .closed, mark := false } ∧
  x.gate = { state := .idle, settings := none, startPattern := none, counters := .zero, counts := .zero,
             startStamp := none, endStamp := none, result := none }

/-- The margin unit at its reset values (R129, R144). -/
def Margin.AtReset (m : Margin) : Prop :=
  m.state = .idle ∧ m.sampler = none ∧
  m.plan = { lanes := 1, axis := .phase, eye := .middle, start := -32, step := 2, count := 32, dwell := 1048576,
             limit := 0, mode := .limit, lockWait := 100, continuous := false } ∧
  m.passCounter = 0 ∧ m.spot = none ∧
  ∀ l : Lane, m.summaries[l] = none ∧ m.tables[l].count = 64 ∧
    ∀ i : Fin 64, m.tables[l].entries[i] =
      { offset := (i.val : Int) - 32, bits := 0, errors := 0, verdict := .pending, pass := 0 }

/-- The capture log at its reset values (R158). -/
def CaptureLog.AtReset (c : CaptureLog) : Prop :=
  c.records = [] ∧ c.nextSequence = 0 ∧ c.fullMark = false ∧ c.arb = .rotate ∧ c.full = .stop ∧ c.watermark = 256 ∧
  c.port = .free ∧ c.lastGranted = 7 ∧
  ∀ l : Lane, c.lanes[l] = { mode := .off, quota := 64, quotaCount := 0, slot := none }

/-- The control line at its reset values (R168, R169). -/
def ControlLine.AtReset (c : ControlLine) : Prop :=
  c.received = [] ∧ c.inbound = [] ∧ c.replies = [] ∧ c.sending = none ∧ c.outbox = [] ∧ c.noticeCount = 0 ∧
  c.enabled = 0x3F ∧ c.resetDue = false

/-- What every reset brings about, from `s` to `t`: everything but the straps, the reset cause, the history and the
pattern store stands at its reset values; the SD pins and the command queue stay. -/
def State.ResetFrom (s t : State) : Prop :=
  t.uptime = 0 ∧ (∀ l, (t.lane l).AtReset ∧ (t.lane l).sd = (s.lane l).sd) ∧ (∀ k : Fin 16, t.filters[k] = none) ∧
  t.margin.AtReset ∧ t.log.AtReset ∧ t.line.AtReset ∧ t.pending = s.pending

/-! ### Pattern store (R5 to R7) -/

/-- A region's length and extent are in range (R5). -/
def Region.InRange (r : Region) : Prop := 128 ≤ r.length ∧ r.length ≤ 262144 ∧ r.last ≤ 4095

/-- The memory is canonical, regions are in range and apart, and every configured pattern id names a pattern
(R5, R6, R7). -/
def State.StoreInv (s : State) : Prop :=
  Memory.wf s.store.memory ∧
  (∀ id r, s.store.region id = some r → r.InRange) ∧
  (∀ i j a b, i ≠ j → s.store.region i = some a → s.store.region j = some b → a.meets b = false) ∧
  ∀ l, s.store.checkPattern (s.lane l).gen.pattern = none ∧ s.store.checkPattern (s.lane l).chk.config.pattern = none

/-! ### Control line (R161 to R164) -/

/-- The queues hold at most 4; at most one notice per kind and lane waits, each of an enabled kind; nothing waits at a
free line unless a soft reset is due; and the frame being sent is a segment of the oldest reply. -/
def ControlLine.Inv (c : ControlLine) : Prop :=
  c.inbound.length ≤ Config.inboundCapacity ∧ c.replies.length ≤ Config.replyCapacity ∧ c.noticeCount < 256 ∧
  c.outbox.Pairwise (fun m n => m.sameKey n = false) ∧
  (∀ n ∈ c.outbox, n.enabledIn c.enabled = true) ∧
  (c.sending = none → c.replies = [] ∧ (c.outbox = [] ∨ c.resetDue = true)) ∧
  ∀ i, c.sending = some (.reply i) → ∃ r rest, c.replies = r :: rest ∧ i < r.segments

/-! ### Capture log (R147, R148, R150, R151) -/

/-- Consecutive sequence numbers, modulo 2^32, that end just before `next` (R151). -/
def CaptureLog.Numbered (records : List Record) (next : Nat) : Prop :=
  ∀ i (h : i < records.length), (records[i].sequence + (records.length - i)) % 2 ^ 32 = next ∧ records[i].sequence < 2 ^ 32

/-- At most 512 records, consecutively numbered; the full mark only at 512; a slot's candidate is of its lane; every slot
is empty while the port is FREE; the lane being written has a full slot; a write granted under STOP finds room. -/
def CaptureLog.Inv (c : CaptureLog) : Prop :=
  c.records.length ≤ Config.logCapacity ∧ c.nextSequence < 2 ^ 32 ∧ CaptureLog.Numbered c.records c.nextSequence ∧
  (c.fullMark = true → c.records.length = Config.logCapacity) ∧
  1 ≤ c.watermark ∧ c.watermark ≤ Config.logCapacity ∧
  (∀ l : Lane, c.lanes[l].quotaCount ≤ 65535 ∧ ∀ cand, c.lanes[l].slot = some cand → cand.lane = l) ∧
  (c.port = .free → ∀ l : Lane, c.lanes[l].slot = none) ∧
  ∀ l p, c.port = .writing l p →
    c.lanes[l].slot.isSome = true ∧ (p = .stop → c.records.length < Config.logCapacity)

/-! ### Lanes (R16, R18, R31, R34, R35, R87, R88) -/

/-- A triple as a preset or R25 leaves it: each weight in its range, the magnitudes' sum at most 63. -/
def Triple.InRange (t : Triple) : Prop :=
  -15 ≤ t.pre ∧ t.pre ≤ 0 ∧ 16 ≤ t.main ∧ t.main ≤ 63 ∧ -15 ≤ t.post ∧ t.post ≤ 0 ∧ t.main - t.pre - t.post ≤ 63

/-- The amplitude, in 189ths of full swing, lies within full swing (R24). -/
def WithinFullSwing (a : Int) : Prop := -189 ≤ a ∧ a ≤ 189

/-- The generator's triple and that of the word in production are in range, and every amplitude settled for the transmit
lane lies within full swing (R24, R25). -/
def Generator.ShapingInv (g : Generator) : Prop :=
  g.triple.InRange ∧ ∀ run, g.run = some run →
    (∀ p, run.word = some p → p.triple.InRange) ∧ ∀ a ∈ run.sent, WithinFullSwing a

/-- Generator, checker and gate of a lane agree: the generator runs exactly with transmit power; the checker is OFF
exactly without receive power; it is in NO_SIGNAL only without a signal and takes bits only with one; the loopback path
holds bits only for it; an ARMED or PAUSED gate has an unlocked checker, an active gate a checker that is not OFF; a burst
is open only in a RUNNING gate with a LOCKED checker; stamps and record are present as the gate's state says; and the
shaping is in range and keeps every transmitted amplitude within full swing. That the path is empty otherwise (log 10), that
an active gate has no end stamp (log 37) and the free value before the first symbol after silence (log 40) are the model's
choices. -/
def LaneState.Inv (x : LaneState) : Prop :=
  x.gen.ShapingInv ∧
  x.gen.run.isSome = x.power.tx ∧
  (x.chkState = .off ↔ x.power.rx = false) ∧
  (x.chkState = .noSignal → x.signal = false) ∧
  (x.chkState.listening = true → x.signal = true) ∧
  (x.path ≠ [] → x.loopback = true ∧ x.chkState.listening = true) ∧
  (x.gate.state = .armed ∨ x.gate.state = .paused → x.chkState ≠ .locked) ∧
  (x.gate.state.active = true → x.chkState ≠ .off) ∧
  (x.acct.tracker ≠ .closed → x.gate.state = .running ∧ x.chkState = .locked) ∧
  (x.acct.mark = true → x.gate.state.active = true) ∧
  (x.gate.state ≠ .idle → x.gate.settings.isSome = true ∧ x.gate.startStamp.isSome = true) ∧
  (x.gate.state = .done ↔ x.gate.endStamp.isSome = true) ∧
  (x.gate.state = .done → x.gate.result.isSome = true)

/-! ### Counters (R51, R60 to R67, R77) -/

/-- The bursts that are open. -/
def Tracker.openCount : Tracker → Nat
  | .closed => 0
  | .opened _ _ => 1

/-- A burst opens at the bit of index `i` of a word that begins with this tracker: the bit is in error, and either no burst
was open and no earlier bit is in error, or more than `g` error-free bits, those of the open burst's run included, separate
it from the errored bit before (R64, R65). -/
def Tracker.OpensAt (g : Nat) (tr : Tracker) (err : Nat → Bool) (i : Nat) : Prop :=
  err i = true ∧
  ((tr = .closed ∧ ∀ k, k < i → err k = false) ∨
   (∃ j, j + g < i ∧ ∀ k, j ≤ k → k < i → err k = false) ∨
   (∃ n run, tr = .opened n run ∧ 0 < i ∧ g < run + i ∧ ∀ k, k < i → err k = false))

/-- The bin takes a burst of k errored bits: bin 0 one of 1, bin b up to 10 one of 2^(b-1) + 1 to 2^b, and bin 11 one of
more than 1024 (R66). -/
def binTakes (b : Fin 12) (k : Nat) : Bool :=
  if b = 11 then decide (1024 < k) else decide (k ≤ 2 ^ b.val ∧ (b = 0 ∨ 2 ^ (b.val - 1) < k))

/-- Filter k of a table matches the bit of index i of lane l's word, if it is in error: the lane, the bit's direction by its
expected value, and outside the mask the expected bits that end at it (R50, R77). -/
def FilterMatches (table : Vector (Option Filter) 16) (l : Lane) (last : BitVec 15) (exp : Word) (i : Nat) (k : Fin 16) :
    Prop :=
  ∃ f, table[k] = some f ∧ f.lanes.getLsbD l.val = true ∧
    f.directions.getLsbD (if exp.getMsbD i then 0 else 1) = true ∧
    ∀ b, b < 16 → f.mask.getLsbD b = false → f.value.getLsbD b = (last ++ exp).getMsbD (i + (15 - b))

/-- The level that symbol j of a word in the pattern sense has on a PAM4 lane: its pair, complemented under inverted
polarity, mapped 00, 01, 11, 10 to 0, 1, 2, 3 (R14, R51). -/
def laneLevel (pol : Polarity) (w : Word) (j : Nat) : Nat :=
  match w.getMsbD (2 * j) ^^ decide (pol = .inverted), w.getMsbD (2 * j + 1) ^^ decide (pol = .inverted) with
  | false, false => 0
  | false, true => 1
  | true, true => 2
  | true, false => 3

/-- The symbols of a word whose received level stands at distance d from the expected one (R51). -/
def symbolsAt (pol : Polarity) (exp rcv : Word) (d : Nat) : Nat :=
  ((List.range 16).filter fun j => ((laneLevel pol exp j : Int) - laneLevel pol rcv j).natAbs == d).length

/-- The tracker after one compared bit: an errored one opens a burst or joins the open one, whose count holds at 1025; an
error-free one lengthens the run, or closes the burst where the run is `g` already (R57, R64, R65). -/
def Tracker.Follows (g : Nat) (err : Bool) (before after : Tracker) : Prop :=
  (before = .closed → after = if err then .opened 1 0 else .closed) ∧
  ∀ k run, before = .opened k run →
    (err = true → after = .opened (min 1025 (k + 1)) 0) ∧
    (err = false → run < g → after = .opened k (run + 1)) ∧
    (err = false → g ≤ run → after = .closed)

/-- The laws of the counters with `o` bursts open: bits compared in whole words and never fewer than the errors; the
directions, and the filter classes, sum to the errors; the bins sum to the bursts but the open one. -/
def Counters.Laws (c : Counters) (o : Nat) : Prop :=
  c.bits % 32 = 0 ∧ c.errors ≤ c.bits ∧
  c.errors = c.onesToZero + c.zerosToOne ∧
  c.errors = c.filters.sum + c.unmatched + c.overlap ∧
  c.bursts = c.bins.sum + o ∧ c.bursts ≤ c.errors

/-- The symbol laws of a lane's modulation (R62). -/
def Counters.SymbolLaws (c : Counters) (pam4 : Bool) : Prop :=
  if pam4 then c.symbols = c.d1 + c.d2 + c.d3 ∧ c.errors = c.d1 + 2 * c.d2 + c.d3
  else c.symbols = c.errors ∧ c.d1 = 0 ∧ c.d2 = 0 ∧ c.d3 = 0

/-- A lane's counters obey their laws: the symbol laws while the gate is active, since the rate is fixed then; and so do
those of its result record, with no burst open. -/
def LaneState.CounterInv (x : LaneState) : Prop :=
  x.gate.counters.Laws x.acct.tracker.openCount ∧
  (x.gate.state.active = true → x.gate.counters.SymbolLaws x.pam4) ∧
  ∀ r, x.gate.result = some r → r.counters.Laws 0

/-! ### Lanes that do not exist (R159) -/

/-- Every lane beyond the lane count stands at its reset values, but for the level of its SD pin. -/
def State.AbsentInv (s : State) : Prop :=
  ∀ l : Lane, ¬s.Exists l →
    s.lane l = .initial (s.lane l).sd ∧ s.history[l] = 0 ∧ s.log.lanes[l] = CaptureLog.initial.lanes[l]

/-! ### Margin unit (R122, R126, R129, R130, R136) -/

/-- A plan as R130 leaves it: every field in its range and every point at an offset from -32 to 31. -/
def Plan.InRange (p : Plan) : Prop :=
  p.lanes ≠ 0 ∧ -32 ≤ p.start ∧ 1 ≤ p.step ∧ p.step ≤ 16 ∧ 1 ≤ p.count ∧ p.count ≤ 64 ∧
  p.start + ((p.count - 1 : Nat) : Int) * (p.step : Int) ≤ 31 ∧
  64 ≤ p.dwell ∧ p.dwell < 2 ^ 32 ∧ p.dwell % 32 = 0 ∧ p.lockWait ≤ 1000

/-- A point in progress: its offset in range, whole words counted, and its dwell not yet reached. -/
def Point.InRange (p : Point) : Prop :=
  -32 ≤ p.settings.offset ∧ p.settings.offset ≤ 31 ∧ p.settings.lockWait ≤ 1000 ∧
  p.settings.dwell % 32 = 0 ∧ p.settings.dwell < 2 ^ 32 ∧
  p.bits % 32 = 0 ∧ p.bits < p.settings.dwell ∧ p.errors ≤ p.bits

/-- A sweep in force stands on a point of its own plan. -/
def Sweep.InRange (sw : Sweep) : Prop :=
  sw.plan.InRange ∧ sw.lane ∈ lanesOf sw.plan.lanes ∧ sw.index < sw.plan.count

/-- What a margin state holds is in range, and the point of a sweep is the plan's. -/
def MarginState.InRange : MarginState → Prop
  | .idle => True
  | .spot p => p.InRange
  | .sweep p sw => p.InRange ∧ sw.InRange ∧ p.settings = sw.plan.pointOn sw.lane sw.index
  | .forcedSpot p sw => p.InRange ∧ sw.InRange
  | .spotThenSweep p w => p.InRange ∧ w.InRange

/-- The sampler stands at the point in progress and at home without one; the state and the plan are in range. -/
def Margin.Inv (m : Margin) : Prop :=
  m.sampler = m.state.point.map (fun p => p.settings.place) ∧ m.state.InRange ∧ m.plan.InRange ∧
  ∀ l : Lane, 1 ≤ m.tables[l].count ∧ m.tables[l].count ≤ 64

/-! ### How claims speak of hunts (R37, R38) -/

/-- The window after these further bits of the lane, in the pattern sense. -/
def windowAfter (pol : Polarity) (w : BitVec 64) (bits : List Bool) : BitVec 64 :=
  bits.foldl (fun w b => pushBit w (pol.bit b)) w

/-- A user-pattern window that holds `c` bits is tested and matches: the anchor, or under auto-invert (`anti`) its
complement; on PAM4 only at the end of a symbol (R13, R38). -/
def State.AnchorAt (s : State) (l : Lane) (r : Region) (anti : Bool) (w : BitVec 64) (c : Nat) : Prop :=
  64 ≤ c ∧ ((s.lane l).pam4 = true → c % 2 = 0) ∧ (anti = true → (s.lane l).chk.config.autoInvert = true) ∧
  ∀ k, k < 64 → w.getMsbD k = ((readByte s.store.memory (8 * r.base + k / 8)).getMsbD (k % 8) ^^ anti)

/-! ### How claims speak of a gate's end, a lock loss and a candidate (R96, R100, R103, R146, R147) -/

/-- Lane `l`'s gate has ended for this reason at uptime `now`: DONE, stamped, with its record of the final counters, and a
GATE notice queued if its kind is enabled (R103, R104). -/
def State.GateEnded (t : State) (l : Lane) (reason : EndReason) (now : Nat) : Prop :=
  (t.lane l).gate.state = .done ∧ (t.lane l).gate.endStamp = some now ∧
  (t.line.enabled.getLsbD 1 = true → t.line.Announces (.gate l reason)) ∧
  ∃ r, (t.lane l).gate.result = some r ∧ r.lane = l ∧ r.reason = reason ∧ r.endStamp = now ∧
    r.counters = (t.lane l).gate.counters ∧ r.counts = (t.lane l).gate.counts

/-- What a lock loss leaves of a RUNNING gate that had the counts `c`: one loss more, and the gate goes on, pauses or ends
by the policy; at the maximum it ends SATURATED instead (R96, R100). -/
def State.LossTaken (t : State) (l : Lane) (c : GateCounts) (policy : LockPolicy) (now : Nat) : Prop :=
  (c.lockLosses ≠ 2 ^ 32 - 1 →
    (t.lane l).gate.counts = { c with lockLosses := c.lockLosses + 1 } ∧
    (policy = .keep → (t.lane l).gate.state = .running) ∧
    (policy = .pause → (t.lane l).gate.state = .paused) ∧
    (policy = .abort → t.GateEnded l .lockLost now)) ∧
  (c.lockLosses = 2 ^ 32 - 1 →
    (t.lane l).gate.counts = c ∧ t.flagSet l .saturated = true ∧ t.GateEnded l .saturated now)

/-- The lane's capture settings let a lock candidate arise (R146). -/
def CaptureLane.RaisesLock (c : CaptureLane) : Prop := c.mode ≠ .off ∧ (c.quota = 0 ∨ c.quotaCount < c.quota)

/-- No grant is open to the arbiter: the port is WRITING, or every slot is empty (R148). -/
def CaptureLog.Settled (c : CaptureLog) : Prop := c.port ≠ .free ∨ ∀ l : Lane, c.lanes[l].slot = none

/-- A candidate offered to lane `l`'s slot is lost: dropped at a full slot, or granted and discarded at a full log under
STOP (R147, R150). -/
def CaptureLog.LosesCandidate (c : CaptureLog) (l : Lane) : Prop :=
  (c.lanes[l].slot.isSome = true ∧ c.port ≠ .free) ∨
  ((∀ k : Lane, c.lanes[k].slot = none) ∧ c.port = .free ∧ c.full = .stop ∧ 512 ≤ c.records.length)

/-- A discard at a full log of `count` records, the newest numbered `newest`: a full mark found clear queues the LOG notice
FULL, if its kind is enabled; while the mark stands none is queued (R150, R153). -/
def State.FullAnnounced (s t : State) (count newest : Nat) : Prop :=
  (s.log.fullMark = false → s.line.enabled.getLsbD 5 = true → t.line.Announces (.log .full count newest)) ∧
  (s.log.fullMark = true → ∀ n q, t.line.Announces (.log .full n q) → s.line.Announces (.log .full n q))

/-- From `s` to `t` the candidate is offered to lane `l`'s slot, and nothing else of the log changes. An empty slot takes
it; at a FREE port the arbiter then grants it, or discards it at a full log under STOP, which sets the full
mark and queues the LOG notice FULL if it was clear; a full slot drops it. A drop and a
discard set CAPTURE_MISSED (R73, R147 to R150). -/
def State.Offered (s t : State) (l : Lane) (cand : Candidate) : Prop :=
  (s.log.lanes[l].slot = none → s.log.port ≠ .free →
    t.log = { s.log with lanes := s.log.lanes.set l { s.log.lanes[l] with slot := some cand } }) ∧
  ((∀ k : Lane, s.log.lanes[k].slot = none) → s.log.port = .free →
    s.log.full = .ring ∨ s.log.records.length < 512 →
    t.log = { s.log with
      lanes := s.log.lanes.set l { s.log.lanes[l] with slot := some cand }
      lastGranted := l, port := .writing l s.log.full }) ∧
  ((∀ k : Lane, s.log.lanes[k].slot = none) → s.log.port = .free →
    s.log.full = .stop → 512 ≤ s.log.records.length →
    t.log = { s.log with lastGranted := l, fullMark := true } ∧ t.flagSet l .captureMissed = true ∧
    ∀ r, s.log.records.getLast? = some r → s.FullAnnounced t s.log.records.length r.sequence) ∧
  (∀ old, s.log.lanes[l].slot = some old → s.log.port ≠ .free →
    t.log = s.log ∧ t.flagSet l .captureMissed = true)

/-- The log once the write of lane `l`'s candidate, granted under this full policy, has completed: the record at the newest
end, under RING in place of the oldest of 512, with the next sequence number; the slot empty, the quota count up, the port
FREE (R148, R150, R151). -/
def CaptureLog.afterWrite (c : CaptureLog) (l : Lane) (policy : FullPolicy) (cand : Candidate) : CaptureLog :=
  { c with
    records := (if policy = .ring ∧ 512 ≤ c.records.length then c.records.drop 1 else c.records) ++
      [{ sequence := c.nextSequence, candidate := cand }]
    nextSequence := (c.nextSequence + 1) % 2 ^ 32
    lanes := c.lanes.set l { c.lanes[l] with quotaCount := min 65535 (c.lanes[l].quotaCount + 1), slot := none }
    port := .free }

/-- A lock candidate of lane `l` with the gate's elapsed ms and bits compared as they stand (R146). -/
def State.lockCandidateNow (s : State) (l : Lane) (body : CandidateBody) : Candidate :=
  { lane := l, elapsed := (s.lane l).gate.counts.elapsed, bits := (s.lane l).gate.counters.bits, body := body }

/-! ### How claims speak of sweeps and grants (R130 to R133, R149) -/

/-- The margin unit after the checkers of a set's lanes that changed state from `s` to `t` have met it, in ascending lane
order (R142, log 25). -/
def State.marginAfter (s t : State) (b : LaneSet) : Margin :=
  (((lanesOf b).filter fun l => (t.lane l).chkState != (s.lane l).chkState).foldl
    (fun u l => u.marginTransition l (s.lane l).chkState (t.lane l).chkState) s).margin

/-- The lowest lane of a set. -/
def LowestOf (b : LaneSet) (l : Lane) : Prop := b.getLsbD l.val = true ∧ ∀ k : Lane, b.getLsbD k.val = true → l.val ≤ k.val

/-- A sweep under plan `p` has just begun point `i` of lane `l`: SETTLE, nothing counted, the sampler at the point's
place (R124, R130). -/
def Margin.StandsAt (m : Margin) (p : Plan) (l : Lane) (i pass : Nat) : Prop :=
  m.state = .sweep
    { settings :=
        { lane := l, axis := p.axis, eye := p.eye, offset := p.start + (i : Int) * (p.step : Int), dwell := p.dwell
          limit := p.limit, mode := p.mode, lockWait := p.lockWait }
      phase := .settle false, bits := 0, errors := 0 }
    { plan := p, lane := l, index := i, pass := pass } ∧
  m.sampler = some { lane := l, axis := p.axis, eye := p.eye, offset := p.start + (i : Int) * (p.step : Int) }

/-- A table rebuilt for a plan and pass (R132). -/
def PointTable.RebuiltFor (t : PointTable) (p : Plan) (pass : Nat) : Prop :=
  t.count = p.count ∧ ∀ i : Fin 64,
    t.entries[i].verdict = .pending ∧ t.entries[i].bits = 0 ∧ t.entries[i].errors = 0 ∧ t.entries[i].pass = pass ∧
    (i.val < p.count → t.entries[i].offset = p.start + (i.val : Int) * (p.step : Int))

/-- The summary of a finished lane: the pass map, and the longest run of PASS, the earliest of equals, with its opening and
centre (R133). -/
def EyeSummary.Describes (es : EyeSummary) (t : PointTable) (step pass : Nat) : Prop :=
  es.pass = pass ∧ es.map = (t.entries.toList.take t.count).map (fun e => e.verdict == .pass) ∧
  ∃ first len : Nat, (∀ i, i < len → es.map[first + i]? = some true) ∧
    (∀ a n, (∀ i, i < n → es.map[a + i]? = some true) → n ≤ len ∧ (n = len → 0 < n → first ≤ a)) ∧
    es.opening = len * step ∧
    es.centre = if len = 0 then none
      else (t.entries.toList[first]?).map fun e => e.offset + (((len - 1) * step / 2 : Nat) : Int)

/-- The lane that the arbitration policy in force picks among the full slots (R149). -/
def CaptureLog.Picks (c : CaptureLog) (k : Lane) : Prop :=
  c.lanes[k].slot.isSome = true ∧
  (c.arb = .fixed → ∀ j : Lane, c.lanes[j].slot.isSome = true → k.val ≤ j.val) ∧
  (c.arb = .stay → c.lanes[c.lastGranted].slot.isSome = true → k = c.lastGranted) ∧
  (c.arb = .rotate ∨ (c.arb = .stay ∧ c.lanes[c.lastGranted].slot = none) →
    ∀ j : Lane, c.lanes[j].slot.isSome = true → (k - c.lastGranted - 1).val ≤ (j - c.lastGranted - 1).val)

end Sys2Proof.Machine
end

