-- ==== Sys2Proof/Certificates/Slice0/Obligations.lean ====
section
/-! DEFINITION. Obligations.lean: the statements about the D880 model. -/

open Sys2Proof Sys2Proof.Machine

/-! ### The machine and its resets -/

/-- A step runs the command at the front of the queue on the state with the queue's rest, and idles on an empty queue
(log 3). -/
def Obligations.StepRunsFrontCommand : Prop :=
  (∀ (s : State) (i : Instr) (rest : List Instr), s.pending = i :: rest → step s = exec i (s.withPending rest)) ∧
  ∀ s : State, s.pending = [] → step s = .next s

/-- The three resets take every block to its reset values from every state. POWER_ON_RESET and LINE_RESET clear the history
and take the straps, whose BAUD code sets the line's rate (R159); power-on clears the memory, a line reset keeps it; both
leave every region undefined (R15, R168). SOFT_RESET acts when an accepted RESET has no reply left to wait for and no frame
is being sent: pattern memory, region table, history and straps are kept (R169). That a SOFT_RESET before that changes
nothing is the model's reading (DEDUCED, log 8), not the spec's words; that a gate's kept pattern id is then absent is its
choice (DESIGN CHOICE, log 39). -/
def Obligations.ResetsReachResetValues : Prop :=
  ∀ s : State,
    (∀ st : Straps,
      (∃ t, exec (.powerOnReset st) s = .next t ∧ s.ResetFrom t ∧ t.straps = st ∧ t.cause = .powerOn ∧
        (∀ l : Lane, t.history[l] = 0) ∧ (∀ a, readByte t.store.memory a = 0) ∧ (∀ id, t.store.region id = none) ∧
        (st.baud = 0 → t.lineRate = 115200) ∧ (st.baud = 1 → t.lineRate = 460800) ∧
        (st.baud = 2 → t.lineRate = 921600) ∧ (st.baud = 3 → t.lineRate = 3000000)) ∧
      ∃ t, exec (.lineReset st) s = .next t ∧ s.ResetFrom t ∧ t.straps = st ∧ t.cause = .line ∧
        (∀ l : Lane, t.history[l] = 0) ∧ t.store.memory = s.store.memory ∧ ∀ id, t.store.region id = none) ∧
    (s.line.resetDue = true ∧ s.line.sending = none ∧ s.line.replies = [] →
      ∃ t, exec .softReset s = .next t ∧ s.ResetFrom t ∧ t.straps = s.straps ∧ t.cause = .soft ∧
        t.history = s.history ∧ t.store = s.store) ∧
    (¬(s.line.resetDue = true ∧ s.line.sending = none ∧ s.line.replies = []) → exec .softReset s = .next s)

/-- The state after reset has every property that the statements below show every step to keep. -/
def Obligations.ResetStateMeetsInvariants : Prop :=
  State.reset.StoreInv ∧ State.reset.line.Inv ∧ State.reset.log.Inv ∧ State.reset.margin.Inv ∧ State.reset.AbsentInv ∧
  ∀ l, (State.reset.lane l).Inv ∧ (State.reset.lane l).CounterInv

/-! ### The control line -/

/-- A whole request frame to the part's node or to all, received while no partial frame is held, joins the inbound queue
with its kind, tag and body, and is lost when the queue holds 4 (R160, R161). It arrives as characters whose 8 data bits,
least significant first, are the frame's bytes, whatever their stop bits (R159; that the command brings characters is the
model's form, log 34). -/
def Obligations.RequestFrameJoinsQueue : Prop :=
  (∀ (c : Character) (i : Nat), i < 8 → (characterByte c).getLsbD i = c.getLsbD (i + 1)) ∧
  ∀ (s : State) (bcast : Bool) (kind : BitVec 6) (tag : Byte) (body : List Byte) (chars : List Character),
    s.line.received = [] → body.length ≤ 240 →
    chars.map characterByte = frameBytes (if bcast then 0x0F else s.straps.node.setWidth 8) .request kind tag body →
    exec (.frameReceived chars) s
      = .next { s with line := { s.line with
          inbound := if s.line.inbound.length < 4
            then s.line.inbound ++ [{ broadcast := bcast, kind := kind, tag := tag, body := body }]
            else s.line.inbound } }

/-- Frames that do not stand change nothing, whether the queue is full or not: a good frame to another node, and a frame
with a wrong CRC or another class that holds no second sync byte (R160; received as characters, log 34). -/
def Obligations.DiscardedFramesChangeNothing : Prop :=
  ∀ (s : State) (chars : List Character), s.line.received = [] →
    (∀ (node : Byte) (kind : BitVec 6) (tag : Byte) (body : List Byte),
      node ≠ 0x0F → node.toNat ≠ s.straps.node.toNat → body.length ≤ 240 →
      chars.map characterByte = frameBytes node .request kind tag body →
      exec (.frameReceived chars) s = .next s) ∧
    ∀ (payload crc : List Byte), 3 ≤ payload.length → payload.length ≤ 243 → crc.length = 2 →
      frameStands payload crc = false →
      (0xC3 : Byte) ∉ BitVec.ofNat 8 payload.length :: (payload ++ crc) →
      chars.map characterByte = 0xC3 :: BitVec.ofNat 8 payload.length :: (payload ++ crc) →
      exec (.frameReceived chars) s = .next s

/-- It makes no difference where the stream of received characters is cut, as long as no gap falls between the pieces
(R160; characters as operands, log 34). -/
def Obligations.ReceptionInPieces : Prop :=
  ∀ (s t : State) (a b : List Character), exec (.frameReceived a) s = .next t →
    exec (.frameReceived b) t = exec (.frameReceived (a ++ b)) s

/-- An inter-byte gap drops the partial frame and nothing else (R160); an uptime tick adds 1 to the 48-bit uptime, which
returns to 0 after its maximum, and changes nothing else (R107). -/
def Obligations.GapAndUptimeTick : Prop :=
  (∀ s : State, exec .interByteGap s = .next { s with line := { s.line with received := [] } }) ∧
  (∀ s : State, s.uptime < 2 ^ 48 - 1 → exec .uptimeTick s = .next { s with uptime := s.uptime + 1 }) ∧
  ∀ s : State, s.uptime = 2 ^ 48 - 1 → exec .uptimeTick s = .next { s with uptime := 0 }

/-- A request of an unknown kind is answered BAD_KIND; broadcast, it leaves the queue with no effect (R161). -/
def Obligations.UnknownKindAnswered : Prop :=
  ∀ (s : State) (code : BitVec 6) (tag : Byte) (body : List Byte), code ∉ knownKinds →
    (s.TakesOwn code tag body →
      exec (.unknownKind code (own tag body)) s = .next (s.popRequest.replied code tag .badKind .none)) ∧
    (s.TakesAll code tag body → exec (.unknownKind code (toAll tag body)) s = .next s.popRequest.pump)

/-- Every request command: a body of the wrong length is answered BAD_LENGTH; a broadcast of a kind other than GATE_START,
GATE_STOP and RESET, or of the wrong length, leaves the queue with no effect and no reply (R161). -/
def Obligations.LengthAndBroadcastChecks : Prop :=
  ∀ (i : Instr) (code : BitVec 6) (tag : Byte) (body : List Byte) (s : State), code ∈ knownKinds →
    (requestOf i = some (code, own tag body) → s.TakesOwn code tag body → bodyLengthOk code body.length = false →
      exec i s = .next (s.popRequest.replied code tag .badLength .none)) ∧
    (requestOf i = some (code, toAll tag body) → s.TakesAll code tag body →
      (code ≠ 0x20 ∧ code ≠ 0x21 ∧ code ≠ 0x03) ∨ bodyLengthOk code body.length = false →
      exec i s = .next s.popRequest.pump)

/-- Every request command whose request may not execute yet - another request is at the head of the queue, a soft reset is
due, or 4 replies wait and it was not broadcast - changes nothing but the inbound queue, which it joins unless it is its
head already or the queue holds 4 (R161, R169; that a request's command also stands for its arrival is the model's
choice, log 1). -/
def Obligations.RequestsWaitTheirTurn : Prop :=
  ∀ (i : Instr) (code : BitVec 6) (r : Req) (s : State), requestOf i = some (code, r) →
    ¬s.line.Takes (requestFor code r) →
    exec i s = .next { s with line := { s.line with
      inbound := if s.line.inbound.head? = some (requestFor code r) ∨ 4 ≤ s.line.inbound.length then s.line.inbound
        else s.line.inbound ++ [requestFor code r] } }

/-- The frame on the line is the oldest reply's segment - the part's node, class REPLY, the request's kind and tag, status,
segment byte, segment - or the notice with class NOTICE, its kind and the notice count, each byte a character (R159, R162,
R163, R170). FRAME_SENT: a reply goes on with its next segment; after its last it leaves the queue; when the line is then
free the oldest reply begins, else the first notice, tagged with the notice count, unless a soft reset is due (R162, R163,
R169). Nothing else changes. That the notice count increases as the notice frame begins, where R163 says after it, is the
model's reading (DEDUCED, log 19). -/
def Obligations.FrameSentSendsNext : Prop :=
  ∀ s : State,
    (∀ i r rest, s.line.sending = some (.reply i) → s.line.replies = r :: rest → ∃ head body : List Byte,
      head = [s.straps.node.setWidth 8, 0b01#2 ++ r.kind, r.tag] ∧
      body = [r.answer.status.code, BitVec.ofNat 8 ((if i + 1 = r.segments then 0x80 else 0) + i % 128)] ++
        (r.content.drop (238 * i)).take 238 ∧
      s.frameOnLine = [0xC3, BitVec.ofNat 8 (3 + body.length)] ++ head ++ body ++ bytes16 (crcOf (head ++ body)) ∧
      (r.answer.fields = .none → r.segments = 1 ∧ r.content = [])) ∧
    (∀ k n, s.line.sending = some (.notice k n) → ∃ head body : List Byte,
      head = [s.straps.node.setWidth 8, 0b10#2 ++ n.kind.code, BitVec.ofNat 8 k] ∧ body.length ≤ 240 ∧
      s.frameOnLine = [0xC3, BitVec.ofNat 8 (3 + body.length)] ++ head ++ body ++ bytes16 (crcOf (head ++ body))) ∧
    (s.line.sending = none → s.frameOnLine = []) ∧
    (s.lineOutput.map characterByte = s.frameOnLine ∧
      ∀ c ∈ s.lineOutput, c.getLsbD 0 = false ∧ c.getLsbD 9 = true) ∧
    (∀ i r rest, s.line.sending = some (.reply i) → s.line.replies = r :: rest → i + 1 < r.segments →
      exec .frameSent s = .next { s with line := { s.line with sending := some (.reply (i + 1)) } }) ∧
    ∀ left : List Reply,
      ((∃ i r, s.line.sending = some (.reply i) ∧ s.line.replies = r :: left ∧ r.segments ≤ i + 1) ∨
        ∃ k n, s.line.sending = some (.notice k n) ∧ s.line.replies = left) →
      (left ≠ [] →
        exec .frameSent s = .next { s with line := { s.line with replies := left, sending := some (.reply 0) } }) ∧
      (left = [] → (s.line.outbox = [] ∨ s.line.resetDue = true) →
        exec .frameSent s = .next { s with line := { s.line with replies := [], sending := none } }) ∧
      ∀ n ob, left = [] → s.line.resetDue = false → s.line.outbox = n :: ob →
        exec .frameSent s = .next { s with line := { s.line with
          replies := [], sending := some (.notice s.line.noticeCount n), outbox := ob,
          noticeCount := (s.line.noticeCount + 1) % 256 } }

/-! ### Identity, status, history -/

/-- The requests that only read: each is answered OK with the values of the moment, and changes nothing but the queues
(R9, R55, R84, R143, R157, R165, R166, R167). -/
def Obligations.ReadingRequestsReport : Prop :=
  ∀ (s : State) (tag : Byte),
    (s.TakesOwn 0x01 tag [] → exec (.identify (own tag [])) s = .next (s.popRequest.replied 0x01 tag .ok
      (.identify 0x2D17 0x0880 0x01 s.straps.node.toNat (if s.straps.eightLanes then 8 else 4) s.straps.baud.toNat 7
        (capabilityChain s.straps)))) ∧
    (s.TakesOwn 0x02 tag [] → exec (.status (own tag [])) s = .next (s.popRequest.replied 0x02 tag .ok
      (.status s.cause s.uptime
        (s.existing.map fun l => { lane := l, power := (s.lane l).power, checker := (s.lane l).chkState,
                                   gate := (s.lane l).gate.state })
        s.margin.state.name s.log.records.length
        (s.existing.foldl (fun set l => set ||| s.history[l]) 0)))) ∧
    (s.TakesOwn 0x05 tag [] → exec (.historyRead (own tag [])) s = .next (s.popRequest.replied 0x05 tag .ok
      (.history (s.existing.map fun l => (l, s.history[l]))))) ∧
    (s.TakesOwn 0x0A tag [] → exec (.regionRead (own tag [])) s = .next (s.popRequest.replied 0x0A tag .ok
      (.regionRead ((List.range' 16 16).map fun id => (id, (s.store.region id).map fun r =>
        { region := r, first := r.base, last := r.base + (r.length + 63) / 64 - 1,
          generators := s.generatorsNaming id, checkers := s.checkersNaming id }))))) ∧
    (s.TakesOwn 0x1A tag [] → exec (.filterRead (own tag [])) s = .next (s.popRequest.replied 0x1A tag .ok
      (.filterRead ((List.finRange 16).map fun k => (k.val, s.filters[k].map fun f =>
        { filter := f, unmatchable := f.unmatchable, inUse := s.holdsActiveGate f.lanes }))))) ∧
    (s.TakesOwn 0x31 tag [] → exec (.captureRead (own tag [])) s = .next (s.popRequest.replied 0x31 tag .ok
      (.captureRead
        { lanes := s.existing.map fun l =>
            { lane := l, mode := s.log.lanes[l].mode, quota := s.log.lanes[l].quota,
              quotaCount := s.log.lanes[l].quotaCount, slot := s.log.lanes[l].slot.map fun c => c.body.cause }
          writing := s.log.port.writingLane, lastGranted := s.log.lastGranted, arb := s.log.arb, full := s.log.full
          watermark := s.log.watermark, count := s.log.records.length
          oldest := s.log.records.head?.map Record.sequence, newest := s.log.records.getLast?.map Record.sequence
          nextSequence := s.log.nextSequence, fullMark := s.log.fullMark }))) ∧
    ∀ l : Lane, s.Exists l →
      (s.TakesOwn 0x17 tag [BitVec.ofNat 8 l.val] → ∃ progress : ChkProgress,
        exec (.chkRead (own tag [BitVec.ofNat 8 l.val])) s = .next (s.popRequest.replied 0x17 tag .ok
          (.chkRead (s.lane l).chkState (s.lane l).signal (s.lane l).chk.config progress)) ∧
        (∀ w c, (s.lane l).chk.phase = .hunt w c → progress = .hunt (min 64 c)) ∧
        (∀ src last c e, (s.lane l).chk.phase = .verify src last c e → progress = .verify c e) ∧
        (∀ src last c e, (s.lane l).chk.phase = .locked src last c e → progress = .locked c e) ∧
        ((s.lane l).chkState = .off ∨ (s.lane l).chkState = .noSignal ∨ (s.lane l).chkState = .held →
          progress = .none)) ∧
      (s.TakesOwn 0x2C tag [BitVec.ofNat 8 l.val] → ∃ f : SweepReadFields,
        exec (.sweepRead (own tag [BitVec.ofNat 8 l.val])) s
          = .next (s.popRequest.replied 0x2C tag .ok (.sweepRead f)) ∧
        f.state = s.margin.state.name ∧ f.sampler = s.margin.sampler ∧ f.passCounter = s.margin.passCounter ∧
        f.entries = s.margin.tables[l].entries.toList.take s.margin.tables[l].count ∧
        f.summary = s.margin.summaries[l] ∧ f.spot = s.margin.spot ∧
        (s.margin.state = .idle → f.point = none ∧ f.position = none ∧ f.plan = none) ∧
        (∀ p, s.margin.state = .spot p → f.position = none ∧ f.plan = none ∧
          f.point = some { ofSpot := true, phase := p.phase.name, bits := p.bits, errors := p.errors }) ∧
        (∀ p sw, s.margin.state = .sweep p sw → f.plan = some sw.plan ∧
          f.position = some { lane := sw.lane, index := sw.index, pass := sw.pass } ∧
          f.point = some { ofSpot := false, phase := p.phase.name, bits := p.bits, errors := p.errors }) ∧
        (∀ p sw, s.margin.state = .forcedSpot p sw → f.plan = some sw.plan ∧
          f.position = some { lane := sw.lane, index := sw.index, pass := sw.pass } ∧
          f.point = some { ofSpot := true, phase := p.phase.name, bits := p.bits, errors := p.errors }) ∧
        ∀ p w, s.margin.state = .spotThenSweep p w → f.position = none ∧ f.plan = some w ∧
          f.point = some { ofSpot := true, phase := p.phase.name, bits := p.bits, errors := p.errors })

/-- RESET is accepted with OK; from its execution on a soft reset is due, and no request executes and, once no reply is
left, no frame begins; broadcast, it has no reply, and a frame being sent goes on (R169). That the reset itself is a later
SOFT_RESET command - also for a broadcast at a free line, where R169 resets at once - is the model's form (DEDUCED, log 8;
DESIGN CHOICE, log 33). -/
def Obligations.ResetRequestAccepted : Prop :=
  ∀ (s : State) (tag : Byte),
    (s.TakesOwn 0x03 tag [] → exec (.reset (own tag [])) s
      = .next (({ s.popRequest with line := { s.popRequest.line with resetDue := true } } : State).replied 0x03 tag .ok
          .none)) ∧
    (s.TakesAll 0x03 tag [] → s.line.sending ≠ none ∨ s.line.replies = [] → exec (.reset (toAll tag [])) s
      = .next { s.popRequest with line := { s.popRequest.line with resetDue := true } }) ∧
    (∀ q, s.line.resetDue = true → ¬s.line.Takes q) ∧
    (s.line.resetDue = true → s.line.sending = none → s.line.replies = [] → s.pump = s)

/-- A notice of a disabled kind is not queued; one of an enabled kind replaces a waiting notice of its kind and lane in
place, and otherwise goes behind every waiting notice. NOTICE_MASK replaces the enabled set, removes the waiting notices of
kinds now disabled, keeps the others in order, and reports how many it removed (R164). A history flag that goes from clear
to set queues an ALARM notice with its lane, the lane's flags as they then stand, and the flag; setting a flag that is set
already changes nothing (R164, R165). -/
def Obligations.NoticesQueueAndMask : Prop :=
  (∀ (c : ControlLine) (n : Notice),
    (c.enabled.getLsbD n.kind.bit = false → c.queueNotice n = c) ∧
    (c.enabled.getLsbD n.kind.bit = true → (∀ m ∈ c.outbox, ¬(m.kind = n.kind ∧ m.lane = n.lane)) →
      c.queueNotice n = { c with outbox := c.outbox ++ [n] }) ∧
    ∀ (before after : List Notice) (old : Notice), c.enabled.getLsbD n.kind.bit = true →
      c.outbox = before ++ old :: after → old.kind = n.kind → old.lane = n.lane →
      (∀ m ∈ before, ¬(m.kind = n.kind ∧ m.lane = n.lane)) →
      c.queueNotice n = { c with outbox := before ++ n :: after }) ∧
  (∀ (s : State) (l : Lane) (f : HistoryFlag),
    (s.flagSet l f = true → s.setFlag l f = s) ∧
    (s.flagSet l f = false → ∃ flags : HistorySet,
      (∀ g : HistoryFlag, flags.getLsbD g.bit = (s.history[l].getLsbD g.bit || decide (g = f))) ∧
      s.setFlag l f
        = { s with history := s.history.set l flags, line := s.line.queueNotice (.alarm l flags f) })) ∧
  ∀ (s : State) (tag set : Byte), s.TakesOwn 0x04 tag [set] →
    ∃ kept : List Notice, kept.Sublist s.line.outbox ∧
      (∀ n, n ∈ kept ↔ n ∈ s.line.outbox ∧ set.getLsbD n.kind.bit = true) ∧
      exec (.noticeMask (own tag [set])) s
        = .next (({ s.popRequest with line := { s.popRequest.line with
              enabled := set.setWidth 6, outbox := kept } } : State).replied 0x04 tag .ok
            (.noticeMask (set.setWidth 6) (s.line.outbox.length - kept.length)))

/-- HISTORY_CLEAR clears the named flags of the named lanes and no other flag, and changes nothing else but the queues; an
absent lane is refused NO_LANE, and then an empty lane or flag set BAD_ARG (R165; that the reply lists the named lanes is
the model's choice, log 31). -/
def Obligations.HistoryClearClearsNamedFlags : Prop :=
  ∀ (s : State) (tag lanes flags : Byte), s.TakesOwn 0x06 tag [lanes, flags] →
    (s.MayName lanes → flags.setWidth 5 ≠ 0#5 →
      ∃ h : Vector HistorySet 8,
        (∀ l : Lane, ∀ f : HistoryFlag, h[l].getLsbD f.bit
          = (s.history[l].getLsbD f.bit && !(lanes.getLsbD l.val && flags.getLsbD f.bit))) ∧
        exec (.historyClear (own tag [lanes, flags])) s
          = .next (({ s.popRequest with history := h } : State).replied 0x06 tag .ok
              (.history ((lanesOf lanes).map fun l => (l, h[l]))))) ∧
    ((∃ l : Lane, lanes.getLsbD l.val = true ∧ ¬s.Exists l) →
      exec (.historyClear (own tag [lanes, flags])) s = .next (s.popRequest.replied 0x06 tag .noLane .none)) ∧
    ((∀ l : Lane, lanes.getLsbD l.val = true → s.Exists l) → (lanes = 0 ∨ flags.setWidth 5 = 0#5) →
      exec (.historyClear (own tag [lanes, flags])) s = .next (s.popRequest.replied 0x06 tag .badArg .none))

/-! ### Pattern store -/

/-- REGION_DEFINE: a region in range that meets no other region, under an id that no configuration names or that is
undefined, is stored and answered with its extent; every other region, and the memory, stay (R7; the statement speaks of
lengths from 128, as R7's check 2 has it, and leaves out the worked examples' 100 bits: DESIGN CHOICE, log 45). REGION_DELETE: a defined
id that no configuration names becomes undefined, and every other region, and the memory, stay (R8). A defined
region that a configuration names is neither redefined nor deleted: REGION_IN_USE (R6). -/
def Obligations.RegionDefineAndDelete : Prop :=
  ∀ (s : State) (tag : Byte) (id : Nat), 16 ≤ id → id < 32 →
    ((∀ l, s.store.region id ≠ none → (s.lane l).gen.pattern ≠ id ∧ (s.lane l).chk.config.pattern ≠ id) →
    (∀ r : Region, s.TakesOwn 0x08 tag (bytesOf 1 id ++ bytesOf 2 r.base ++ bytesOf 4 r.length) →
      128 ≤ r.length → r.length ≤ 262144 → r.base ≤ 4095 → r.base + (r.length + 63) / 64 ≤ 4096 →
      (∀ j other, j ≠ id → s.store.region j = some other →
        other.base + (other.length + 63) / 64 ≤ r.base ∨ r.base + (r.length + 63) / 64 ≤ other.base) →
      (∀ j other, s.store.region j = some other → 128 ≤ other.length) →
      ∃ st : Store, st.memory = s.store.memory ∧ st.region id = some r ∧
        (∀ j, j ≠ id → st.region j = s.store.region j) ∧
        exec (.regionDefine (own tag (bytesOf 1 id ++ bytesOf 2 r.base ++ bytesOf 4 r.length))) s
          = .next (({ s.popRequest with store := st } : State).replied 0x08 tag .ok
              (.regionDefine id r.base r.length r.base (r.base + (r.length + 63) / 64 - 1)))) ∧
    (s.TakesOwn 0x09 tag (bytesOf 1 id) → s.store.region id ≠ none →
      ∃ st : Store, st.memory = s.store.memory ∧ st.region id = none ∧
        (∀ j, j ≠ id → st.region j = s.store.region j) ∧
        exec (.regionDelete (own tag (bytesOf 1 id))) s
          = .next (({ s.popRequest with store := st } : State).replied 0x09 tag .ok (.regionDelete id)))) ∧
    ∀ l : Lane, s.store.region id ≠ none → ((s.lane l).gen.pattern = id ∨ (s.lane l).chk.config.pattern = id) →
      (∀ base len : Nat, 128 ≤ len → len ≤ 262144 → base ≤ 4095 → base + (len + 63) / 64 ≤ 4096 →
        s.TakesOwn 0x08 tag (bytesOf 1 id ++ bytesOf 2 base ++ bytesOf 4 len) →
        exec (.regionDefine (own tag (bytesOf 1 id ++ bytesOf 2 base ++ bytesOf 4 len))) s
          = .next (s.popRequest.replied 0x08 tag .regionInUse .none)) ∧
      (s.TakesOwn 0x09 tag (bytesOf 1 id) →
        exec (.regionDelete (own tag (bytesOf 1 id))) s = .next (s.popRequest.replied 0x09 tag .regionInUse .none))

/-- PATTERN_WRITE into a region that is not in active use stores its bytes at the region's offset and changes no other
byte and nothing else but the queues; the memory stays canonical (R10). -/
def Obligations.PatternWriteStoresBytes : Prop :=
  ∀ (s : State) (tag : Byte) (id off : Nat) (data : List Byte) (r : Region),
    16 ≤ id → id < 32 → off < 65536 → s.store.region id = some r → r.InRange → Memory.wf s.store.memory →
    s.TakesOwn 0x0B tag (bytesOf 1 id ++ bytesOf 2 off ++ data) →
    1 ≤ data.length → data.length ≤ 192 → off + data.length ≤ 8 * ((r.length + 63) / 64) →
    (∀ l, ((s.lane l).gen.run = none ∨ (s.lane l).gen.pattern ≠ id) ∧
      ((s.lane l).chkState = .off ∨ (s.lane l).chkState = .held ∨ (s.lane l).chk.config.pattern ≠ id)) →
    ∃ m, Memory.wf m ∧
      (∀ a, readByte m a =
        if 8 * r.base + off ≤ a ∧ a < 8 * r.base + off + data.length then data.getD (a - (8 * r.base + off)) 0
        else readByte s.store.memory a) ∧
      exec (.patternWrite (own tag (bytesOf 1 id ++ bytesOf 2 off ++ data))) s
        = .next (({ s.popRequest with store := { s.store with memory := m } } : State).replied 0x0B tag .ok
            (.patternWrite id off data.length))

/-- PATTERN_READ returns the bytes from the region's offset on: as many as asked, at least 1 and at most 192, and no
further than the region's extent; a count so changed is answered ADJUSTED. It changes nothing but the queues (R11). -/
def Obligations.PatternReadReturnsBytes : Prop :=
  ∀ (s : State) (tag : Byte) (id off count : Nat) (r : Region),
    16 ≤ id → id < 32 → off < 8 * ((r.length + 63) / 64) → off < 65536 → count < 256 → s.store.region id = some r →
    s.TakesOwn 0x0C tag (bytesOf 1 id ++ bytesOf 2 off ++ bytesOf 1 count) →
    ∃ n, n = min (max 1 (min 192 count)) (8 * ((r.length + 63) / 64) - off) ∧
      exec (.patternRead (own tag (bytesOf 1 id ++ bytesOf 2 off ++ bytesOf 1 count))) s
        = .next (s.popRequest.replied 0x0C tag (if n = count then .ok else .adjusted)
            (.patternRead id off n ((List.range n).map fun k => readByte s.store.memory (8 * r.base + off + k))))

/-- A user pattern plays its region's bits in order and begins again after the last; bit p is bit p mod 8, most
significant first, of byte p div 8 of the extent (R4, R12). In a fixed pattern's word each bit is the exclusive OR, over the
polynomial's taps, of the bits that many places earlier, where the bits before the word are the register's stages;
afterwards the stages hold the last bits sent (R2). -/
def Obligations.PatternPlayback : Prop :=
  (∀ (st : Store) (id : Nat) (r : Region) (p : Nat), st.region id = some r → p < r.length →
    (∀ k, k < 32 → (st.takeWord id (.user p)).1.getMsbD k
      = (readByte st.memory (8 * r.base + (p + k) % r.length / 8)).getMsbD ((p + k) % r.length % 8)) ∧
    (st.takeWord id (.user p)).2 = .user ((p + 32) % r.length)) ∧
  ∀ (st : Store) (id : Nat) (reg : BitVec 32) (bit : Int → Bool), 1 ≤ id → id ≤ 7 → reg &&& prbsOnes id = reg →
    (∀ k : Nat, k < 32 → bit k = (st.takeWord id (.prbs reg)).1.getMsbD k) →
    (∀ i : Nat, 1 ≤ i → i ≤ prbsLength id → bit (-(i : Int)) = reg.getLsbD (i - 1)) →
    (∀ k : Nat, k < 32 → bit k = (prbsTaps id).foldl (fun b t => b ^^ bit ((k : Int) - (t : Int))) false) ∧
    ∃ reg', (st.takeWord id (.prbs reg)).2 = .prbs reg' ∧ reg' &&& prbsOnes id = reg' ∧
      ∀ i : Nat, 1 ≤ i → i ≤ prbsLength id → reg'.getLsbD (i - 1) = bit (32 - (i : Int))

/-! ### Lanes and generators -/

/-- LANE_SET on lanes whose active gates it does not reconfigure: every named lane takes power, rate and loopback. Its
generator starts at the pattern's first bit, stops - a burst in progress ends, and with it its mode NONE unless replaced -
reloads, or is kept; its configuration, pending insertion and RATE counter stay (R18, R19, R29). Its checker leaves OFF,
enters OFF, is reconfigured, or follows the loopback signal (R35, R43, R31), and each such transition queues its LOCK notice
(R53); a fall of the loopback signal sets LOS_SEEN and, from LOCKED, is a lock loss of a RUNNING gate by its policy (R36,
R54, R96). An active gate whose checker loses power ends LANE_OFF (R101); otherwise the gate stays. The exit from LOCKED of a
lane named alone first offers its LOCK_LOST candidate (R146, R147); the margin unit meets the transitions in ascending lane
order (R142; the order is the model's choice, log 25; that a reconfiguration is the one transition where the signal changes
with it is DEDUCED, log 16); the reply lists the lanes as they then stand; other lanes keep all but captures missed. One that
names an absent lane is refused NO_LANE, one that names none BAD_ARG, and one that would change the rate or loopback of a
named lane whose gate is active GATE_BUSY (R17). -/
def Obligations.LaneSetAppliesSettings : Prop :=
  ∀ (s : State) (tag : Byte) (b : LaneSet) (power : LanePower) (rate : Fin 4) (loop : Bool),
    s.TakesOwn 0x10 tag (laneSetBody b power rate loop) →
    ((∃ l : Lane, b.getLsbD l.val = true ∧ ¬s.Exists l) →
      exec (.laneSet (own tag (laneSetBody b power rate loop))) s = .next (s.popRequest.replied 0x10 tag .noLane .none)) ∧
    (b = 0 →
      exec (.laneSet (own tag (laneSetBody b power rate loop))) s = .next (s.popRequest.replied 0x10 tag .badArg .none)) ∧
    (s.MayName b →
      (∃ l : Lane, b.getLsbD l.val = true ∧ (s.lane l).gate.state.active = true ∧
        ((s.lane l).rate ≠ rate ∨ (s.lane l).loopback ≠ loop)) →
      exec (.laneSet (own tag (laneSetBody b power rate loop))) s
        = .next (s.popRequest.replied 0x10 tag .gateBusy .none)) ∧
    (s.MayName b →
      (∀ l : Lane, b.getLsbD l.val = true → (s.lane l).gate.state.active = true →
      (s.lane l).rate = rate ∧ (s.lane l).loopback = loop) →
      (∀ l : Lane, (s.lane l).gen.run.isSome = (s.lane l).power.tx) →
      ∃ t, exec (.laneSet (own tag (laneSetBody b power rate loop))) s = .next t ∧ SameBase s t ∧
        (s.OtherLanesKept t fun l => b.getLsbD l.val = true) ∧
        (∃ rows : List LaneSetRow, t.line.replies = s.line.replies ++
            [{ kind := 0x10, tag := tag, answer := { status := .ok, fields := .laneSet rows } }] ∧
          rows = (lanesOf b).map fun l =>
            { lane := l, power := power, rate := rate, loopback := loop,
              gen := if power.tx then .running else .off, checker := (t.lane l).chkState }) ∧
        ((∀ l : Lane, b.getLsbD l.val = true → ((s.lane l).chkState = .off ↔ (s.lane l).power.rx = false)) →
          t.margin = s.marginAfter t b) ∧
        ∀ l : Lane, b.getLsbD l.val = true →
          (t.lane l).power = power ∧ (t.lane l).rate = rate ∧ (t.lane l).loopback = loop ∧
          (t.lane l).sd = (s.lane l).sd ∧ (t.lane l).chk.config = (s.lane l).chk.config ∧
          (power.tx = false → (s.lane l).power.tx = false → (t.lane l).gen = (s.lane l).gen) ∧
          (power.tx = false → (s.lane l).power.tx = true →
            (t.lane l).gen = { (s.lane l).gen with run := none, flight := .idle, mode := (t.lane l).gen.mode } ∧
            (∀ n, (s.lane l).gen.flight = .own n → (t.lane l).gen.mode = .none) ∧
            ((∀ n, (s.lane l).gen.flight ≠ .own n) → (t.lane l).gen.mode = (s.lane l).gen.mode)) ∧
          (power.tx = true → (s.lane l).power.tx = false →
            (t.lane l).gen = { (s.lane l).gen with
              run := some { source := startSource (s.lane l).gen.pattern, word := none, sent := [] } }) ∧
          (power.tx = true → (s.lane l).power.tx = true → (s.lane l).rate = rate → (s.lane l).loopback = loop →
            (t.lane l).gen = (s.lane l).gen) ∧
          (∀ run, (s.lane l).gen.run = some run → power.tx = true →
            (s.lane l).rate ≠ rate ∨ (s.lane l).loopback ≠ loop →
            (t.lane l).gen = { (s.lane l).gen with
              run := some { run with source := startSource (s.lane l).gen.pattern } }) ∧
          (power.rx = false → (s.lane l).power.rx = true → (t.lane l).chk.phase = .off ∧
            (s.line.enabled.getLsbD 0 = true → t.line.Announces (.lock l .off .powerDown))) ∧
          (power.rx = true → (s.lane l).power.rx = false →
            (t.lane l).chk.phase = (if (t.lane l).signal then .hunt 0 0 else .noSignal) ∧
            (s.line.enabled.getLsbD 0 = true → t.line.Announces (.lock l (t.lane l).chkState .powerUp))) ∧
          (power.rx = (s.lane l).power.rx → ((s.lane l).chkState = .off ∨ (s.lane l).chkState = .held) →
            (t.lane l).chk.phase = (s.lane l).chk.phase) ∧
          (power.rx = (s.lane l).power.rx → (s.lane l).chkState ≠ .off → (s.lane l).chkState ≠ .held →
            (s.lane l).rate ≠ rate ∨ (s.lane l).loopback ≠ loop →
            (t.lane l).chk.phase = (if (t.lane l).signal then .hunt 0 0 else .noSignal) ∧
            ((s.lane l).chkState ≠ .noSignal ∨ (t.lane l).signal = true → s.line.enabled.getLsbD 0 = true →
              t.line.Announces (.lock l (t.lane l).chkState .reconfigured))) ∧
          (power.rx = (s.lane l).power.rx → (s.lane l).rate = rate → (s.lane l).loopback = loop →
            (t.lane l).signal = (s.lane l).signal → (t.lane l).chk.phase = (s.lane l).chk.phase) ∧
          (power.rx = (s.lane l).power.rx → (s.lane l).rate = rate → (s.lane l).loopback = loop →
            (t.lane l).signal ≠ (s.lane l).signal →
            ((t.lane l).signal = true → (s.lane l).chkState = .noSignal → (t.lane l).chk.phase = .hunt 0 0 ∧
              (s.line.enabled.getLsbD 0 = true → t.line.Announces (.lock l .hunt .signalUp))) ∧
            ((t.lane l).signal = false → (s.lane l).chkState.listening = true → (t.lane l).chk.phase = .noSignal ∧
              t.flagSet l .losSeen = true ∧
              (s.line.enabled.getLsbD 0 = true → t.line.Announces (.lock l .noSignal .signal)) ∧
              ((s.lane l).chkState = .locked → (s.lane l).gate.state = .running →
                (∀ cfg, (s.lane l).gate.settings = some cfg →
                  t.LossTaken l (s.lane l).gate.counts cfg.policy s.uptime) ∧
                (b = 1#8 <<< l.val → s.log.lanes[l].RaisesLock →
                  s.Offered t l (s.lockCandidateNow l (.lockLost .noSignal .signal)))))) ∧
          (∀ f : HistoryFlag, f ≠ .losSeen → f ≠ .captureMissed → f ≠ .saturated → t.flagSet l f = s.flagSet l f) ∧
          (power.rx ≠ (s.lane l).power.rx ∨ (s.lane l).rate ≠ rate ∨ (s.lane l).loopback ≠ loop ∨
            (t.lane l).signal = (s.lane l).signal ∨ (t.lane l).signal = true ∨ (s.lane l).chkState.listening = false →
            t.flagSet l .losSeen = s.flagSet l .losSeen) ∧
          (power.rx = true ∨ (s.lane l).power.rx = false →
            (s.lane l).gate.state ≠ .running ∨ (s.lane l).chkState ≠ .locked ∨
              (t.lane l).signal = (s.lane l).signal ∨ (t.lane l).signal = true →
            (t.lane l).gate.state = (s.lane l).gate.state ∧ (t.lane l).gate.counts = (s.lane l).gate.counts ∧
            (t.lane l).gate.result = (s.lane l).gate.result) ∧
          (power.rx = false → (s.lane l).power.rx = true → (s.lane l).gate.state.active = true →
            t.GateEnded l .laneOff s.uptime ∧
            (b = 1#8 <<< l.val → (s.lane l).chkState = .locked → (s.lane l).gate.state = .running →
              s.log.lanes[l].RaisesLock → s.Offered t l (s.lockCandidateNow l (.lockLost .off .powerDown)))))

/-- GEN_SET: every named lane takes pattern, polarity and shaping, loses a pending SINGLE or BURST, and, if running with
another pattern or polarity, begins the pattern at its first bit from the next word; its insertion in progress, RATE mode,
inserted count and word in production, with its own triple, stay. Nothing else changes but the queues, and the reply carries the applied values
and the two sets (R21, R22, R29). -/
def Obligations.GenSetConfigures : Prop :=
  ∀ (s : State) (tag : Byte) (b : LaneSet) (pattern : Nat) (pol : Polarity) (src : ShapingSource) (n : Nat)
    (w : Triple) (body : List Byte),
    s.TakesOwn 0x11 tag body → s.MayName b → pattern < 256 → s.store.checkPattern pattern = none →
    -128 ≤ w.pre → w.pre ≤ 127 → -128 ≤ w.main → w.main ≤ 127 → -128 ≤ w.post → w.post ≤ 127 → n < 256 →
    ((src = .preset n ∧ n ≤ 7) ∨ src = .custom) →
    body = [b] ++ bytesOf 1 pattern ++ [pol.code, switchCode (src == .custom)] ++ bytesOf 1 n ++
      [BitVec.ofInt 8 w.pre, BitVec.ofInt 8 w.main, BitVec.ofInt 8 w.post] →
    ∃ (t : State) (applied : Triple) (reloaded cancelled : LaneSet),
      exec (.genSet (own tag body)) s
        = .next (t.replied 0x11 tag (if src = .custom ∧ applied ≠ w then .adjusted else .ok)
            (.genSet pattern pol applied reloaded cancelled)) ∧
      t = { s.popRequest with lanes := t.lanes } ∧
      (src = .custom → applied = w.applied) ∧ (src = .preset n → applied = presetTriple n) ∧
      (∀ l : Lane, reloaded.getLsbD l.val = true ↔ b.getLsbD l.val = true ∧ (s.lane l).gen.run.isSome = true ∧
        ((s.lane l).gen.pattern ≠ pattern ∨ (s.lane l).gen.polarity ≠ pol)) ∧
      (∀ l : Lane, cancelled.getLsbD l.val = true ↔ b.getLsbD l.val = true ∧
        (s.lane l).gen.insertionPending = true) ∧
      ∀ l : Lane,
        (b.getLsbD l.val = false → t.lane l = s.lane l) ∧
        (b.getLsbD l.val = true → t.lane l = { s.lane l with gen := { (s.lane l).gen with
          pattern := pattern, polarity := pol, shaping := src, triple := applied
          mode := if (s.lane l).gen.insertionPending then .none else (s.lane l).gen.mode
          run := if (s.lane l).gen.pattern ≠ pattern ∨ (s.lane l).gen.polarity ≠ pol then
            (s.lane l).gen.run.map fun run => { run with source := startSource pattern } else (s.lane l).gen.run } })

/-- A custom triple as applied: an outer weight outside -15 to 0 goes to its nearest bound, the main weight to 16 to 63 and
then down just as far as the magnitudes' sum of 63 asks, and a weight within its range stays (section 2.3, R25). -/
def Obligations.CustomTripleIsClamped : Prop :=
  ∀ w : Triple,
    (w.pre < -15 → w.applied.pre = -15) ∧ (0 < w.pre → w.applied.pre = 0) ∧
    (-15 ≤ w.pre → w.pre ≤ 0 → w.applied.pre = w.pre) ∧
    (w.post < -15 → w.applied.post = -15) ∧ (0 < w.post → w.applied.post = 0) ∧
    (-15 ≤ w.post → w.post ≤ 0 → w.applied.post = w.post) ∧
    (w.main < 16 → w.applied.main = 16) ∧
    (16 ≤ w.main → w.main - w.applied.pre - w.applied.post ≤ 63 → w.applied.main = w.main) ∧
    (63 < w.main - w.applied.pre - w.applied.post → w.applied.main = 63 + w.applied.pre + w.applied.post) ∧
    16 ≤ w.applied.main ∧ w.applied.main ≤ 63 ∧ w.applied.main - w.applied.pre - w.applied.post ≤ 63

/-- GEN_INSERT replaces the insertion mode of every named lane, with the parameter clamped, and detaches a burst in
progress; the reply carries the applied mode and the lanes whose pending insertion it cancelled (R26, R29). GEN_READ
reports the lane's generator and clears the inserted count when asked (R30). Nothing else changes but the queues. -/
def Obligations.GenInsertAndRead : Prop :=
  ∀ (s : State) (tag : Byte),
    (∀ (b : LaneSet) (code param : Nat) (m : InsertMode) (adjusted : Bool),
      param < 256 →
      ((code = 0 ∧ m = .none ∧ adjusted = false) ∨ (code = 1 ∧ m = .single ∧ adjusted = false) ∨
        (code = 2 ∧ m = .burst (max 1 (min 64 param)) ∧ adjusted = decide (param < 1 ∨ 64 < param)) ∨
        (code = 3 ∧ m = .rate (max 3 (min 12 param)) 0 ∧ adjusted = decide (param < 3 ∨ 12 < param))) →
      s.TakesOwn 0x12 tag ([b] ++ bytesOf 1 code ++ bytesOf 1 param) → s.MayName b →
      ∃ (t : State) (cancelled : LaneSet),
        exec (.genInsert (own tag ([b] ++ bytesOf 1 code ++ bytesOf 1 param))) s
          = .next (t.replied 0x12 tag (if adjusted then .adjusted else .ok) (.genInsert m cancelled)) ∧
        t = { s.popRequest with lanes := t.lanes } ∧
        (∀ l : Lane, cancelled.getLsbD l.val = true ↔ b.getLsbD l.val = true ∧
          (s.lane l).gen.insertionPending = true) ∧
        ∀ l : Lane,
          (b.getLsbD l.val = false → t.lane l = s.lane l) ∧
          (b.getLsbD l.val = true → ∃ flight, t.lane l = { s.lane l with gen := { (s.lane l).gen with
              mode := m, flight := flight } } ∧
            (∀ n, (s.lane l).gen.flight = .own n → flight = .detached n) ∧
            (∀ n, (s.lane l).gen.flight = .detached n → flight = .detached n) ∧
            ((s.lane l).gen.flight = .idle → flight = .idle))) ∧
    ∀ (l : Lane) (clear : Byte), s.Exists l → s.TakesOwn 0x13 tag [BitVec.ofNat 8 l.val, clear] →
      ∃ t : State,
        exec (.genRead (own tag [BitVec.ofNat 8 l.val, clear])) s
          = .next (t.replied 0x13 tag .ok (.genRead
              { power := (s.lane l).power, rate := (s.lane l).rate, loopback := (s.lane l).loopback
                state := (s.lane l).gen.state, pattern := (s.lane l).gen.pattern, polarity := (s.lane l).gen.polarity
                shaping := (s.lane l).gen.shaping, triple := (s.lane l).gen.triple, mode := (s.lane l).gen.mode
                progress := (s.lane l).gen.progress, replacedLeft := (s.lane l).gen.flight.replacedLeft
                inserted := (s.lane l).gen.inserted })) ∧
        t = { s.popRequest with lanes := t.lanes } ∧ (∀ k, k ≠ l → t.lane k = s.lane k) ∧
        t.lane l = { s.lane l with gen := { (s.lane l).gen with
          inserted := if clear = 0 then (s.lane l).gen.inserted else 0 } }

/-- GENERATOR_WORD_START on a RUNNING generator: the next 32 pattern bits, with the insertion's flips and then the
polarity, become the word in production, with the lane's modulation and the triple in force; the flips are counted up to
the maximum; with loopback on, a listening checker gets the word's bits. Flips: none in NONE, the first bit for a SINGLE,
the first b bits for a new BURST of at most 32. The amplitudes this settles are R24's sums, in 189ths of full swing: of the
last symbol of the word before, with that word's own triple, then of the word's own symbols but the last; with triples in
range every one lies within full swing (R14, R20, R22, R23, R24, R27, R30, R31). An OFF generator produces nothing (R20). A burst in progress flips its last bits first in the word, and the
mode that waits behind it stands; a RATE flips the bit that brings its counter to 10^k (R27 to R29). That the word start
settles the amplitudes, and the free value, -3 to 3 thirds, for the symbol before the first one after silence, are the model's choices (logs
20, 40); so are that the flips of the whole word are counted when it begins (DEDUCED, log 17) and that the loopback path is
filled then, and only for a checker in HUNT, VERIFY or LOCKED (DESIGN CHOICE, log 10). -/
def Obligations.GeneratorWordStart : Prop :=
  ∀ (s : State) (l : Lane),
    ((s.lane l).gen.run = none → exec (.generatorWordStart l) s = .next s) ∧
    ∀ run, (s.lane l).gen.run = some run →
      ∃ (t : State) (flips word : Word) (n : Nat) (made : Production) (sent : List Int),
        exec (.generatorWordStart l) s = .next t ∧ t = { s with lanes := t.lanes } ∧
        (∀ k, k ≠ l → t.lane k = s.lane k) ∧
        (∀ k, k < 32 → word.getMsbD k = (((s.store.takeWord (s.lane l).gen.pattern run.source).1.getMsbD k ^^
          flips.getMsbD k) ^^ decide ((s.lane l).gen.polarity = .inverted))) ∧
        n = ((List.range 32).filter fun i => flips.getMsbD i).length ∧
        made = { word := word, pam4 := (s.lane l).pam4, triple := (s.lane l).gen.triple } ∧
        (t.lane l).gen.run = some { source := (s.store.takeWord (s.lane l).gen.pattern run.source).2
                                    word := some made, sent := sent } ∧
        ((s.lane l).pam4 = false → made.symbols = 32 ∧
          ∀ j, j < 32 → made.nominal j = if word.getMsbD j then 3 else -3) ∧
        ((s.lane l).pam4 = true → made.symbols = 16 ∧
          ∀ j, j < 16 → made.nominal j =
            if word.getMsbD (2 * j) then (if word.getMsbD (2 * j + 1) then 1 else 3)
            else (if word.getMsbD (2 * j + 1) then -1 else -3)) ∧
        (run.word = none → sent.length + 1 = made.symbols ∧
          (∃ silent, -3 ≤ silent ∧ silent ≤ 3 ∧ sent[0]? = some (made.triple.pre * made.nominal 1 +
            made.triple.main * made.nominal 0 + made.triple.post * silent)) ∧
          ∀ j, 0 < j → j + 1 < made.symbols → sent[j]? = some (made.triple.pre * made.nominal (j + 1) +
            made.triple.main * made.nominal j + made.triple.post * made.nominal (j - 1))) ∧
        (∀ old, run.word = some old → sent.length = made.symbols ∧
          sent[0]? = some (old.triple.pre * made.nominal 0 + old.triple.main * old.nominal (old.symbols - 1) +
            old.triple.post * old.nominal (old.symbols - 2)) ∧
          ∀ j, j + 1 < made.symbols → sent[j + 1]? = some (made.triple.pre * made.nominal (j + 1) +
            made.triple.main * made.nominal j +
            made.triple.post * (if j = 0 then old.nominal (old.symbols - 1) else made.nominal (j - 1)))) ∧
        ((s.lane l).gen.triple.InRange → (∀ old, run.word = some old → old.triple.InRange) →
          ∀ a ∈ sent, WithinFullSwing a) ∧
        (t.lane l).gen.inserted = min (2 ^ 48 - 1) ((s.lane l).gen.inserted + n) ∧
        (t.lane l).path = (s.lane l).path ++
          (if (s.lane l).loopback = true ∧ ((s.lane l).chkState = .hunt ∨ (s.lane l).chkState = .verify ∨
              (s.lane l).chkState = .locked) then (List.range 32).map (fun i => word.getMsbD i) else []) ∧
        t.lane l = { s.lane l with
          path := (t.lane l).path
          gen := { (s.lane l).gen with
            run := (t.lane l).gen.run, mode := (t.lane l).gen.mode, flight := (t.lane l).gen.flight
            inserted := (t.lane l).gen.inserted } } ∧
        ((s.lane l).gen.flight = .idle →
          ((s.lane l).gen.mode = .none → flips = 0 ∧ (t.lane l).gen.mode = .none) ∧
          ((s.lane l).gen.mode = .single → flips = 0x80000000 ∧ (t.lane l).gen.mode = .none) ∧
          (∀ c, (s.lane l).gen.mode = .burst c → 1 ≤ c → c ≤ 32 →
            n = c ∧ (∀ k, k < c → flips.getMsbD k = true) ∧ (t.lane l).gen.mode = .none ∧
            (t.lane l).gen.flight = .idle) ∧
          (∀ c, (s.lane l).gen.mode = .burst c → 32 < c → c ≤ 64 →
            n = 32 ∧ (t.lane l).gen.mode = .burst c ∧ (t.lane l).gen.flight = .own (c - 32))) ∧
        (∀ c, 1 ≤ c → c ≤ 32 → (s.lane l).gen.flight = .own c ∨ (s.lane l).gen.flight = .detached c →
          n = c ∧ (∀ k, k < c → flips.getMsbD k = true) ∧ (t.lane l).gen.flight = .idle ∧
          ((s.lane l).gen.flight = .own c → (t.lane l).gen.mode = .none) ∧
          ((s.lane l).gen.flight = .detached c → (t.lane l).gen.mode = (s.lane l).gen.mode)) ∧
        ∀ k phase, (s.lane l).gen.flight = .idle → (s.lane l).gen.mode = .rate k phase → 3 ≤ k → phase < 10 ^ k →
          (t.lane l).gen.flight = .idle ∧
          (phase + 32 < 10 ^ k → n = 0 ∧ (t.lane l).gen.mode = .rate k (phase + 32)) ∧
          (10 ^ k ≤ phase + 32 → n = 1 ∧ flips.getMsbD (10 ^ k - phase - 1) = true ∧
            (t.lane l).gen.mode = .rate k (phase + 32 - 10 ^ k))

/-- The RATE insertion: a generator that begins a RATE of 10^k with its counter at 0 has, after any number of words of
either modulation, flipped exactly one bit for every 10^k bits sent (R28). -/
def Obligations.RateInsertionSpacing : Prop :=
  ∀ (st : Store) (pam4 : Bool) (g : Generator) (k n : Nat), g.run.isSome = true → g.flight = .idle →
    g.mode = .rate k 0 → 3 ≤ k → k ≤ 12 → g.inserted = 0 → 32 * n / 10 ^ k ≤ 2 ^ 48 - 1 →
    ((Generator.beginWord st pam4)^[n] g).inserted = 32 * n / 10 ^ k

/-! ### Checkers -/

/-- CHK_SET on lanes whose checkers are OFF or HELD: every named checker takes the nine values with V, A, W, T and G
adjusted as R47 says, T against the applied W; a changed value is answered ADJUSTED; nothing else changes but the queues.
A checker in another state refuses the whole request with LANE_ACTIVE (R46, R47). -/
def Obligations.ChkSetConfigures : Prop :=
  ∀ (s : State) (tag : Byte) (b : LaneSet) (c : ChkConfig),
    c.pattern < 256 → c.v < 2 ^ 16 → c.a < 2 ^ 8 → c.w < 2 ^ 32 → c.t < 2 ^ 16 → c.g < 2 ^ 16 →
    (c.interval = 1 ∨ c.interval = 10 ∨ c.interval = 100 ∨ c.interval = 1000) →
    s.store.checkPattern c.pattern = none → s.MayName b → s.TakesOwn 0x14 tag (chkSetBody b c) →
    ((∀ l : Lane, b.getLsbD l.val = true → (s.lane l).chkState = .off ∨ (s.lane l).chkState = .held) →
      ∃ (t : State) (a : ChkConfig),
        exec (.chkSet (own tag (chkSetBody b c))) s
          = .next (t.replied 0x14 tag (if a = c then .ok else .adjusted) (.chkSet a)) ∧
        t = { s.popRequest with lanes := t.lanes } ∧
        (∀ l : Lane, (b.getLsbD l.val = false → t.lane l = s.lane l) ∧
          (b.getLsbD l.val = true → t.lane l = { s.lane l with chk := { (s.lane l).chk with config := a } })) ∧
        a.pattern = c.pattern ∧ a.polarity = c.polarity ∧ a.autoInvert = c.autoInvert ∧ a.interval = c.interval ∧
        a.v = max 64 (min 4096 ((c.v + 31) / 32 * 32)) ∧ a.a = min 15 c.a ∧
        (∃ k, 10 ≤ k ∧ k ≤ 16 ∧ a.w = 2 ^ k ∧ (c.w ≤ 2 ^ 16 → c.w ≤ a.w) ∧ (2 ^ 16 < c.w → k = 16) ∧
          (10 < k → a.w < 2 * c.w)) ∧
        a.t = max 1 (min (a.w / 2) c.t) ∧ a.g = max 1 (min 1024 c.g)) ∧
    ((∃ l : Lane, b.getLsbD l.val = true ∧ (s.lane l).chkState ≠ .off ∧ (s.lane l).chkState ≠ .held) →
      exec (.chkSet (own tag (chkSetBody b c))) s = .next (s.popRequest.replied 0x14 tag .laneActive .none))

/-- CHK_HOLD: with no named checker OFF, every named checker is HELD with its configuration kept, each that was not yet
HELD queues a LOCK notice, no history flag of the checker changes, and the reply carries the two sets (R44, R53). A RUNNING
gate takes a lock loss that pauses it when its checker leaves LOCKED, pauses without one when it leaves another state, and
a gate in any other state stays (R96, R97, R100). The exit from LOCKED of a lane named alone offers its LOCK_LOST candidate
(R146, R147); the margin unit meets the lanes' transitions in ascending order (R142; the order is the model's choice, log
25). A named OFF checker refuses it with LANE_OFF (R44). -/
def Obligations.ChkHoldHolds : Prop :=
  ∀ (s : State) (tag : Byte) (b : LaneSet), s.TakesOwn 0x15 tag [b] → s.MayName b →
    ((∃ l : Lane, b.getLsbD l.val = true ∧ (s.lane l).chkState = .off) →
      exec (.chkHold (own tag [b])) s = .next (s.popRequest.replied 0x15 tag .laneOff .none)) ∧
    ((∀ l : Lane, b.getLsbD l.val = true → (s.lane l).chkState ≠ .off) →
      ∃ (t : State) (entered already : LaneSet),
        exec (.chkHold (own tag [b])) s = .next t ∧ SameBase s t ∧
        (s.OtherLanesKept t fun l => b.getLsbD l.val = true) ∧
        t.line.replies = s.line.replies ++
          [{ kind := 0x15, tag := tag, answer := { status := .ok, fields := .chkHold entered already } }] ∧
        (∀ l : Lane, (entered.getLsbD l.val = true ↔ b.getLsbD l.val = true ∧ (s.lane l).chkState ≠ .held) ∧
          (already.getLsbD l.val = true ↔ b.getLsbD l.val = true ∧ (s.lane l).chkState = .held)) ∧
        t.margin = s.marginAfter t b ∧
        (s.log.Settled → (∀ l : Lane, b.getLsbD l.val = true → (s.lane l).chkState ≠ .locked ∨
          (s.lane l).gate.state ≠ .running ∨ ¬s.log.lanes[l].RaisesLock) → t.log = s.log) ∧
        ∀ l : Lane, b.getLsbD l.val = true →
          (t.lane l).chk.phase = .held ∧ (s.lane l).SameSettings (t.lane l) ∧
          (∀ f : HistoryFlag, f ≠ .captureMissed → f ≠ .saturated → t.flagSet l f = s.flagSet l f) ∧
          ((s.lane l).chkState ≠ .held → s.line.enabled.getLsbD 0 = true →
            t.line.Announces (.lock l .held .held)) ∧
          ((s.lane l).gate.state = .running → (s.lane l).chkState = .locked →
            t.LossTaken l (s.lane l).gate.counts .pause s.uptime ∧
            (b = 1#8 <<< l.val → s.log.lanes[l].RaisesLock →
              s.Offered t l (s.lockCandidateNow l (.lockLost .held .held)))) ∧
          ((s.lane l).gate.state = .running → (s.lane l).chkState ≠ .locked → (s.lane l).chkState ≠ .held →
            (t.lane l).gate.state = .paused ∧ (t.lane l).gate.counts = (s.lane l).gate.counts) ∧
          ((s.lane l).gate.state ≠ .running → (t.lane l).gate.state = (s.lane l).gate.state ∧
            (t.lane l).gate.counts = (s.lane l).gate.counts))

/-- CHK_RELEASE: with every named checker HELD, each enters a fresh HUNT with a signal and NO_SIGNAL without, queues a
LOCK notice, and sets no flag; its gate, the capture log and the margin unit stay as they are; the reply carries the states
entered. A named checker that is not HELD refuses it with NOT_HELD (R45, R53, R142). -/
def Obligations.ChkReleaseReleases : Prop :=
  ∀ (s : State) (tag : Byte) (b : LaneSet), s.TakesOwn 0x16 tag [b] → s.MayName b →
    ((∃ l : Lane, b.getLsbD l.val = true ∧ (s.lane l).chkState ≠ .held) →
      exec (.chkRelease (own tag [b])) s = .next (s.popRequest.replied 0x16 tag .notHeld .none)) ∧
    (s.log.Settled →
      (∀ l : Lane, b.getLsbD l.val = true → (s.lane l).chkState = .held) →
      ∃ t : State, exec (.chkRelease (own tag [b])) s = .next t ∧ SameBase s t ∧ t.history = s.history ∧
        t.log = s.log ∧ t.margin = s.margin ∧ (∀ l : Lane, b.getLsbD l.val = false → t.lane l = s.lane l) ∧
        t.line.replies = s.line.replies ++
          [{ kind := 0x16, tag := tag, answer := { status := .ok, fields := .chkRelease ((lanesOf b).map fun l =>
              (l, if (s.lane l).signal then .hunt else .noSignal)) } }] ∧
        ∀ l : Lane, b.getLsbD l.val = true →
          t.lane l = { s.lane l with
            path := []
            chk := { (s.lane l).chk with phase := if (s.lane l).signal then .hunt 0 0 else .noSignal } } ∧
          (s.line.enabled.getLsbD 0 = true →
            t.line.Announces (.lock l (if (s.lane l).signal then .hunt else .noSignal) .released)))

/-- SIGNAL_RISE and SIGNAL_FALL with loopback off: a rise takes a checker in NO_SIGNAL to a fresh HUNT; a fall takes one in
HUNT, VERIFY or LOCKED to NO_SIGNAL and sets LOS_SEEN; each queues a LOCK notice. With loopback on, or in any other state,
of the lane only the tracked level changes (R34, R36, R53, R54). The margin unit meets a transition, and no other event
(R142). That an event which finds the pin at its level already leaves only a queued frame to begin is the model's choice
(DESIGN CHOICE, log 2). -/
def Obligations.SignalEvents : Prop :=
  ∀ (s : State) (l : Lane) (level : Bool),
    ∃ t, exec (if level then .signalRise l else .signalFall l) s = .next t ∧ SameBase s t ∧
      (s.OtherLanesKept t fun k => k = l) ∧ (t.lane l).sd = level ∧
      ((s.lane l).sd = level → t = s.pump) ∧
      ((t.lane l).chkState = (s.lane l).chkState → t.margin = s.margin) ∧
      ((t.lane l).chkState ≠ (s.lane l).chkState →
        t.margin = (s.marginTransition l (s.lane l).chkState (t.lane l).chkState).margin) ∧
      ((s.lane l).loopback = true ∨ (s.lane l).chkState = .off ∨ (s.lane l).chkState = .held ∨
          (level = true ∧ (s.lane l).chkState ≠ .noSignal) ∨ (level = false ∧ (s.lane l).chkState = .noSignal) →
        ({ s.lane l with sd := level } : LaneState).SameButMissed (t.lane l)) ∧
      ((s.lane l).loopback = false → (s.lane l).sd ≠ level → level = true → (s.lane l).chkState = .noSignal →
        (t.lane l).chk = { (s.lane l).chk with phase := .hunt 0 0 } ∧
        (s.line.enabled.getLsbD 0 = true → t.line.Announces (.lock l .hunt .signalUp))) ∧
      ((s.lane l).loopback = false → (s.lane l).sd ≠ level → level = false →
        (s.lane l).chkState = .hunt ∨ (s.lane l).chkState = .verify ∨ (s.lane l).chkState = .locked →
        (t.lane l).chk = { (s.lane l).chk with phase := .noSignal } ∧ t.flagSet l .losSeen = true ∧
        (s.line.enabled.getLsbD 0 = true → t.line.Announces (.lock l .noSignal .signal)))

/-- A lock loss by signal, or by the error threshold at a word that does not itself end the gate, reaches a RUNNING gate:
it adds 1 to lock losses and then keeps, pauses or ends the gate, as its lock policy says; at the counter's maximum the
gate ends SATURATED; a gate in any other state is not touched (R96, R100; a loss by HELD is ChkHoldHolds). The exit offers
a LOCK_LOST candidate where the gate is RUNNING and mode and quota let one arise; otherwise the capture log stays (R146). A
drop and a discard set CAPTURE_MISSED and count a capture missed below the maximum (R147, R150). At a loss by errors the
word's own candidate meets the slot first, and the loss's candidate then finds the slot full, or, where the word's was
discarded, is discarded after it (R52, R73, R147), unless a write completion of the lane empties the slot between the two:
then the loss's candidate is taken, whether the word's was dropped or written (R146; that WORD_RESULT says whether a write
completes there is the model's choice, DESIGN CHOICE, log 43). -/
def Obligations.LockLossByPolicy : Prop :=
  ∀ (s : State) (l : Lane) (cfg : GateSettings),
    ((s.lane l).gate.state = .running → (s.lane l).gate.settings = some cfg) →
    ((s.lane l).sd = true → (s.lane l).loopback = false → (s.lane l).chkState = .locked →
      ∃ t, exec (.signalFall l) s = .next t ∧
        ((s.lane l).gate.state ≠ .running → (t.lane l).gate.state = (s.lane l).gate.state ∧
          (t.lane l).gate.counts = (s.lane l).gate.counts ∧ (t.lane l).gate.result = (s.lane l).gate.result) ∧
        ((s.lane l).gate.state = .running → t.LossTaken l (s.lane l).gate.counts cfg.policy s.uptime) ∧
        ((s.lane l).gate.state = .running → s.log.lanes[l].RaisesLock →
          s.Offered t l (s.lockCandidateNow l (.lockLost .noSignal .signal)) ∧
          (s.log.LosesCandidate l → (s.lane l).gate.counters.missed < 2 ^ 32 - 1 →
            (t.lane l).gate.counters.missed = (s.lane l).gate.counters.missed + 1)) ∧
        (s.log.Settled → (s.lane l).gate.state ≠ .running ∨ ¬s.log.lanes[l].RaisesLock → t.log = s.log)) ∧
    ∀ (rx : Reception) (above : List Bool) (written : Bool) (w : Word) (rest : List Bool) (src : Source)
        (last : BitVec 15) (c e : Nat) (exp rcv : Word) (tally : Tally),
      (s.lane l).chk.phase = .locked src last c e → (s.lane l).inputWord rx = some (w, rest) →
      exp = (s.store.takeWord (s.lane l).chk.config.pattern src).1 → rcv = (s.lane l).chk.config.polarity.word w →
      tally = buildTally s.filters s.log.lanes[l] (s.lane l) last
        (buildResult l (s.lane l).pam4 (s.lane l).chk.config.polarity last exp rcv) →
      (s.lane l).chk.config.t < e + ((List.range 32).filter fun i => exp.getMsbD i != rcv.getMsbD i).length →
      ∃ t, exec (.wordResult l rx ⟨above, written⟩) s = .next t ∧
        ((s.lane l).gate.state ≠ .running → (t.lane l).gate.state = (s.lane l).gate.state ∧
          (t.lane l).gate.counts = (s.lane l).gate.counts ∧ (t.lane l).gate.result = (s.lane l).gate.result) ∧
        ((s.lane l).gate.state = .running → ((s.lane l).gate.counters.add tally.inc).withinMax = true →
          (cfg.errorLimit = 0 ∨ (s.lane l).gate.counters.errors + tally.inc.errors < cfg.errorLimit) →
          (cfg.bitLimit = 0 ∨ (s.lane l).gate.counters.bits + 32 < cfg.bitLimit) →
          t.LossTaken l (s.lane l).gate.counts cfg.policy s.uptime ∧
          (written = false → s.log.lanes[l].RaisesLock → s.log.lanes[l].mode = .events ∨ tally.candidate = none →
            s.Offered t l { lane := l, elapsed := (s.lane l).gate.counts.elapsed
                            bits := (s.lane l).gate.counters.bits + 32, body := .lockLost .hunt .errors } ∧
            (s.log.LosesCandidate l → (s.lane l).gate.counters.missed < 2 ^ 32 - 1 →
              (t.lane l).gate.counters.missed = (s.lane l).gate.counters.missed + 1)) ∧
          (∀ cand, tally.candidate = some cand → written = false →
            (s.log.port ≠ .free →
              t.log = { s.log with lanes := s.log.lanes.set l { s.log.lanes[l] with
                slot := some (s.log.lanes[l].slot.getD cand) } } ∧
              t.flagSet l .captureMissed = true ∧
              ((s.lane l).gate.counters.missed + tally.inc.missed < 2 ^ 32 - 1 →
                (t.lane l).gate.counters.missed = (s.lane l).gate.counters.missed + tally.inc.missed + 1)) ∧
            ((∀ k : Lane, s.log.lanes[k].slot = none) → s.log.port = .free →
              s.log.full = .ring ∨ s.log.records.length < 512 →
              t.log = { s.log with
                lanes := s.log.lanes.set l { s.log.lanes[l] with slot := some cand }
                lastGranted := l, port := .writing l s.log.full } ∧
              t.flagSet l .captureMissed = true ∧
              ((s.lane l).gate.counters.missed < 2 ^ 32 - 1 →
                (t.lane l).gate.counters.missed = (s.lane l).gate.counters.missed + 1)) ∧
            ((∀ k : Lane, s.log.lanes[k].slot = none) → s.log.port = .free → s.log.full = .stop →
              512 ≤ s.log.records.length →
              t.log = { s.log with lastGranted := l, fullMark := true } ∧ t.flagSet l .captureMissed = true ∧
              (∀ r, s.log.records.getLast? = some r → s.FullAnnounced t s.log.records.length r.sequence) ∧
              ((s.lane l).gate.counters.missed + 1 < 2 ^ 32 - 1 →
                (t.lane l).gate.counters.missed = (s.lane l).gate.counters.missed + 2))) ∧
          ∀ (mid after : CaptureLog) (policy : FullPolicy) (old : Candidate), written = true →
            (s.log.port = .writing l policy ∧ s.log.lanes[l].slot = some old ∧ mid = s.log) ∨
              (tally.candidate = some old ∧ (∀ k : Lane, s.log.lanes[k].slot = none) ∧ s.log.port = .free ∧
                (s.log.full = .ring ∨ s.log.records.length < 512) ∧ policy = s.log.full ∧
                mid = { s.log with
                  lanes := s.log.lanes.set l { s.log.lanes[l] with slot := some old }
                  lastGranted := l, port := .writing l s.log.full }) →
            after = mid.afterWrite l policy old → (∀ k : Lane, after.lanes[k].slot = none) →
            (tally.candidate.isSome = true → s.log.port ≠ .free → t.flagSet l .captureMissed = true) ∧
            (¬after.lanes[l].RaisesLock → t.log = after) ∧
            (after.lanes[l].RaisesLock →
              ({ s with log := after } : State).Offered t l
                { lane := l, elapsed := (s.lane l).gate.counts.elapsed
                  bits := (s.lane l).gate.counters.bits + 32, body := .lockLost .hunt .errors } ∧
              (after.full = .ring ∨ after.records.length < 512 →
                (t.lane l).gate.counters.missed = (s.lane l).gate.counters.missed + tally.inc.missed)))

/-- A fixed-pattern hunt finds the place of any fixed-pattern stream, fed whole or in pieces, from the receive lane or the
loopback path: once n bits of the stream that a register of its pattern produces have come since it began (n + 1 on PAM4,
where the last bit is predicted, not loaded, and may have any value), the checker enters VERIFY with the register that
predicts what follows, and queues a LOCK notice (R31, R37, R53). What a receive lane brings reaches the checker as bits: on
a PAM4 lane each level gives back its bit pair, more significant bit first, so a word's symbols give the word (R14, R34; that
the commands bring decided levels is the model's form, log 41). That a command may bring any number of bits, so that a
hunt left unfinished keeps them in its window, and that bits behind the hunt's end are dropped on the receive lane and kept
on the loopback path, is the model's choice (DESIGN CHOICE, log 11). -/
def Obligations.SeedFindsTheStream : Prop :=
  (∀ (x : LaneState) (word : Word) (levels : List PamLevel) (bits : List Bool), x.loopback = false →
    (x.pam4 = false → x.inputBits (.nrz bits) = bits ∧
      x.inputWord (.nrz ((List.range 32).map fun i => word.getMsbD i)) = some (word, x.path)) ∧
    (x.pam4 = true →
      x.inputBits (.pam4 levels)
        = levels.flatMap (fun v => [decide (v = 2 ∨ v = 3), decide (v = 1 ∨ v = 2)]) ∧
      x.inputWord (.pam4 ((List.range 16).map (symbolLevel word))) = some (word, x.path))) ∧
  ∀ (s : State) (l : Lane) (id : Nat) (w : BitVec 64) (rx : Reception) (bits : List Bool),
    1 ≤ id → id ≤ 7 → (s.lane l).chk.config.pattern = id →
    (∀ (reg : BitVec 32) (w₀ : BitVec 64) (before after : List Bool),
      (s.lane l).chk.phase = .hunt w before.length → w = windowAfter (s.lane l).chk.config.polarity w₀ before →
      (s.lane l).inputBits rx = bits ++ after → bits ≠ [] →
      before.length + bits.length = prbsLength id + (if (s.lane l).pam4 then 1 else 0) →
      reg &&& prbsOnes id = reg →
      (∀ k b, k < prbsLength id → (before ++ bits)[k]? = some b → (s.lane l).chk.config.polarity.bit b
        = (prbsStep id ((fun r => (prbsStep id r).2)^[k] reg)).1) →
      ∃ t, exec (.seedLoaded l rx) s = .next t ∧ SameBase s t ∧ (s.OtherLanesKept t fun k => k = l) ∧
        t.margin = s.margin ∧ (t.lane l).path = (if (s.lane l).loopback then after else (s.lane l).path) ∧
        (t.lane l).chk = { (s.lane l).chk with
          phase := .verify
            (.prbs ((fun r => (prbsStep id r).2)^[prbsLength id + if (s.lane l).pam4 then 1 else 0] reg)) 0 0 0 } ∧
        (s.line.enabled.getLsbD 0 = true → t.line.Announces (.lock l .verify .found))) ∧
    ∀ c : Nat, (s.lane l).chk.phase = .hunt w c → (s.lane l).inputBits rx = bits →
      c + bits.length < prbsLength id + (if (s.lane l).pam4 then 1 else 0) →
      exec (.seedLoaded l rx) s = .next (s.modLane l fun x => { x with
        path := if x.loopback then [] else x.path
        chk := { x.chk with
          phase := .hunt (windowAfter x.chk.config.polarity w bits) (c + bits.length) } }).pump

/-- A user-pattern hunt that receives the 64 bits of its anchor right after it began (on PAM4 as on NRZ) enters VERIFY at
position 64 with its polarity kept; under auto-invert the complement does the same with the polarity flipped, and with
auto-invert off the checker stays in HUNT on the complement. Wherever the window lies in the stream, the hunt ends at the
first one that matches - on PAM4 only windows that end a symbol are tested - and goes on without one, whether the bits come
from the receive lane or the loopback path (R13, R31, R38, R53). That a command may bring any number of bits, that a hunt
left unfinished keeps its window, and where the bits behind its end go, is the model's choice (DESIGN CHOICE, log 11). -/
def Obligations.AnchorStartsVerify : Prop :=
  (∀ (s : State) (l : Lane) (r : Region) (anti : Bool) (rx : Reception) (bits : List Bool),
    s.store.region (s.lane l).chk.config.pattern = some r → (s.lane l).chk.phase = .hunt 0 0 →
    (s.lane l).inputBits rx = bits → bits.length = 64 →
    (∀ k b, bits[k]? = some b → (s.lane l).chk.config.polarity.bit b
      = ((readByte s.store.memory (8 * r.base + k / 8)).getMsbD (k % 8) ^^ anti)) →
      ∃ t, exec (.anchorMatch l rx) s = .next t ∧ SameBase s t ∧ (s.OtherLanesKept t fun k => k = l) ∧
        (anti = false → (t.lane l).chk = { (s.lane l).chk with phase := .verify (.user 64) 0 0 0 } ∧
          (s.line.enabled.getLsbD 0 = true → t.line.Announces (.lock l .verify .found))) ∧
        (anti = true → (s.lane l).chk.config.autoInvert = true →
          (t.lane l).chk.phase = .verify (.user 64) 0 0 0 ∧
          (t.lane l).chk.config = { (s.lane l).chk.config with polarity := (s.lane l).chk.config.polarity.flip } ∧
          (s.line.enabled.getLsbD 0 = true → t.line.Announces (.lock l .verify .found))) ∧
        (anti = true → (s.lane l).chk.config.autoInvert = false →
          (t.lane l).chkState = .hunt ∧ (t.lane l).chk.config = (s.lane l).chk.config)) ∧
  ∀ (s : State) (l : Lane) (r : Region) (w : BitVec 64) (c : Nat) (rx : Reception) (bits : List Bool),
    s.store.region (s.lane l).chk.config.pattern = some r → (s.lane l).chk.phase = .hunt w c →
    (∀ k anti, 0 < k → k < bits.length →
      ¬s.AnchorAt l r anti (windowAfter (s.lane l).chk.config.polarity w (bits.take k)) (c + k)) →
    (∀ (anti : Bool) (after : List Bool), (s.lane l).inputBits rx = bits ++ after → bits ≠ [] →
      s.AnchorAt l r anti (windowAfter (s.lane l).chk.config.polarity w bits) (c + bits.length) →
      ∃ t, exec (.anchorMatch l rx) s = .next t ∧ SameBase s t ∧ (s.OtherLanesKept t fun k => k = l) ∧
        t.margin = s.margin ∧ (t.lane l).path = (if (s.lane l).loopback then after else (s.lane l).path) ∧
        (t.lane l).chk.phase = .verify (.user 64) 0 0 0 ∧
        (t.lane l).chk.config = { (s.lane l).chk.config with
          polarity := if anti then (s.lane l).chk.config.polarity.flip else (s.lane l).chk.config.polarity } ∧
        (s.line.enabled.getLsbD 0 = true → t.line.Announces (.lock l .verify .found))) ∧
    ((s.lane l).inputBits rx = bits →
      (∀ anti, bits ≠ [] →
        ¬s.AnchorAt l r anti (windowAfter (s.lane l).chk.config.polarity w bits) (c + bits.length)) →
      exec (.anchorMatch l rx) s = .next (s.modLane l fun x => { x with
        path := if x.loopback then [] else x.path
        chk := { x.chk with
          phase := .hunt (windowAfter x.chk.config.polarity w bits) (c + bits.length) } }).pump)

/-- VERIFY_WORD_END: with `w` the word at the checker's input, the word's errors join the count; the count past A fails
the verify (under auto-invert only once a compared bit was right); else at V bits a count of at most A locks, and an
all-error verify inverts the polarity and restarts at the same place; else it goes on. Each transition queues its LOCK
notice and a failure sets VERIFY_FAILED (R39, R40, R53, R54). The lock runs an ARMED or PAUSED gate (R94, R97); one that
leaves the gate RUNNING offers a LOCK_GAINED candidate where mode and quota let one arise (R146, R147), and no other
outcome changes the capture log; the margin unit meets the transition (R142). -/
def Obligations.VerifyWordOutcomes : Prop :=
  ∀ (s : State) (l : Lane) (rx : Reception) (w : Word) (rest : List Bool) (src : Source) (last : BitVec 15) (c e : Nat),
    (s.lane l).chk.phase = .verify src last c e → (s.lane l).inputWord rx = some (w, rest) →
    ∃ (t : State) (next : Word × Source) (bad c' e' : Nat),
      exec (.verifyWordEnd l rx) s = .next t ∧ SameBase s t ∧ (s.OtherLanesKept t fun k => k = l) ∧
      next = s.store.takeWord (s.lane l).chk.config.pattern src ∧
      bad = ((List.range 32).filter fun i => next.1.getMsbD i !=
        (w.getMsbD i ^^ decide ((s.lane l).chk.config.polarity = .inverted))).length ∧
      c' = c + 32 ∧ e' = e + bad ∧ (t.lane l).path = rest ∧
      t.margin = (s.marginTransition l .verify (t.lane l).chkState).margin ∧
      (s.log.Settled → (t.lane l).chkState ≠ .locked ∨ (t.lane l).gate.state ≠ .running ∨ ¬s.log.lanes[l].RaisesLock →
        t.log = s.log) ∧
      ((s.lane l).chk.config.a < e' → ((s.lane l).chk.config.autoInvert = false ∨ e' < c') →
        (t.lane l).chk = { (s.lane l).chk with phase := .hunt 0 0 } ∧ t.flagSet l .verifyFailed = true ∧
        (s.line.enabled.getLsbD 0 = true → t.line.Announces (.lock l .hunt .verifyFailed))) ∧
      (e' ≤ (s.lane l).chk.config.a → (s.lane l).chk.config.v ≤ c' →
        (t.lane l).chk = { (s.lane l).chk with phase := .locked next.2 (next.1.setWidth 15) 0 0 } ∧
        (s.line.enabled.getLsbD 0 = true → t.line.Announces (.lock l .locked .verified)) ∧
        ((s.lane l).gate.state = .armed ∨ (s.lane l).gate.state = .paused → (t.lane l).gate.state = .running) ∧
        ((t.lane l).gate.state = .running → s.log.lanes[l].RaisesLock →
          s.Offered t l (s.lockCandidateNow l (.lockGained .locked .verified)))) ∧
      ((s.lane l).chk.config.a < e' → (s.lane l).chk.config.autoInvert = true → c' ≤ e' →
        (s.lane l).chk.config.v ≤ c' →
        (t.lane l).chk.phase = .verify next.2 (next.1.setWidth 15) 0 0 ∧
        (t.lane l).chk.config = { (s.lane l).chk.config with polarity := (s.lane l).chk.config.polarity.flip } ∧
        (s.line.enabled.getLsbD 0 = true → t.line.Announces (.lock l .verify .inverted))) ∧
      (c' < (s.lane l).chk.config.v →
        (e' ≤ (s.lane l).chk.config.a ∨ ((s.lane l).chk.config.autoInvert = true ∧ c' ≤ e')) →
        t = (s.modLane l fun x => { x with
          path := rest, chk := { x.chk with phase := .verify next.2 (next.1.setWidth 15) c' e' } }).pump)

/-- WORD_RESULT and the loss detector: the word's errors join the loss block; past T the checker declares the loss - HUNT,
LOCK_LOST, a LOCK notice - and otherwise stays LOCKED, at the next place, with the block closed at W bits (R41, R42,
R53, R54). The margin unit meets the word as a comparison word with its margin-sampled errors and then, if one was
declared, the loss (R126, R127, R142). Where the sampler serves the lane, it reads an NRZ symbol by its moved boundary
alone, and a PAM4 symbol by the moved boundary of its eye where the lane's own decision is one of that boundary's two
levels, else as the lane does (R123; DEDUCED where a phase shift makes the boundaries disagree, log 44; the decisions are
operands, logs 10, 41); with loopback on it reads the checker's own bits (DEDUCED, log 30). -/
def Obligations.WordResultLossDetector : Prop :=
  ∀ (s : State) (l : Lane) (rx : Reception) (above : List Bool) (written : Bool) (w : Word) (rest : List Bool)
      (src : Source) (last : BitVec 15) (c e : Nat),
    (s.lane l).chk.phase = .locked src last c e → (s.lane l).inputWord rx = some (w, rest) →
    ∃ (t : State) (next : Word × Source) (reading : Word) (bad off : Nat),
      exec (.wordResult l rx ⟨above, written⟩) s = .next t ∧ SameBase s t ∧ (s.OtherLanesKept t fun k => k = l) ∧
      next = s.store.takeWord (s.lane l).chk.config.pattern src ∧
      bad = ((List.range 32).filter fun i => next.1.getMsbD i !=
        (w.getMsbD i ^^ decide ((s.lane l).chk.config.polarity = .inverted))).length ∧
      off = ((List.range 32).filter fun i => next.1.getMsbD i !=
        (reading.getMsbD i ^^ decide ((s.lane l).chk.config.polarity = .inverted))).length ∧
      ((s.lane l).loopback = true → reading = w) ∧
      (∀ place : SamplerPlace, s.margin.sampler = some place → place.lane = l → (s.lane l).loopback = false →
        ((s.lane l).pam4 = false → above.length = 32 → ∀ (i : Nat) (a : Bool), above[i]? = some a →
          reading.getMsbD i = a) ∧
        ((s.lane l).pam4 = true → above.length = 16 → ∀ (j : Nat) (a : Bool) (low : PamLevel), above[j]? = some a →
          (place.eye = .lower → low = 0) → (place.eye = .middle → low = 1) → (place.eye = .upper → low = 2) →
          (symbolLevel w j = low ∨ symbolLevel w j = low + 1 →
            symbolLevel reading j = if a then low + 1 else low) ∧
          (symbolLevel w j ≠ low → symbolLevel w j ≠ low + 1 → symbolLevel reading j = symbolLevel w j))) ∧
      (t.lane l).path = rest ∧
      ((s.lane l).chk.config.t < e + bad →
        (t.lane l).chk = { (s.lane l).chk with phase := .hunt 0 0 } ∧ t.flagSet l .lockLost = true ∧
        (s.line.enabled.getLsbD 0 = true → t.line.Announces (.lock l .hunt .errors)) ∧
        t.margin = ((s.dwellWord l off).marginTransition l .locked .hunt).margin) ∧
      (e + bad ≤ (s.lane l).chk.config.t →
        t.margin = (s.dwellWord l off).margin ∧
        (t.lane l).chk.config = (s.lane l).chk.config ∧
        (t.lane l).chk.phase =
          if (s.lane l).chk.config.w ≤ c + 32 then .locked next.2 (next.1.setWidth 15) 0 0
          else .locked next.2 (next.1.setWidth 15) (c + 32) (e + bad))

/-- WORD_RESULT and the gate: a RUNNING gate whose counters all stay within their maxima counts the word whole - bits,
errors by direction, symbols by distance, filter classes, bursts and bins - with its candidate offered to the slot; a
reached error limit, else bit limit, then ends it, and a stop or a lock loss closes the burst left open; a tally that fails
the test counts no bit and no error, offers nothing and ends the gate SATURATED; any other gate counts nothing
(R58 to R63, R66, R67, R70, R73, R98). -/
def Obligations.WordResultAccounting : Prop :=
  ∀ (s : State) (l : Lane) (rx : Reception) (above : List Bool) (written : Bool) (w : Word) (rest : List Bool)
      (src : Source) (last : BitVec 15) (c e : Nat),
    (s.lane l).chk.phase = .locked src last c e → (s.lane l).inputWord rx = some (w, rest) →
    ∃ (t : State) (exp rcv : Word) (wr : WordResult) (tally : Tally) (g g' : Counters),
      exec (.wordResult l rx ⟨above, written⟩) s = .next t ∧
      exp = (s.store.takeWord (s.lane l).chk.config.pattern src).1 ∧
      rcv = (s.lane l).chk.config.polarity.word w ∧
      wr = buildResult l (s.lane l).pam4 (s.lane l).chk.config.polarity last exp rcv ∧
      tally = buildTally s.filters s.log.lanes[l] (s.lane l) last wr ∧
      g = (s.lane l).gate.counters ∧ g' = (t.lane l).gate.counters ∧
      ((s.lane l).gate.state = .running → (g.add tally.inc).withinMax = true →
        g'.bits = g.bits + 32 ∧
        g'.errors = g.errors + ((List.range 32).filter fun i => exp.getMsbD i != rcv.getMsbD i).length ∧
        g'.onesToZero = g.onesToZero + ((List.range 32).filter fun i => exp.getMsbD i && !rcv.getMsbD i).length ∧
        g'.zerosToOne = g.zerosToOne + ((List.range 32).filter fun i => !exp.getMsbD i && rcv.getMsbD i).length ∧
        g'.symbols = g.symbols + tally.inc.symbols ∧ g'.d1 = g.d1 + tally.inc.d1 ∧ g'.d2 = g.d2 + tally.inc.d2 ∧
        g'.d3 = g.d3 + tally.inc.d3 ∧ g'.unmatched = g.unmatched + tally.inc.unmatched ∧
        g'.overlap = g.overlap + tally.inc.overlap ∧ g'.bursts = g.bursts + tally.inc.bursts ∧
        (∀ k : Fin 16, g'.filters[k] = g.filters[k] + tally.inc.filters[k]) ∧
        ((t.lane l).acct.tracker = tally.tracker → ∀ k : Fin 12, g'.bins[k] = g.bins[k] + tally.inc.bins[k]) ∧
        (∀ n run, tally.tracker = .opened n run → (t.lane l).acct.tracker = .closed →
          ∀ k : Fin 12, g'.bins[k] = g.bins[k] + tally.inc.bins[k] + if binTakes k n then 1 else 0) ∧
        (s.log.port ≠ .free ∨ tally.candidate = none → e + wr.bits.length ≤ (s.lane l).chk.config.t →
          g'.missed = g.missed + tally.inc.missed) ∧
        (∀ cand, tally.candidate = some cand → written = false ∨ e + wr.bits.length ≤ (s.lane l).chk.config.t →
          s.Offered t l cand) ∧
        (tally.candidate = none → e + wr.bits.length ≤ (s.lane l).chk.config.t → t.log = s.log) ∧
        ∀ cfg, (s.lane l).gate.settings = some cfg →
          (0 < cfg.errorLimit → cfg.errorLimit ≤ g'.errors →
            t.GateEnded l .errors s.uptime ∧ (t.lane l).gate.counts = (s.lane l).gate.counts ∧
            (t.lane l).acct.tracker = .closed) ∧
          ((cfg.errorLimit = 0 ∨ g'.errors < cfg.errorLimit) → 0 < cfg.bitLimit → cfg.bitLimit ≤ g'.bits →
            t.GateEnded l .bits s.uptime ∧ (t.lane l).gate.counts = (s.lane l).gate.counts ∧
            (t.lane l).acct.tracker = .closed) ∧
          ((cfg.errorLimit = 0 ∨ g'.errors < cfg.errorLimit) → (cfg.bitLimit = 0 ∨ g'.bits < cfg.bitLimit) →
            ((s.lane l).chk.config.t < e + wr.bits.length → (t.lane l).acct.tracker = .closed) ∧
            (e + wr.bits.length ≤ (s.lane l).chk.config.t →
              (t.lane l).acct = { tracker := tally.tracker, mark := tally.mark } ∧
              (t.lane l).gate = { (s.lane l).gate with
                counters := { g.add tally.inc with missed := g'.missed } }))) ∧
      ((s.lane l).gate.state = .running → (g.add tally.inc).withinMax = false →
        t.GateEnded l .saturated s.uptime ∧ t.flagSet l .saturated = true ∧
        (s.log.Settled → written = false ∨ e + wr.bits.length ≤ (s.lane l).chk.config.t → t.log = s.log) ∧
        (t.lane l).gate.counts = (s.lane l).gate.counts ∧ g'.bits = g.bits ∧ g'.errors = g.errors) ∧
      ((s.lane l).gate.state ≠ .running →
        (t.lane l).gate.state = (s.lane l).gate.state ∧
        (s.log.Settled → written = false ∨ e + wr.bits.length ≤ (s.lane l).chk.config.t → t.log = s.log) ∧
        g'.bits = g.bits ∧ g'.errors = g.errors)

/-- The laws of one word tally, whatever the word, the filters and the tracker before it: 32 bits; the directions, and
the filter classes, sum to the errors; PAM4 symbols sum to d1 + d2 + d3 and weigh d1 + 2 d2 + d3 errors, NRZ symbols are
the errors; and bursts opened plus those open before are bins filled plus those open after. Each errored bit counts
once, by the filters that match its lane, direction and context: unmatched for none, the filter's own for one, overlap
for more (R63, R77, R79); d1, d2, d3 count the PAM4 symbols by level distance on the lane (R51, R62). The tracker
follows the word bit by bit: errored bits open or extend a burst, counted up to 1025, more than G error-free bits close
it, and each burst that closes goes into the bin of its errored bits (R57, R64 to R66). Where the quota allows it, an
errored word in mode WORDS raises an ERROR_WORD candidate with the context of its first errored bit, and one that opens
a burst in mode BURSTS a BURST_START candidate with the ordinal of the first burst it opens and the context of the bit
that opens it - an errored bit with no burst open before it, or with more than G error-free bits since the last errored
one; no other raises one, and one raised at a full slot is a capture missed (R64, R65, R71 to R73). -/
def Obligations.WordTallyLaws : Prop :=
  ∀ (table : Vector (Option Filter) 16) (cap : CaptureLane) (x : LaneState) (l : Lane) (last : BitVec 15)
    (exp rcv : Word) (tally : Tally),
    tally = buildTally table cap x last (buildResult l x.pam4 x.chk.config.polarity last exp rcv) →
    tally.inc.bits = 32 ∧
    tally.inc.errors = ((List.range 32).filter fun i => exp.getMsbD i != rcv.getMsbD i).length ∧
    tally.inc.errors = tally.inc.onesToZero + tally.inc.zerosToOne ∧
    tally.inc.errors = tally.inc.filters.sum + tally.inc.unmatched + tally.inc.overlap ∧
    tally.inc.SymbolLaws x.pam4 ∧
    tally.inc.bursts + x.acct.tracker.openCount = tally.inc.bins.sum + tally.tracker.openCount ∧
    tally.inc.bursts ≤ tally.inc.errors ∧ tally.inc.bursts ≤ 32 ∧
    (0 < tally.inc.bursts ↔
      ∃ i, i < 32 ∧ x.acct.tracker.OpensAt x.chk.config.g (fun k => exp.getMsbD k != rcv.getMsbD k) i) ∧
    (∃ cls : Nat → FilterClass,
      (∀ i, i < 32 →
        (cls i = .unmatched ↔ ∀ k, ¬FilterMatches table l last exp i k) ∧
        (∀ k, cls i = .filter k ↔ ∀ j, FilterMatches table l last exp i j ↔ j = k) ∧
        (cls i = .overlap ↔ ∃ j k, j ≠ k ∧ FilterMatches table l last exp i j ∧ FilterMatches table l last exp i k)) ∧
      (∀ k : Fin 16, tally.inc.filters[k]
        = ((List.range 32).filter fun i => exp.getMsbD i != rcv.getMsbD i && cls i == .filter k).length) ∧
      tally.inc.unmatched
        = ((List.range 32).filter fun i => exp.getMsbD i != rcv.getMsbD i && cls i == .unmatched).length ∧
      tally.inc.overlap
        = ((List.range 32).filter fun i => exp.getMsbD i != rcv.getMsbD i && cls i == .overlap).length) ∧
    (x.pam4 = true → tally.inc.d1 = symbolsAt x.chk.config.polarity exp rcv 1 ∧
      tally.inc.d2 = symbolsAt x.chk.config.polarity exp rcv 2 ∧
      tally.inc.d3 = symbolsAt x.chk.config.polarity exp rcv 3) ∧
    (∃ tr : Nat → Tracker, tr 0 = x.acct.tracker ∧ tr 32 = tally.tracker ∧
      (∀ i, i < 32 → Tracker.Follows x.chk.config.g (exp.getMsbD i != rcv.getMsbD i) (tr i) (tr (i + 1))) ∧
      tally.inc.bursts = ((List.range 32).filter fun i => tr i == .closed && tr (i + 1) != .closed).length ∧
      ∀ b : Fin 12, tally.inc.bins[b] = ((List.range 32).filter fun i => tr (i + 1) == .closed &&
        match tr i with
        | .opened k _ => binTakes b k
        | .closed => false).length) ∧
    (tally.mark = true ↔ x.acct.mark = true ∨ 0 < tally.inc.errors) ∧
    (tally.candidate.isSome = true ↔ (cap.quota = 0 ∨ cap.quotaCount < cap.quota) ∧
      ((cap.mode = .words ∧ 0 < tally.inc.errors) ∨ (cap.mode = .bursts ∧ 0 < tally.inc.bursts))) ∧
    tally.inc.missed = (if tally.candidate.isSome = true ∧ cap.slot.isSome = true then 1 else 0) ∧
    ∀ cand, tally.candidate = some cand →
      cand.lane = l ∧ cand.elapsed = x.gate.counts.elapsed ∧ cand.bits = x.gate.counters.bits ∧
      ∃ (i : Nat) (ctx : BitVec 16), i < 32 ∧ exp.getMsbD i ≠ rcv.getMsbD i ∧
        (∀ k, k < 16 → ctx.getMsbD k = (last ++ exp).getMsbD (i + k)) ∧
        (cap.mode = .words → ∀ j, j < i → exp.getMsbD j = rcv.getMsbD j) ∧
        (cap.mode = .bursts →
          x.acct.tracker.OpensAt x.chk.config.g (fun k => exp.getMsbD k != rcv.getMsbD k) i ∧
          ∀ j, j < i → ¬x.acct.tracker.OpensAt x.chk.config.g (fun k => exp.getMsbD k != rcv.getMsbD k) j) ∧
        (cap.mode = .words → cand.body = .errorWord ctx exp rcv) ∧
        (cap.mode = .bursts → cand.body = .burstStart ctx exp rcv (x.gate.counters.bursts + 1))

/-! ### Measurement gates -/

/-- GATE_START, sent to the part or broadcast, with every other field one of its values: a confidence target that is
neither zero, with its flag clear, nor a valid figure is refused BAD_ARG (R89, R90, R109); else when a named gate is
active the request is refused GATE_BUSY, else when a named checker is OFF, LANE_OFF; else every named gate starts:
settings as applied with the checker's interval, counters at 0, stamps, first state by start mode and checker,
accounting closed, quota count 0. Nothing else changes but the queues; a broadcast is not answered (R89, R90, R91,
R145). That the end stamp of the gate before goes (log 37) and that the reply's settings leave out L (log 38) are the
model's choices. -/
def Obligations.GateStartStarts : Prop :=
  ∀ (s : State) (bcast : Bool) (tag : Byte) (b : LaneSet) (a : GateArgs),
    a.duration < 2 ^ 32 → a.bitLimit < 2 ^ 64 → a.errorLimit < 2 ^ 64 → a.armTimeout < 2 ^ 16 →
    a.target.mantissa < 2 ^ 16 → -128 ≤ a.target.exponent → a.target.exponent ≤ 127 → s.MayName b →
    s.line.Takes (requestFor 0x20 { broadcast := bcast, tag := tag, body := gateStartBody b a }) →
    (a.target ≠ .zero → a.target.valid = false →
      exec (.gateStart { broadcast := bcast, tag := tag, body := gateStartBody b a }) s
        = .next (if bcast then s.popRequest.pump else s.popRequest.replied 0x20 tag .badArg .none)) ∧
    (a.target = .zero ∨ a.target.valid = true →
    ((∃ l : Lane, b.getLsbD l.val = true ∧ (s.lane l).gate.state.active = true) →
      exec (.gateStart { broadcast := bcast, tag := tag, body := gateStartBody b a }) s
        = .next (if bcast then s.popRequest.pump else s.popRequest.replied 0x20 tag .gateBusy .none)) ∧
    ((∀ l : Lane, b.getLsbD l.val = true → (s.lane l).gate.state.active = false) →
      (∃ l : Lane, b.getLsbD l.val = true ∧ (s.lane l).chkState = .off) →
      exec (.gateStart { broadcast := bcast, tag := tag, body := gateStartBody b a }) s
        = .next (if bcast then s.popRequest.pump else s.popRequest.replied 0x20 tag .laneOff .none)) ∧
    ((∀ l : Lane, b.getLsbD l.val = true → (s.lane l).gate.state.active = false ∧ (s.lane l).chkState ≠ .off) →
      ∃ (t : State) (a' : GateArgs) (rows : List GateStartRow),
        exec (.gateStart { broadcast := bcast, tag := tag, body := gateStartBody b a }) s
          = .next (if bcast then t.pump else t.replied 0x20 tag (if a' = a then .ok else .adjusted) (.gateStart a' rows)) ∧
        t = { s.popRequest with lanes := t.lanes, log := t.log } ∧
        a' = { a with bitLimit := min (2 ^ 64 - 32) ((a.bitLimit + 31) / 32 * 32)
                      errorLimit := min (2 ^ 48 - 1) a.errorLimit } ∧
        rows = (lanesOf b).map (fun l => { lane := l, state := (t.lane l).gate.state, startStamp := s.uptime }) ∧
        t.log = { s.log with lanes := t.log.lanes } ∧
        ∀ l : Lane,
          (b.getLsbD l.val = false → t.lane l = s.lane l ∧ t.log.lanes[l] = s.log.lanes[l]) ∧
          (b.getLsbD l.val = true →
            t.log.lanes[l] = { s.log.lanes[l] with quotaCount := 0 } ∧
            ∃ first, (a.mode = .onLock → first = if (s.lane l).chkState = .locked then .running else .armed) ∧
              (a.mode = .now → first = if (s.lane l).chkState = .held then .paused else .running) ∧
              t.lane l = { s.lane l with
                acct := { tracker := .closed, mark := false }
                gate :=
                  { state := first, settings := some { toGateArgs := a', interval := (s.lane l).chk.config.interval },
                    startPattern := some (s.lane l).chk.config.pattern, counters := .zero, counts := .zero,
                    startStamp := some s.uptime, endStamp := none, result := (s.lane l).gate.result } })))

/-- What the end of a gate leaves, from the lane `x` before to `y` after, at uptime `now`: DONE with its end stamp, the
open burst in its bin, a marked interval counted (below the maximum), and a result record of the final counters and
figures; nothing else of the lane changes (R67, R69, R103, R104). GATE_STOP, sent to the part or broadcast, ends every
named active gate so, with reason STOPPED and a GATE notice, skips the others, and replies with the two sets (R102). -/
def Obligations.GateStopEndsGates : Prop :=
  ∀ (s : State) (bcast : Bool) (tag : Byte) (b : LaneSet), s.MayName b →
    s.line.Takes (requestFor 0x21 { broadcast := bcast, tag := tag, body := [b] }) →
    ∃ (t : State) (stopped skipped : LaneSet),
      exec (.gateStop { broadcast := bcast, tag := tag, body := [b] }) s = .next t ∧ SameBase s t ∧
      t.history = s.history ∧ t.margin = s.margin ∧ t.log = s.log ∧
      t.line.replies = s.line.replies ++ (if bcast then [] else
        [{ kind := 0x21, tag := tag, answer := { status := .ok, fields := .gateStop stopped skipped } }]) ∧
      ∀ l : Lane,
        (stopped.getLsbD l.val = true ↔ b.getLsbD l.val = true ∧ (s.lane l).gate.state.active = true) ∧
        (skipped.getLsbD l.val = true ↔ b.getLsbD l.val = true ∧ (s.lane l).gate.state.active = false) ∧
        (stopped.getLsbD l.val = false → t.lane l = s.lane l) ∧
        (stopped.getLsbD l.val = true →
          (s.line.enabled.getLsbD 1 = true → t.line.Announces (.gate l .stopped)) ∧
          ∃ (bins : Vector Nat 12) (r : ResultRecord),
            bins.sum = (s.lane l).gate.counters.bins.sum + (s.lane l).acct.tracker.openCount ∧
            (∀ k run, (s.lane l).acct.tracker = .opened k run → ∀ b : Fin 12,
              bins[b] = (s.lane l).gate.counters.bins[b] + if binTakes b k then 1 else 0) ∧
            ((s.lane l).acct.tracker = .closed → bins = (s.lane l).gate.counters.bins) ∧
            ((t.lane l).gate.counters = { (s.lane l).gate.counters with
              bins := bins, errIntervals := (t.lane l).gate.counters.errIntervals }) ∧
            ((s.lane l).gate.counters.errIntervals < 2 ^ 32 - 1 → (t.lane l).gate.counters.errIntervals
              = (s.lane l).gate.counters.errIntervals + if (s.lane l).acct.mark then 1 else 0) ∧
            t.lane l = { s.lane l with
              acct := { tracker := .closed, mark := false }
              gate := { (s.lane l).gate with
                state := .done, endStamp := some s.uptime, counters := (t.lane l).gate.counters, result := some r } } ∧
            r.lane = l ∧ r.reason = .stopped ∧ r.endStamp = s.uptime ∧
            (∀ n, (s.lane l).gate.startStamp = some n → r.startStamp = n) ∧
            r.counters = (t.lane l).gate.counters ∧ r.counts = (s.lane l).gate.counts ∧
            (∀ cfg, (s.lane l).gate.settings = some cfg → r.settings = cfg ∧
              r.bound = boundFigure r.counters.errors r.counters.bits cfg.level) ∧
            r.ratio = ratioFigure r.counters.errors r.counters.bits ∧ r.pattern = (s.lane l).chk.config.pattern ∧
            (r.patternChanged = true ↔ (s.lane l).gate.startPattern ≠ some (s.lane l).chk.config.pattern) ∧
            r.rate = (s.lane l).rate)

/-- GATE_TIMER_EXPIRY by gate state: none in IDLE and DONE (that one commanded there leaves only a queued frame to begin
is the model's choice, log 2); arm-wait and the arm timeout in ARMED; elapsed and unlocked ms,
the due interval, then the confidence and duration stops in RUNNING; paused ms in PAUSED; and SATURATED where elapsed or
paused ms stand at their maximum (R68, R93, R94, R95, R99, R100). -/
def Obligations.GateTimerExpiry : Prop :=
  (∀ (s : State) (l : Lane), (s.lane l).gate.state = .idle ∨ (s.lane l).gate.state = .done →
    exec (.gateTimerExpiry l) s = .next s.pump) ∧
  ∀ (s : State) (l : Lane) (cfg : GateSettings), (s.lane l).gate.settings = some cfg →
    ∃ t, exec (.gateTimerExpiry l) s = .next t ∧ SameBase s t ∧ (∀ k, k ≠ l → t.lane k = s.lane k) ∧
      t.log = s.log ∧ t.margin = s.margin ∧
      ((s.lane l).gate.state = .armed →
        (t.lane l).gate.counts = { (s.lane l).gate.counts with
          armWait := min (2 ^ 32 - 1) ((s.lane l).gate.counts.armWait + 1) } ∧
        (cfg.armTimeout = 0 ∨ (t.lane l).gate.counts.armWait < cfg.armTimeout → (t.lane l).gate.state = .armed) ∧
        (0 < cfg.armTimeout → cfg.armTimeout ≤ (t.lane l).gate.counts.armWait →
          (t.lane l).gate.state = .done ∧ ∃ r, (t.lane l).gate.result = some r ∧ r.reason = .armTimeout)) ∧
      ((s.lane l).gate.state = .running → (s.lane l).gate.counts.elapsed = 2 ^ 32 - 1 →
        (t.lane l).gate.state = .done ∧ (t.lane l).gate.counts = (s.lane l).gate.counts ∧
        t.flagSet l .saturated = true ∧ ∃ r, (t.lane l).gate.result = some r ∧ r.reason = .saturated) ∧
      ((s.lane l).gate.state = .running → (s.lane l).gate.counts.elapsed ≠ 2 ^ 32 - 1 →
        (t.lane l).gate.counts = { (s.lane l).gate.counts with
          elapsed := (s.lane l).gate.counts.elapsed + 1
          unlocked := (s.lane l).gate.counts.unlocked + if (s.lane l).chkState = .locked then 0 else 1 } ∧
        (t.lane l).gate.counters.bits = (s.lane l).gate.counters.bits ∧
        (t.lane l).gate.counters.errors = (s.lane l).gate.counters.errors ∧
        (t.lane l).gate.counters.cleanIntervals = (s.lane l).gate.counters.cleanIntervals +
          (if ((s.lane l).gate.counts.elapsed + 1) % cfg.interval = 0 ∧ (s.lane l).acct.mark = false then 1 else 0) ∧
        (((s.lane l).gate.counts.elapsed + 1) % cfg.interval = 0 →
          (t.lane l).gate.counters.errIntervals = (s.lane l).gate.counters.errIntervals +
            (if (s.lane l).acct.mark then 1 else 0) ∧ (t.lane l).acct.mark = false) ∧
        (cfg.target.isZero = false →
          confident (s.lane l).gate.counters.errors (s.lane l).gate.counters.bits cfg.level cfg.target = true →
          (t.lane l).gate.state = .done ∧ ∃ r, (t.lane l).gate.result = some r ∧ r.reason = .confident) ∧
        ((cfg.target.isZero = true ∨
            confident (s.lane l).gate.counters.errors (s.lane l).gate.counters.bits cfg.level cfg.target = false) →
          ((0 < cfg.duration ∧ cfg.duration = (s.lane l).gate.counts.elapsed + 1 →
            (t.lane l).gate.state = .done ∧ ∃ r, (t.lane l).gate.result = some r ∧ r.reason = .time) ∧
          (cfg.duration = 0 ∨ cfg.duration ≠ (s.lane l).gate.counts.elapsed + 1 →
            (t.lane l).gate.state = .running ∧ (t.lane l).acct.tracker = (s.lane l).acct.tracker)))) ∧
      ((s.lane l).gate.state = .paused → (s.lane l).gate.counts.paused ≠ 2 ^ 32 - 1 →
        t.lane l = { s.lane l with gate := { (s.lane l).gate with counts := { (s.lane l).gate.counts with
          paused := (s.lane l).gate.counts.paused + 1 } } }) ∧
      ((s.lane l).gate.state = .paused → (s.lane l).gate.counts.paused = 2 ^ 32 - 1 →
        (t.lane l).gate.state = .done ∧ (t.lane l).gate.counts = (s.lane l).gate.counts ∧
        t.flagSet l .saturated = true ∧ ∃ r, (t.lane l).gate.result = some r ∧ r.reason = .saturated)

/-- GATE_READ: SNAPSHOT reports the live gate with its figures, and the time to confidence at the gate's rate, which a
DONE gate keeps in its record (without an open burst, 0 errored bits of one: DESIGN CHOICE, log 36); RESULT the record
or NO_RESULT (R105, R120). COMBINE sums the errors and bits of the named lanes that have data, with the figures of the
sums, and answers NO_RESULT, with its fields, when none has (R106, R121). Nothing changes but the queues. -/
def Obligations.GateReadAndCombine : Prop :=
  ∀ (s : State) (tag : Byte),
    (∀ l : Lane, s.Exists l →
      (s.TakesOwn 0x22 tag [BitVec.ofNat 8 l.val, 0] → ∃ f : SnapshotFields,
        exec (.gateRead (own tag [BitVec.ofNat 8 l.val, 0])) s
          = .next (s.popRequest.replied 0x22 tag .ok (.gateSnapshot f)) ∧
        f.state = (s.lane l).gate.state ∧ f.uptime = s.uptime ∧ f.startStamp = (s.lane l).gate.startStamp ∧
        f.settings = (s.lane l).gate.settings ∧ f.counters = (s.lane l).gate.counters ∧
        f.counts = (s.lane l).gate.counts ∧ f.mark = (s.lane l).acct.mark ∧
        ((s.lane l).acct.tracker = .closed → f.burstOpen = false ∧ f.burstErrors = 0) ∧
        (∀ k run, (s.lane l).acct.tracker = .opened k run → f.burstOpen = true ∧ f.burstErrors = k) ∧
        f.ratio = ratioFigure f.counters.errors f.counters.bits ∧
        ∀ cfg, (s.lane l).gate.settings = some cfg →
          f.bound = boundFigure f.counters.errors f.counters.bits cfg.level ∧
          (cfg.target.isZero = true → f.remaining = none) ∧
          (cfg.target.isZero = false → ∀ rate : Fin 4,
            ((s.lane l).gate.state ≠ .done → rate = (s.lane l).rate) →
            ((s.lane l).gate.state = .done → ∃ r, (s.lane l).gate.result = some r ∧ r.rate = rate) →
            f.remaining = some (timeToConfidence f.counters.errors f.counters.bits cfg.level cfg.target rate))) ∧
      (s.TakesOwn 0x22 tag [BitVec.ofNat 8 l.val, 1] →
        (∀ r, (s.lane l).gate.result = some r → exec (.gateRead (own tag [BitVec.ofNat 8 l.val, 1])) s
          = .next (s.popRequest.replied 0x22 tag .ok (.gateResult r))) ∧
        ((s.lane l).gate.result = none → exec (.gateRead (own tag [BitVec.ofNat 8 l.val, 1])) s
          = .next (s.popRequest.replied 0x22 tag .noResult .none)))) ∧
    ∀ (b : LaneSet) (fromResult : Bool) (level : Level) (data : Lane → Option (Nat × Nat)), s.MayName b →
      s.TakesOwn 0x23 tag ([b, sourceCode fromResult] ++ bytesOf 1 level.code) →
      (∀ l, data l = if fromResult then (s.lane l).gate.result.map fun r => (r.counters.errors, r.counters.bits)
        else if (s.lane l).gate.state = .idle then none
        else some ((s.lane l).gate.counters.errors, (s.lane l).gate.counters.bits)) →
      ∃ (e n : Nat) (included skipped : LaneSet),
        exec (.combine (own tag ([b, sourceCode fromResult] ++ bytesOf 1 level.code))) s
          = .next (s.popRequest.replied 0x23 tag (if included = 0 then .noResult else .ok)
              (.combine e n (ratioFigure e n) (boundFigure e n level) included skipped)) ∧
        e = (((lanesOf b).filterMap data).map Prod.fst).sum ∧ n = (((lanesOf b).filterMap data).map Prod.snd).sum ∧
        ∀ l : Lane, (included.getLsbD l.val = true ↔ b.getLsbD l.val = true ∧ (data l).isSome = true) ∧
          (skipped.getLsbD l.val = true ↔ b.getLsbD l.val = true ∧ data l = none)

/-! ### Error-rate arithmetic -/

/-- R112 whole: the ratio figure of E errors in N bits. -/
def Obligations.RatioFigureRoundsDown : Prop :=
  ∀ e n : Nat, 1 ≤ n → e ≤ n → n ≤ 2 ^ 64 - 1 →
    (e = 0 → ratioFigure e n = .zero) ∧
    (1 ≤ e → ∃ k m : Nat, ratioFigure e n = { mantissa := m, exponent := -(k : Int), undef := false } ∧
      n ≤ e * 10 ^ k ∧ e * 10 ^ k < 10 * n ∧ m = e * 10 ^ (3 + k) / n ∧ 1000 ≤ m ∧ m ≤ 9999 ∧ k ≤ 20 ∧
      (k = 0 ↔ e = n) ∧ (e = n → m = 1000) ∧ m * n ≤ e * 10 ^ (3 + k) ∧ e * 10 ^ (3 + k) < (m + 1) * n)

/-- The bound figure stands at or above the exact bound Q / (1000 N), at most one unit of its fourth digit above, with its
mantissa from 1000 to 9999 and its exponent from -19 to 0 (R115, R116). -/
def Obligations.BoundFigureRoundsUp : Prop :=
  ∀ (e n : Nat) (cl : Level), 1 ≤ n → e ≤ n → n ≤ 2 ^ 64 - 1 →
    ∃ k m : Nat, boundFigure e n cl = { mantissa := m, exponent := -(k : Int), undef := false } ∧
      1000 ≤ m ∧ m ≤ 9999 ∧ k ≤ 19 ∧
      countBound e cl * 10 ^ (3 + k) ≤ m * (1000 * n) ∧ (m - 1) * (1000 * n) < countBound e cl * 10 ^ (3 + k)

/-- The bound figure is greater than the ratio figure, for any E and N with 1 ≤ N and E ≤ N, at every level; at N = 0 both
are undefined and neither compares (R111, R117). -/
def Obligations.BoundAboveRatio : Prop :=
  ∀ (e n : Nat) (cl : Level),
    (1 ≤ n → e ≤ n → n ≤ 2 ^ 64 - 1 → (ratioFigure e n).below (boundFigure e n cl) = true) ∧
    ratioFigure e 0 = .undefined ∧ boundFigure e 0 cl = .undefined ∧
    (ratioFigure e 0).below (boundFigure e 0 cl) = false ∧ (boundFigure e 0 cl).below (ratioFigure e 0) = false

/-- The confidence stop holds exactly when the bound is below the target, both as exact fractions: never with no bit
compared, and, once it holds, for every larger number of bits; the bits needed are the least number at which it holds; and
the time to confidence is the ms that the bits still wanting take at the lane's rate, rounded up and capped (R118, R119,
R120). -/
def Obligations.ConfidenceStopAndTime : Prop :=
  ∀ (e : Nat) (cl : Level) (f : Figure), f.valid = true →
    (∀ n, confident e n cl f = true ↔
      countBound e cl * 10 ^ (3 - f.exponent).toNat < 1000 * n * f.mantissa) ∧
    confident e 0 cl f = false ∧
    (∀ n m, n ≤ m → confident e n cl f = true → confident e m cl f = true) ∧
    confident e (bitsNeeded e cl f) cl f = true ∧
    (∀ n, n < bitsNeeded e cl f → confident e n cl f = false) ∧
    ∀ (n : Nat) (rate : Fin 4) (ms : Nat),
      bitsNeeded e cl f - n ≤ ms * bitsPerMs rate →
      (ms = 0 ∨ (ms - 1) * bitsPerMs rate < bitsNeeded e cl f - n) →
      timeToConfidence e n cl f rate = { ms := min (2 ^ 64 - 1) ms, capped := decide (2 ^ 64 - 1 < ms) }

/-! ### Context filters -/

/-- FILTER_SET of a filter with a value bit under its mask, no direction or no lane is refused BAD_FILTER; a change that
reaches an active gate, or replaces a filter that does, is refused FILTER_IN_USE; any other stores the filter. FILTER_CLEAR
of filters none of which reaches an active gate makes them invalid and reports which were valid. No other filter changes,
and nothing else but the queues. A FILTER_SET that repeats the present definition is accepted and changes nothing, whether
the filter reaches an active gate or not (R80, R81, R82). -/
def Obligations.FilterSetAndClear : Prop :=
  ∀ (s : State) (tag : Byte),
    (∀ (k : Fin 16) (f : Filter), s.TakesOwn 0x18 tag (filterSetBody k f) →
      (∀ l : Lane, f.lanes.getLsbD l.val = true → s.Exists l) →
      ((f.value &&& f.mask ≠ 0 ∨ f.directions = 0 ∨ f.lanes = 0) →
        exec (.filterSet (own tag (filterSetBody k f))) s = .next (s.popRequest.replied 0x18 tag .badFilter .none)) ∧
      (f.value &&& f.mask = 0 → f.directions ≠ 0 → f.lanes ≠ 0 →
        (∀ l : Lane, (f.lanes.getLsbD l.val = true ∨ ∃ g, s.filters[k] = some g ∧ g.lanes.getLsbD l.val = true) →
          (s.lane l).gate.state.active = false) →
        exec (.filterSet (own tag (filterSetBody k f))) s
          = .next (({ s.popRequest with filters := s.filters.set k (some f) } : State).replied 0x18 tag .ok
              (.filterSet k.val f f.unmatchable))) ∧
      (f.value &&& f.mask = 0 → f.directions ≠ 0 → f.lanes ≠ 0 → s.filters[k] = some f →
        exec (.filterSet (own tag (filterSetBody k f))) s
          = .next (s.popRequest.replied 0x18 tag .ok (.filterSet k.val f f.unmatchable))) ∧
      (f.value &&& f.mask = 0 → f.directions ≠ 0 → f.lanes ≠ 0 → s.filters[k] ≠ some f →
        (∃ l : Lane, (f.lanes.getLsbD l.val = true ∨ ∃ g, s.filters[k] = some g ∧ g.lanes.getLsbD l.val = true) ∧
          (s.lane l).gate.state.active = true) →
        exec (.filterSet (own tag (filterSetBody k f))) s
          = .next (s.popRequest.replied 0x18 tag .filterInUse .none))) ∧
    ∀ set : BitVec 16, set ≠ 0 → s.TakesOwn 0x19 tag (bytes16 set) →
      (∀ (k : Fin 16) (l : Lane) (g : Filter), set.getLsbD k.val = true → s.filters[k] = some g →
        g.lanes.getLsbD l.val = true → (s.lane l).gate.state.active = false) →
      ∃ (table : Vector (Option Filter) 16) (cleared already : BitVec 16),
        exec (.filterClear (own tag (bytes16 set))) s
          = .next (({ s.popRequest with filters := table } : State).replied 0x19 tag .ok
              (.filterClear cleared already)) ∧
        ∀ k : Fin 16, table[k] = (if set.getLsbD k.val then none else s.filters[k]) ∧
          (cleared.getLsbD k.val = true ↔ set.getLsbD k.val = true ∧ s.filters[k].isSome = true) ∧
          (already.getLsbD k.val = true ↔ set.getLsbD k.val = true ∧ s.filters[k] = none)

/-- FILTER_PROBE reports the filters that match a lane, direction and context - those whose lane set and direction set
hold them and whose value agrees with the context outside the mask - and the one class they give: unmatched for none, the
filter itself for one, overlap for more (R63, R77, R79, R85). Nothing changes but the queues. -/
def Obligations.FilterProbeClassifies : Prop :=
  ∀ (s : State) (tag : Byte) (l : Lane) (d : Direction) (ctx : BitVec 16), s.Exists l →
    s.TakesOwn 0x1B tag ([BitVec.ofNat 8 l.val, d.code] ++ bytes16 ctx) →
    ∃ (m : BitVec 16) (cls : FilterClass),
      exec (.filterProbe (own tag ([BitVec.ofNat 8 l.val, d.code] ++ bytes16 ctx))) s
        = .next (s.popRequest.replied 0x1B tag .ok (.filterProbe m cls)) ∧
      (∀ k : Fin 16, m.getLsbD k.val = true ↔ ∃ f, s.filters[k] = some f ∧ f.lanes.getLsbD l.val = true ∧
        f.directions.getLsbD d.bit = true ∧
        ∀ i : Nat, i < 16 → f.mask.getLsbD i = false → ctx.getLsbD i = f.value.getLsbD i) ∧
      (cls = .unmatched ↔ m = 0) ∧ (∀ k : Fin 16, cls = .filter k ↔ m = 1#16 <<< k.val) ∧
      (cls = .overlap ↔ ∃ i j : Fin 16, i ≠ j ∧ m.getLsbD i.val = true ∧ m.getLsbD j.val = true)

/-! ### Margin unit -/

/-- SWEEP_SET: the plan takes the eleven values, adjusted in the order of R130, whatever the unit is doing; the state, and
the copy a sweep runs under, stay; the reply carries the plan and its offsets (R129, R130). -/
def Obligations.SweepSetStoresPlan : Prop :=
  ∀ (s : State) (tag : Byte) (p : Plan),
    -128 ≤ p.start → p.start ≤ 127 → p.step < 256 → p.count < 256 → p.dwell < 2 ^ 32 → p.limit < 2 ^ 32 →
    p.lockWait < 2 ^ 16 → s.MayName p.lanes → s.TakesOwn 0x28 tag (sweepSetBody p) →
    ∃ a : Plan,
      exec (.sweepSet (own tag (sweepSetBody p))) s
        = .next (({ s.popRequest with margin := { s.margin with plan := a } } : State).replied 0x28 tag
            (if a = p then .ok else .adjusted)
            (.sweepSet a ((List.range a.count).map fun i => a.start + (i : Int) * (a.step : Int)))) ∧
      a = { p with start := a.start, step := a.step, count := a.count, dwell := a.dwell, lockWait := a.lockWait } ∧
      a.start = max (-32) (min 31 p.start) ∧ a.step = max 1 (min 16 p.step) ∧
      1 ≤ a.count ∧ a.count ≤ max 1 (min 64 p.count) ∧
      a.start + ((a.count - 1 : Nat) : Int) * (a.step : Int) ≤ 31 ∧
      (a.count < max 1 (min 64 p.count) → 31 < a.start + (a.count : Int) * (a.step : Int)) ∧
      a.dwell = max 64 (min (2 ^ 32 - 32) ((p.dwell + 31) / 32 * 32)) ∧ a.lockWait = min 1000 p.lockWait

/-- SPOT_START by state: the spot begins with its settings adjusted, in SETTLE with nothing counted and the sampler at its
place; IDLE and SPOT become SPOT, SWEEP and FORCED_SPOT become FORCED_SPOT with the sweep kept, SPOT_THEN_SWEEP keeps its
waiting sweep; tables, summaries, spot record, plan and pass counter stay (R134, R137). -/
def Obligations.SpotStartByState : Prop :=
  ∀ (s : State) (tag : Byte) (ps : PointSettings),
    -128 ≤ ps.offset → ps.offset ≤ 127 → ps.dwell < 2 ^ 32 → ps.limit < 2 ^ 32 → ps.lockWait < 2 ^ 16 →
    s.Exists ps.lane → s.TakesOwn 0x2B tag (spotStartBody ps) →
    ∃ (a : PointSettings) (p : Point) (m : MarginState),
      exec (.spotStart (own tag (spotStartBody ps))) s
        = .next (({ s.popRequest with margin := { s.margin with
              state := m
              sampler := some { lane := a.lane, axis := a.axis, eye := a.eye, offset := a.offset } } } : State).replied
            0x2B tag (if a = ps then .ok else .adjusted) (.spotStart a m.name)) ∧
      a = { ps with
        offset := max (-32) (min 31 ps.offset)
        dwell := max 64 (min (2 ^ 32 - 32) ((ps.dwell + 31) / 32 * 32))
        lockWait := min 1000 ps.lockWait } ∧
      p = { settings := a, phase := .settle false, bits := 0, errors := 0 } ∧
      (s.margin.state = .idle → m = .spot p) ∧
      (∀ q, s.margin.state = .spot q → m = .spot p) ∧
      (∀ q sw, s.margin.state = .sweep q sw → m = .forcedSpot p sw) ∧
      (∀ q sw, s.margin.state = .forcedSpot q sw → m = .forcedSpot p sw) ∧
      ∀ q w, s.margin.state = .spotThenSweep q w → m = .spotThenSweep p w

/-- SWEEP_START by state: IDLE begins the plan's first point under the next pass number with that lane's table rebuilt;
SPOT, FORCED_SPOT and SPOT_THEN_SWEEP let the spot go on and the plan wait; SWEEP restarts under its present pass with the
tables of every named lane rebuilt (R131, R132, R138). -/
def Obligations.SweepStartByState : Prop :=
  ∀ (s : State) (tag : Byte), s.TakesOwn 0x29 tag [] →
    ∃ m : Margin,
      exec (.sweepStart (own tag [])) s
        = .next (({ s.popRequest with margin := m } : State).replied 0x29 tag .ok
            (.sweepStart m.state.name s.margin.plan)) ∧
      m.plan = s.margin.plan ∧ m.summaries = s.margin.summaries ∧ m.spot = s.margin.spot ∧
      (∀ l, s.margin.state = .idle → LowestOf s.margin.plan.lanes l →
        m.passCounter = (if s.margin.passCounter < 2 ^ 32 - 1 then s.margin.passCounter + 1 else 1) ∧
        m.StandsAt s.margin.plan l 0 m.passCounter ∧ m.tables[l].RebuiltFor s.margin.plan m.passCounter ∧
        ∀ k : Lane, k ≠ l → m.tables[k] = s.margin.tables[k]) ∧
      (∀ p sw l, s.margin.state = .sweep p sw → LowestOf s.margin.plan.lanes l →
        m.passCounter = s.margin.passCounter ∧ m.StandsAt s.margin.plan l 0 sw.pass ∧
        ∀ k : Lane, if s.margin.plan.lanes.getLsbD k.val then m.tables[k].RebuiltFor s.margin.plan sw.pass
          else m.tables[k] = s.margin.tables[k]) ∧
      ∀ p, s.margin.state = .spot p ∨ (∃ sw, s.margin.state = .forcedSpot p sw) ∨
          (∃ w, s.margin.state = .spotThenSweep p w) →
        m = { s.margin with state := .spotThenSweep p s.margin.plan }

/-- SWEEP_STOP is accepted in every state: the unit becomes IDLE with the sampler home, a SPOT notice STOPPED is queued for a
spot in progress and then a SWEEP notice STOPPED for a sweep that had begun, and no other; the reply says which there were;
tables, summaries, spot record, plan and pass counter, and everything outside the unit, stay (R139). That on a free line the
reply begins before the STOPPED notices queued by the same action is the model's reading (DEDUCED, log 5). -/
def Obligations.SweepStopByState : Prop :=
  ∀ (s : State) (tag : Byte), s.TakesOwn 0x2A tag [] →
    ∃ (line : ControlLine) (spot sweep : Bool),
      exec (.sweepStop (own tag [])) s
        = .next (({ s.popRequest with
            margin := { s.margin with state := .idle, sampler := none }, line := line } : State).replied 0x2A tag .ok
            (.sweepStop spot sweep)) ∧
      (s.margin.state = .idle → line = s.popRequest.line ∧ spot = false ∧ sweep = false) ∧
      (∀ p, s.margin.state = .spot p ∨ (∃ w, s.margin.state = .spotThenSweep p w) →
        line = s.popRequest.line.queueNotice (.spot .stopped p.settings.lane p.settings.offset none) ∧
        spot = true ∧ sweep = false) ∧
      (∀ p sw, s.margin.state = .sweep p sw →
        line = s.popRequest.line.queueNotice (.sweep .stopped sw.pass) ∧ spot = false ∧ sweep = true) ∧
      ∀ p sw, s.margin.state = .forcedSpot p sw →
        line = (s.popRequest.line.queueNotice (.spot .stopped p.settings.lane p.settings.offset none)).queueNotice
          (.sweep .stopped sw.pass) ∧ spot = true ∧ sweep = true

/-- SETTLE_EXPIRY: a point in SETTLE goes to NO_LOCK when disturbed, when its checker is OFF or HELD, or when it is unlocked
with a lock-wait of 0; to DWELL when its checker is LOCKED, passing over a word in progress; else to WAIT_LOCK.
LOCK_WAIT_EXPIRY: a point in WAIT_LOCK finishes with NO_LOCK (R124, R125). That either leaves only a queued frame to begin
in another phase or without a point (log 2), and that the command says whether a word is in progress (log 12), are the
model's choices. A comparison word of the point's lane in DWELL, as WORD_RESULT brings it, adds 32 bits and its errors and
finishes by verdict mode, or is passed over (R126). A transition of the checker of the point's lane marks a settle disturbed
when it enters OFF or HELD, begins the dwell of a waiting point when it enters LOCKED, and gives NO_LOCK when it takes a
waiting point to OFF or HELD or a dwelling point out of LOCKED (R124, R125, R127, R142). -/
def Obligations.PointPhases : Prop :=
  (∀ (s : State) (midWord : Bool),
    (s.margin.state.point = none → exec (.settleExpiry midWord) s = .next s.pump ∧ exec .lockWaitExpiry s = .next s.pump) ∧
    ∀ p, s.margin.state.point = some p →
      (∀ d chk, p.phase = .settle d → (s.lane p.settings.lane).chkState = chk →
        exec .lockWaitExpiry s = .next s.pump ∧
        (d = true ∨ chk = .off ∨ chk = .held ∨ (chk ≠ .locked ∧ p.settings.lockWait = 0) →
          exec (.settleExpiry midWord) s = .next (s.finishPoint .noLock).pump) ∧
        (d = false → chk = .locked → exec (.settleExpiry midWord) s
          = .next (s.setPoint { p with phase := .dwell midWord }).pump) ∧
        (d = false → chk ≠ .off → chk ≠ .held → chk ≠ .locked → 0 < p.settings.lockWait →
          exec (.settleExpiry midWord) s = .next (s.setPoint { p with phase := .waitLock }).pump)) ∧
      (p.phase = .waitLock → exec (.settleExpiry midWord) s = .next s.pump ∧
        exec .lockWaitExpiry s = .next (s.finishPoint .noLock).pump) ∧
      ∀ d, p.phase = .dwell d → exec (.settleExpiry midWord) s = .next s.pump ∧ exec .lockWaitExpiry s = .next s.pump) ∧
  (∀ (s : State) (l : Lane) (left entered : CheckerState),
    (s.margin.state.point = none → s.marginTransition l left entered = s) ∧
    ∀ p, s.margin.state.point = some p →
      (p.settings.lane ≠ l → s.marginTransition l left entered = s) ∧
      (p.settings.lane = l →
        (∀ d, p.phase = .settle d → s.marginTransition l left entered =
          if entered = .off ∨ entered = .held then s.setPoint { p with phase := .settle true } else s) ∧
        (p.phase = .waitLock → s.marginTransition l left entered =
          if entered = .locked then s.setPoint { p with phase := .dwell false }
          else if entered = .off ∨ entered = .held then s.finishPoint .noLock else s) ∧
        ∀ d, p.phase = .dwell d → s.marginTransition l left entered =
          if left = .locked then s.finishPoint .noLock else s)) ∧
  (∀ (s : State) (l : Lane) (n : Nat), s.margin.state.point = none → s.dwellWord l n = s) ∧
  ∀ (s : State) (l : Lane) (n : Nat) (p q : Point), s.margin.state.point = some p →
    q = { p with bits := p.bits + 32, errors := p.errors + n } →
    (p.settings.lane ≠ l ∨ (∃ d, p.phase = .settle d) ∨ p.phase = .waitLock → s.dwellWord l n = s) ∧
    (p.settings.lane = l → p.phase = .dwell true → s.dwellWord l n = s.setPoint { p with phase := .dwell false }) ∧
    (p.settings.lane = l → p.phase = .dwell false →
      (p.settings.mode = .count → q.bits < p.settings.dwell → s.dwellWord l n = s.setPoint q) ∧
      (p.settings.mode = .count → p.settings.dwell ≤ q.bits → s.dwellWord l n
        = (s.setPoint q).finishPoint (if q.errors ≤ p.settings.limit then .pass else .fail)) ∧
      (p.settings.mode = .limit → p.settings.limit < q.errors → s.dwellWord l n = (s.setPoint q).finishPoint .fail) ∧
      (p.settings.mode = .limit → q.errors ≤ p.settings.limit → p.settings.dwell ≤ q.bits →
        s.dwellWord l n = (s.setPoint q).finishPoint .pass) ∧
      (p.settings.mode = .limit → q.errors ≤ p.settings.limit → q.bits < p.settings.dwell →
        s.dwellWord l n = s.setPoint q))

/-- The finish of a spot, by state: its outcome replaces the spot record and a SPOT notice COMPLETE is queued; SPOT becomes
IDLE; FORCED_SPOT resumes the sweep at its interrupted point, begun afresh, with tables and pass kept; SPOT_THEN_SWEEP
begins the waiting sweep under the next pass (R135, R140, R141). -/
def Obligations.SpotFinishes : Prop :=
  ∀ (s : State) (v : Verdict) (p : Point), ∃ t : State, s.finishPoint v = t ∧
    ((s.margin.state = .spot p ∨ (∃ sw, s.margin.state = .forcedSpot p sw) ∨
        (∃ w, s.margin.state = .spotThenSweep p w)) →
      t = { s with margin := t.margin, line := s.line.queueNotice (.spot .complete p.settings.lane p.settings.offset
        (some { verdict := v, bits := p.bits, errors := p.errors })) } ∧
      t.margin.spot = some { lane := p.settings.lane, axis := p.settings.axis, eye := p.settings.eye,
                             offset := p.settings.offset, dwell := p.settings.dwell, mode := p.settings.mode,
                             limit := p.settings.limit, bits := p.bits, errors := p.errors, verdict := v } ∧
      t.margin.plan = s.margin.plan ∧ t.margin.summaries = s.margin.summaries) ∧
    (s.margin.state = .spot p → t.margin.state = .idle ∧ t.margin.sampler = none ∧
      t.margin.passCounter = s.margin.passCounter ∧ t.margin.tables = s.margin.tables) ∧
    (∀ sw, s.margin.state = .forcedSpot p sw → t.margin.StandsAt sw.plan sw.lane sw.index sw.pass ∧
      t.margin.passCounter = s.margin.passCounter ∧ t.margin.tables = s.margin.tables) ∧
    ∀ w l, s.margin.state = .spotThenSweep p w → LowestOf w.lanes l →
      t.margin.passCounter = (if s.margin.passCounter < 2 ^ 32 - 1 then s.margin.passCounter + 1 else 1) ∧
      t.margin.StandsAt w l 0 t.margin.passCounter ∧ t.margin.tables[l].RebuiltFor w t.margin.passCounter ∧
      ∀ k : Lane, k ≠ l → t.margin.tables[k] = s.margin.tables[k]

/-- The finish of a sweep point: its outcome goes into its entry and no other; then the lane's next point begins, or the
lane's summary - the longest run of PASS in the table as it then stands - is computed and the next named lane begins with
its table rebuilt, or the pass is complete: a SWEEP notice, and IDLE or, continuous, the next pass (R132, R133, R140,
R141). -/
def Obligations.SweepPointFinishes : Prop :=
  ∀ (s : State) (v : Verdict) (p : Point) (sw : Sweep), s.margin.state = .sweep p sw → sw.index < 64 →
    ∃ (t : State) (written : PointTable) (es : EyeSummary),
      s.finishPoint v = t ∧ t = { s with margin := t.margin, line := t.line } ∧
      t.margin.plan = s.margin.plan ∧ t.margin.spot = s.margin.spot ∧
      written.count = s.margin.tables[sw.lane].count ∧
      (∀ i : Fin 64, written.entries[i] =
        if i.val = sw.index then
          { s.margin.tables[sw.lane].entries[i] with bits := p.bits, errors := p.errors, verdict := v }
        else s.margin.tables[sw.lane].entries[i]) ∧
      (sw.index + 1 < sw.plan.count →
        t.line = s.line ∧ t.margin.StandsAt sw.plan sw.lane (sw.index + 1) sw.pass ∧
        t.margin.tables = s.margin.tables.set sw.lane written ∧ t.margin.summaries = s.margin.summaries ∧
        t.margin.passCounter = s.margin.passCounter) ∧
      (sw.plan.count ≤ sw.index + 1 →
        es.Describes written sw.plan.step sw.pass ∧
        t.margin.summaries = s.margin.summaries.set sw.lane (some es) ∧
        (∀ l : Lane, sw.plan.lanes.getLsbD l.val = true → sw.lane.val < l.val →
          (∀ k : Lane, sw.plan.lanes.getLsbD k.val = true → sw.lane.val < k.val → l.val ≤ k.val) →
          t.line = s.line ∧ t.margin.StandsAt sw.plan l 0 sw.pass ∧ t.margin.tables[l].RebuiltFor sw.plan sw.pass ∧
          (∀ k : Lane, k ≠ l → t.margin.tables[k] = (s.margin.tables.set sw.lane written)[k]) ∧
          t.margin.passCounter = s.margin.passCounter) ∧
        ((∀ k : Lane, sw.plan.lanes.getLsbD k.val = true → k.val ≤ sw.lane.val) →
          t.line = s.line.queueNotice (.sweep .complete sw.pass) ∧
          (sw.plan.continuous = false → t.margin.state = .idle ∧ t.margin.sampler = none ∧
            t.margin.tables = s.margin.tables.set sw.lane written ∧ t.margin.passCounter = s.margin.passCounter) ∧
          (∀ l, sw.plan.continuous = true → LowestOf sw.plan.lanes l →
            t.margin.passCounter = (if s.margin.passCounter < 2 ^ 32 - 1 then s.margin.passCounter + 1 else 1) ∧
            t.margin.StandsAt sw.plan l 0 t.margin.passCounter ∧
            t.margin.tables[l].RebuiltFor sw.plan t.margin.passCounter ∧
            ∀ k : Lane, k ≠ l → t.margin.tables[k] = (s.margin.tables.set sw.lane written)[k])))

/-! ### Capture log -/

/-- The requests that set, read out and clear the capture log: CAPTURE_SET gives the named lanes mode and quota and reports
their quota counts; LOG_SET takes the policies and the clamped watermark; LOG_READ takes the oldest records, 1 to 6 as
asked, and clears the full mark below 512; LOG_CLEAR removes every record and keeps the numbering. Nothing else changes but
the queues (R145, R154, R155, R156). -/
def Obligations.CaptureAndLogRequests : Prop :=
  ∀ (s : State) (tag : Byte),
    (∀ (b : LaneSet) (mode : CaptureMode) (quota : Nat), quota < 2 ^ 16 → s.MayName b →
      s.TakesOwn 0x30 tag ([b, mode.code] ++ bytesOf 2 quota) →
      ∃ lanes : Vector CaptureLane 8,
        exec (.captureSet (own tag ([b, mode.code] ++ bytesOf 2 quota))) s
          = .next (({ s.popRequest with log := { s.log with lanes := lanes } } : State).replied 0x30 tag .ok
              (.captureSet mode quota ((lanesOf b).map fun l => (l, s.log.lanes[l].quotaCount)))) ∧
        ∀ l : Lane, lanes[l] = if b.getLsbD l.val then { s.log.lanes[l] with mode := mode, quota := quota }
          else s.log.lanes[l]) ∧
    (∀ (arb : ArbPolicy) (full : FullPolicy) (w : Nat), w < 2 ^ 16 →
      s.TakesOwn 0x34 tag ([arb.code, full.code] ++ bytesOf 2 w) →
      exec (.logSet (own tag ([arb.code, full.code] ++ bytesOf 2 w))) s
        = .next (({ s.popRequest with log := { s.log with
              arb := arb, full := full, watermark := max 1 (min 512 w) } } : State).replied 0x34 tag
            (if 1 ≤ w ∧ w ≤ 512 then .ok else .adjusted) (.logSet arb full (max 1 (min 512 w))))) ∧
    (∀ n : Nat, n < 256 → s.TakesOwn 0x32 tag (bytesOf 1 n) →
      ∃ taken left : List Record, s.log.records = taken ++ left ∧
        taken.length = min (max 1 (min 6 n)) s.log.records.length ∧
        exec (.logRead (own tag (bytesOf 1 n))) s
          = .next (({ s.popRequest with log := { s.log with
                records := left, fullMark := s.log.fullMark && decide (512 ≤ left.length) } } : State).replied 0x32 tag
              (if 1 ≤ n ∧ n ≤ 6 then .ok else .adjusted) (.logRead left.length taken))) ∧
    (s.TakesOwn 0x33 tag [] →
      exec (.logClear (own tag [])) s
        = .next (({ s.popRequest with log := { s.log with records := [], fullMark := false } } : State).replied 0x33 tag
            .ok (.logClear s.log.records.length s.log.nextSequence)))

/-- WRITE_COMPLETION: the written candidate enters the log under the next sequence number, as the full policy of its grant
says; its slot empties, its lane's quota count rises, and a count raised to the watermark queues a LOG notice. Then the
arbiter grants by the policy in force, or, at a full log under STOP, discards every waiting candidate: the first discard that
finds the full mark clear sets it and queues the LOG notice FULL, and while the mark stands none is queued (R148 to R151,
R153). While the port is FREE nothing happens (log 2). -/
def Obligations.WriteCompletionAndNextGrant : Prop :=
  ∀ s : State,
    (s.log.port = .free → exec .writeCompletion s = .next s.pump) ∧
    ∀ l policy cand, s.log.port = .writing l policy → s.log.lanes[l].slot = some cand →
      ∃ (t : State) (c : CaptureLog),
        exec .writeCompletion s = .next t ∧ SameBase s t ∧ t.margin = s.margin ∧
        (s.OtherLanesKept t fun _ => False) ∧
        c = s.log.afterWrite l policy cand ∧
        (s.log.records.length + 1 = s.log.watermark → c.records.length = s.log.watermark →
          s.line.enabled.getLsbD 5 = true → t.log.fullMark = s.log.fullMark →
          t.line.Announces (.log .watermark s.log.watermark s.log.nextSequence)) ∧
        ((∀ k : Lane, c.lanes[k].slot = none) → t.log = c ∧ t.lanes = s.lanes ∧ t.history = s.history) ∧
        (∀ k : Lane, c.Picks k → c.full = .ring ∨ c.records.length < 512 →
          t.log = { c with lastGranted := k, port := .writing k c.full } ∧ t.lanes = s.lanes ∧ t.history = s.history) ∧
        (∀ k : Lane, c.lanes[k].slot.isSome = true → c.full = .stop → 512 ≤ c.records.length →
          t.log.records = c.records ∧ t.log.nextSequence = c.nextSequence ∧ t.log.port = .free ∧
          t.log.fullMark = true ∧ t.flagSet k .captureMissed = true ∧
          s.FullAnnounced t c.records.length s.log.nextSequence ∧
          (∀ j : Lane, t.log.lanes[j] = { c.lanes[j] with slot := none }) ∧
          ((s.lane k).gate.state.active = true → (s.lane k).gate.counters.missed < 2 ^ 32 - 1 →
            (t.lane k).gate.counters.missed = (s.lane k).gate.counters.missed + 1))

/-! ### What every step keeps -/

/-- Every step keeps the pattern memory canonical, the regions in range and apart, and every configured pattern id naming a
pattern (R4 to R8); and every lane beyond the lane count at its reset values, but for the level of its SD pin (R159). -/
def Obligations.StepKeepsStoreAndAbsentLanes : Prop :=
  (∀ s t : State, s.StoreInv → step s = .next t → t.StoreInv) ∧
  ∀ s t : State, s.AbsentInv → step s = .next t → t.AbsentInv

/-- Every step keeps the control line's queues within their limits: at most 4 requests and 4 replies, one notice per kind
and lane, nothing waiting at a free line (R161 to R164). -/
def Obligations.StepKeepsControlLine : Prop := ∀ s t : State, s.line.Inv → step s = .next t → t.line.Inv

/-- Every step keeps the capture log: at most 512 records, numbered without gaps, one candidate per slot, no full slot at a
free port (R147, R148, R150, R151). -/
def Obligations.StepKeepsCaptureLog : Prop := ∀ s t : State, s.log.Inv → step s = .next t → t.log.Inv

/-- Every step keeps generator, checker, accounting and gate of every lane in agreement, the counters' laws, the shaping
triples in range and every transmitted amplitude within full swing (R16, R18, R24, R25, R35, R57 to R67, R87, R88). That an active gate has no end stamp rests on GATE_START's discarding it (DESIGN CHOICE, log 37),
that the loopback path holds bits only for a checker that takes them is the model's form of the path (DESIGN CHOICE, log 10),
and a free value from -3 to 3 thirds stands before the first symbol after silence (DESIGN CHOICE, log 40). -/
def Obligations.StepKeepsLanes : Prop :=
  ∀ s t : State, (∀ l, (s.lane l).Inv ∧ (s.lane l).CounterInv) → step s = .next t →
    ∀ l, (t.lane l).Inv ∧ (t.lane l).CounterInv

/-- Every step keeps the sampler at the point in progress and at home without one, and plans, points and tables in their
ranges (R122, R126, R130, R136). -/
def Obligations.StepKeepsMarginUnit : Prop := ∀ s t : State, s.margin.Inv → step s = .next t → t.margin.Inv
end

