-- ==== Sys2Proof/Laws/Accounting.lean ====
section
/-! SUPPORT. Laws/Accounting.lean: what the operations of accounting do, once (R14, R51, R63 to R66, R77). -/

namespace Sys2Proof.Machine

theorem binTakes_last (k : Nat) : binTakes 11 k = true ↔ 1024 < k := by
  rw [binTakes, if_pos rfl, decide_eq_true_iff]

theorem binTakes_below {b : Fin 12} (h : b ≠ 11) (k : Nat) :
    binTakes b k = true ↔ k ≤ 2 ^ b.val ∧ (b = 0 ∨ 2 ^ (b.val - 1) < k) := by
  rw [binTakes, if_neg h, decide_eq_true_iff]

theorem binTakes_ite {k m : Nat} {a b : Fin 12} (ha : k ≤ m → binTakes a k = true) (hb : m < k → binTakes b k = true) :
    binTakes (if k ≤ m then a else b) k = true := by
  by_cases h : k ≤ m
  · rw [if_pos h]; exact ha h
  · rw [if_neg h]; exact hb (Nat.lt_of_not_le h)

/-- The bin of a burst takes it (R66). -/
theorem binTakes_burstBin (k : Nat) : binTakes (burstBin k) k = true := by
  unfold burstBin
  refine binTakes_ite (fun h => decide_eq_true ⟨h, .inl rfl⟩) fun h => ?_
  iterate 10 refine binTakes_ite (fun h' => decide_eq_true ⟨h', .inr h⟩) (fun h => ?_)
  exact decide_eq_true h

/-- Of two bins the lower takes no burst that the higher takes (R66). -/
theorem binTakes_unique {a b : Fin 12} {k : Nat} (ha : binTakes a k = true) (hb : binTakes b k = true) : ¬a < b := by
  intro h
  have hk := ((binTakes_below (Fin.ne_of_lt (Fin.lt_of_lt_of_le h (Fin.le_last b))) k).mp ha).1
  by_cases h11 : b = 11
  · subst h11
    have h10 : 2 ^ a.val ≤ 2 ^ 10 := Nat.pow_le_pow_right (by decide) (Nat.lt_succ_iff.mp h)
    have := (binTakes_last k).mp hb
    omega
  · have hle : 2 ^ a.val ≤ 2 ^ (b.val - 1) := Nat.pow_le_pow_right (by decide) (Nat.le_sub_one_of_lt h)
    rcases ((binTakes_below h11 k).mp hb).2 with rfl | hlt
    · exact absurd h (Nat.not_lt_zero _)
    · omega

/-- A burst goes into the one bin that takes it (R66). -/
theorem binTakes_iff (b : Fin 12) (k : Nat) : binTakes b k = true ↔ b = burstBin k := by
  refine ⟨fun h => ?_, fun h => h ▸ binTakes_burstBin k⟩
  exact le_antisymm (not_lt.mp (binTakes_unique (binTakes_burstBin k) h)) (not_lt.mp (binTakes_unique h (binTakes_burstBin k)))

/-- A symbol's level on the lane is that of the word as the lane carries it (R51). -/
theorem laneLevel_eq (pol : Polarity) (w : Word) (j : Nat) (hj : j < 16) :
    laneLevel pol w j = (symbolLevel (pol.word w) j).val := by
  have h0 : decide (2 * j < 32) = true := decide_eq_true (by omega)
  have h1 : decide (2 * j + 1 < 32) = true := decide_eq_true (by omega)
  unfold laneLevel symbolLevel
  cases pol <;> simp only [Polarity.word, BitVec.getMsbD_not, h0, h1] <;>
    cases w.getMsbD (2 * j) <;> cases w.getMsbD (2 * j + 1) <;> rfl

/-- One step of the walk moves the tracker by R64 and R65. -/
theorem bit_follows (g : Nat) (b : BurstWalk) (i : Nat) (err : Bool) :
    Tracker.Follows g err b.tracker (b.bit g i err).tracker := by
  obtain ⟨tr, o, bins, f⟩ := b
  refine ⟨?_, ?_⟩
  · rintro rfl
    cases err <;> rfl
  · rintro k run rfl
    refine ⟨?_, ?_, ?_⟩
    · rintro rfl; rfl
    · rintro rfl h; simp only [BurstWalk.bit, if_pos h]
    · rintro rfl h; simp only [BurstWalk.bit, if_neg (Nat.not_lt.mpr h)]

end Sys2Proof.Machine
end

