-- ==== Sys2Proof/Laws/Bytes.lean ====
section
/-! SUPPORT. Laws/Bytes.lean: numbers as bytes and back, the fields of a body, and frame bytes. -/

namespace Sys2Proof.Machine

@[simp] theorem length_bytesOf (k n : Nat) : (bytesOf k n).length = k := by
  induction k with
  | zero => rfl
  | succ k ih => simp [bytesOf, ih]

theorem natOf_foldl (bs : List Byte) (n : Nat) :
    bs.foldl (fun n b => n * 256 + b.toNat) n = n * 256 ^ bs.length + natOf bs := by
  unfold natOf
  induction bs generalizing n with
  | nil => simp
  | cons b t ih =>
    rw [List.foldl_cons, ih, List.foldl_cons, ih (0 * 256 + b.toNat), List.length_cons, Nat.pow_succ]
    ring

theorem natOf_cons (b : Byte) (t : List Byte) : natOf (b :: t) = b.toNat * 256 ^ t.length + natOf t := by
  conv_lhs => rw [natOf, List.foldl_cons, natOf_foldl]
  simp

/-- A number that fits its field is read back from its bytes. -/
theorem natOf_bytesOf (k n : Nat) : natOf (bytesOf k n) = n % 256 ^ k := by
  induction k with
  | zero => simp [bytesOf, natOf, Nat.mod_one]
  | succ k ih =>
    have h := Nat.mod_mul (x := n) (a := 256 ^ k) (b := 256)
    rw [bytesOf, natOf_cons, ih, length_bytesOf, BitVec.toNat_ofNat, Nat.pow_succ 256 k, h, Nat.mul_comm,
      Nat.add_comm]

theorem natOf_bytesOf_of_lt {k n : Nat} (h : n < 256 ^ k) : natOf (bytesOf k n) = n := by
  rw [natOf_bytesOf, Nat.mod_eq_of_lt h]

/-- A field that follows `pre` and is followed by `post` is read from its own bytes. -/
theorem field_append (pre mid post : List Byte) :
    field (pre ++ (mid ++ post)) pre.length mid.length = natOf mid := by
  simp [field]

@[simp] theorem length_bytes16 (w : BitVec 16) : (bytes16 w).length = 2 := rfl

/-- The length of a whole frame: sync, length, payload of at least three bytes, two CRC bytes. -/
theorem length_frameBytes (node : Byte) (cls : FrameClass) (kind : BitVec 6) (tag : Byte) (body : List Byte) :
    (frameBytes node cls kind tag body).length = body.length + 7 := by
  simp [frameBytes]

/-- The kind is read back from the class-and-kind byte of a request. -/
theorem kind_classKind (cls : FrameClass) (kind : BitVec 6) : (classKind cls kind).setWidth 6 = kind := by
  cases cls <;> (revert kind; decide)

/-- A class-and-kind byte is of class REQUEST exactly for a request. -/
theorem class_classKind (cls : FrameClass) (kind : BitVec 6) : classKind cls kind >>> 6 = 0#8 ↔ cls = .request := by
  cases cls <;> (revert kind; decide)

theorem length_resultRecord_counters (c : Counters) : c.bytes.length = 222 := by
  simp [Counters.bytes, bytesEach]

/-- A gate result record takes 296 bytes (R170). -/
theorem length_resultRecord (r : ResultRecord) : r.bytes.length = 296 := by
  simp [ResultRecord.bytes, bytesEach, GateCounts.bytes, length_resultRecord_counters, Figure.bytes]

/-- A capture record takes 32 bytes (R170). -/
theorem length_captureRecord (r : Record) : r.bytes.length = 32 := by
  obtain ⟨n, l, e, b, body⟩ := r
  cases body <;> simp [Record.bytes, bytesEach, CandidateBody.bytes]

end Sys2Proof.Machine
end

