-- ==== Sys2Proof/Laws/State.lean ====
section
/-! SUPPORT. Laws/State.lean: what each update of State leaves of each field. -/

namespace Sys2Proof.Machine

@[simp] theorem State.modLane_straps (l : Lane) (f : LaneState → LaneState) (s : State) : (s.modLane l f).straps = s.straps := rfl
@[simp] theorem State.modLane_uptime (l : Lane) (f : LaneState → LaneState) (s : State) : (s.modLane l f).uptime = s.uptime := rfl
@[simp] theorem State.modLane_cause (l : Lane) (f : LaneState → LaneState) (s : State) : (s.modLane l f).cause = s.cause := rfl
@[simp] theorem State.modLane_history (l : Lane) (f : LaneState → LaneState) (s : State) : (s.modLane l f).history = s.history := rfl
@[simp] theorem State.modLane_store (l : Lane) (f : LaneState → LaneState) (s : State) : (s.modLane l f).store = s.store := rfl
@[simp] theorem State.modLane_filters (l : Lane) (f : LaneState → LaneState) (s : State) : (s.modLane l f).filters = s.filters := rfl
@[simp] theorem State.modLane_margin (l : Lane) (f : LaneState → LaneState) (s : State) : (s.modLane l f).margin = s.margin := rfl
@[simp] theorem State.modLane_log (l : Lane) (f : LaneState → LaneState) (s : State) : (s.modLane l f).log = s.log := rfl
@[simp] theorem State.modLane_line (l : Lane) (f : LaneState → LaneState) (s : State) : (s.modLane l f).line = s.line := rfl
@[simp] theorem State.modLane_pending (l : Lane) (f : LaneState → LaneState) (s : State) : (s.modLane l f).pending = s.pending := rfl

@[simp] theorem State.modGate_straps (l : Lane) (f : Gate → Gate) (s : State) : (s.modGate l f).straps = s.straps := rfl
@[simp] theorem State.modGate_uptime (l : Lane) (f : Gate → Gate) (s : State) : (s.modGate l f).uptime = s.uptime := rfl
@[simp] theorem State.modGate_cause (l : Lane) (f : Gate → Gate) (s : State) : (s.modGate l f).cause = s.cause := rfl
@[simp] theorem State.modGate_history (l : Lane) (f : Gate → Gate) (s : State) : (s.modGate l f).history = s.history := rfl
@[simp] theorem State.modGate_store (l : Lane) (f : Gate → Gate) (s : State) : (s.modGate l f).store = s.store := rfl
@[simp] theorem State.modGate_filters (l : Lane) (f : Gate → Gate) (s : State) : (s.modGate l f).filters = s.filters := rfl
@[simp] theorem State.modGate_margin (l : Lane) (f : Gate → Gate) (s : State) : (s.modGate l f).margin = s.margin := rfl
@[simp] theorem State.modGate_log (l : Lane) (f : Gate → Gate) (s : State) : (s.modGate l f).log = s.log := rfl
@[simp] theorem State.modGate_line (l : Lane) (f : Gate → Gate) (s : State) : (s.modGate l f).line = s.line := rfl
@[simp] theorem State.modGate_pending (l : Lane) (f : Gate → Gate) (s : State) : (s.modGate l f).pending = s.pending := rfl

@[simp] theorem State.modCapture_straps (l : Lane) (f : CaptureLane → CaptureLane) (s : State) : (s.modCapture l f).straps = s.straps := rfl
@[simp] theorem State.modCapture_uptime (l : Lane) (f : CaptureLane → CaptureLane) (s : State) : (s.modCapture l f).uptime = s.uptime := rfl
@[simp] theorem State.modCapture_cause (l : Lane) (f : CaptureLane → CaptureLane) (s : State) : (s.modCapture l f).cause = s.cause := rfl
@[simp] theorem State.modCapture_history (l : Lane) (f : CaptureLane → CaptureLane) (s : State) : (s.modCapture l f).history = s.history := rfl
@[simp] theorem State.modCapture_store (l : Lane) (f : CaptureLane → CaptureLane) (s : State) : (s.modCapture l f).store = s.store := rfl
@[simp] theorem State.modCapture_lanes (l : Lane) (f : CaptureLane → CaptureLane) (s : State) : (s.modCapture l f).lanes = s.lanes := rfl
@[simp] theorem State.modCapture_filters (l : Lane) (f : CaptureLane → CaptureLane) (s : State) : (s.modCapture l f).filters = s.filters := rfl
@[simp] theorem State.modCapture_margin (l : Lane) (f : CaptureLane → CaptureLane) (s : State) : (s.modCapture l f).margin = s.margin := rfl
@[simp] theorem State.modCapture_line (l : Lane) (f : CaptureLane → CaptureLane) (s : State) : (s.modCapture l f).line = s.line := rfl
@[simp] theorem State.modCapture_pending (l : Lane) (f : CaptureLane → CaptureLane) (s : State) : (s.modCapture l f).pending = s.pending := rfl
@[simp] theorem State.modCapture_lane (l : Lane) (f : CaptureLane → CaptureLane) (s : State) (k : Lane) : (s.modCapture l f).lane k = s.lane k := rfl

@[simp] theorem State.queueNotice_straps (n : Notice) (s : State) : (s.queueNotice n).straps = s.straps := rfl
@[simp] theorem State.queueNotice_uptime (n : Notice) (s : State) : (s.queueNotice n).uptime = s.uptime := rfl
@[simp] theorem State.queueNotice_cause (n : Notice) (s : State) : (s.queueNotice n).cause = s.cause := rfl
@[simp] theorem State.queueNotice_history (n : Notice) (s : State) : (s.queueNotice n).history = s.history := rfl
@[simp] theorem State.queueNotice_store (n : Notice) (s : State) : (s.queueNotice n).store = s.store := rfl
@[simp] theorem State.queueNotice_lanes (n : Notice) (s : State) : (s.queueNotice n).lanes = s.lanes := rfl
@[simp] theorem State.queueNotice_filters (n : Notice) (s : State) : (s.queueNotice n).filters = s.filters := rfl
@[simp] theorem State.queueNotice_margin (n : Notice) (s : State) : (s.queueNotice n).margin = s.margin := rfl
@[simp] theorem State.queueNotice_log (n : Notice) (s : State) : (s.queueNotice n).log = s.log := rfl
@[simp] theorem State.queueNotice_pending (n : Notice) (s : State) : (s.queueNotice n).pending = s.pending := rfl
@[simp] theorem State.queueNotice_lane (n : Notice) (s : State) (k : Lane) : (s.queueNotice n).lane k = s.lane k := rfl

@[simp] theorem State.queueNotices_straps (ns : List Notice) (s : State) : (s.queueNotices ns).straps = s.straps := rfl
@[simp] theorem State.queueNotices_uptime (ns : List Notice) (s : State) : (s.queueNotices ns).uptime = s.uptime := rfl
@[simp] theorem State.queueNotices_cause (ns : List Notice) (s : State) : (s.queueNotices ns).cause = s.cause := rfl
@[simp] theorem State.queueNotices_history (ns : List Notice) (s : State) : (s.queueNotices ns).history = s.history := rfl
@[simp] theorem State.queueNotices_store (ns : List Notice) (s : State) : (s.queueNotices ns).store = s.store := rfl
@[simp] theorem State.queueNotices_lanes (ns : List Notice) (s : State) : (s.queueNotices ns).lanes = s.lanes := rfl
@[simp] theorem State.queueNotices_filters (ns : List Notice) (s : State) : (s.queueNotices ns).filters = s.filters := rfl
@[simp] theorem State.queueNotices_margin (ns : List Notice) (s : State) : (s.queueNotices ns).margin = s.margin := rfl
@[simp] theorem State.queueNotices_log (ns : List Notice) (s : State) : (s.queueNotices ns).log = s.log := rfl
@[simp] theorem State.queueNotices_pending (ns : List Notice) (s : State) : (s.queueNotices ns).pending = s.pending := rfl
@[simp] theorem State.queueNotices_lane (ns : List Notice) (s : State) (k : Lane) : (s.queueNotices ns).lane k = s.lane k := rfl

@[simp] theorem State.queueReply_straps (r : Reply) (s : State) : (s.queueReply r).straps = s.straps := rfl
@[simp] theorem State.queueReply_uptime (r : Reply) (s : State) : (s.queueReply r).uptime = s.uptime := rfl
@[simp] theorem State.queueReply_cause (r : Reply) (s : State) : (s.queueReply r).cause = s.cause := rfl
@[simp] theorem State.queueReply_history (r : Reply) (s : State) : (s.queueReply r).history = s.history := rfl
@[simp] theorem State.queueReply_store (r : Reply) (s : State) : (s.queueReply r).store = s.store := rfl
@[simp] theorem State.queueReply_lanes (r : Reply) (s : State) : (s.queueReply r).lanes = s.lanes := rfl
@[simp] theorem State.queueReply_filters (r : Reply) (s : State) : (s.queueReply r).filters = s.filters := rfl
@[simp] theorem State.queueReply_margin (r : Reply) (s : State) : (s.queueReply r).margin = s.margin := rfl
@[simp] theorem State.queueReply_log (r : Reply) (s : State) : (s.queueReply r).log = s.log := rfl
@[simp] theorem State.queueReply_pending (r : Reply) (s : State) : (s.queueReply r).pending = s.pending := rfl
@[simp] theorem State.queueReply_lane (r : Reply) (s : State) (k : Lane) : (s.queueReply r).lane k = s.lane k := rfl

@[simp] theorem State.pump_straps (s : State) : s.pump.straps = s.straps := rfl
@[simp] theorem State.pump_uptime (s : State) : s.pump.uptime = s.uptime := rfl
@[simp] theorem State.pump_cause (s : State) : s.pump.cause = s.cause := rfl
@[simp] theorem State.pump_history (s : State) : s.pump.history = s.history := rfl
@[simp] theorem State.pump_store (s : State) : s.pump.store = s.store := rfl
@[simp] theorem State.pump_lanes (s : State) : s.pump.lanes = s.lanes := rfl
@[simp] theorem State.pump_filters (s : State) : s.pump.filters = s.filters := rfl
@[simp] theorem State.pump_margin (s : State) : s.pump.margin = s.margin := rfl
@[simp] theorem State.pump_log (s : State) : s.pump.log = s.log := rfl
@[simp] theorem State.pump_pending (s : State) : s.pump.pending = s.pending := rfl
@[simp] theorem State.pump_lane (s : State) (k : Lane) : s.pump.lane k = s.lane k := rfl

@[simp] theorem State.setFlag_straps (l : Lane) (f : HistoryFlag) (s : State) : (s.setFlag l f).straps = s.straps := rfl
@[simp] theorem State.setFlag_uptime (l : Lane) (f : HistoryFlag) (s : State) : (s.setFlag l f).uptime = s.uptime := rfl
@[simp] theorem State.setFlag_cause (l : Lane) (f : HistoryFlag) (s : State) : (s.setFlag l f).cause = s.cause := rfl
@[simp] theorem State.setFlag_store (l : Lane) (f : HistoryFlag) (s : State) : (s.setFlag l f).store = s.store := rfl
@[simp] theorem State.setFlag_lanes (l : Lane) (f : HistoryFlag) (s : State) : (s.setFlag l f).lanes = s.lanes := rfl
@[simp] theorem State.setFlag_filters (l : Lane) (f : HistoryFlag) (s : State) : (s.setFlag l f).filters = s.filters := rfl
@[simp] theorem State.setFlag_margin (l : Lane) (f : HistoryFlag) (s : State) : (s.setFlag l f).margin = s.margin := rfl
@[simp] theorem State.setFlag_log (l : Lane) (f : HistoryFlag) (s : State) : (s.setFlag l f).log = s.log := rfl
@[simp] theorem State.setFlag_pending (l : Lane) (f : HistoryFlag) (s : State) : (s.setFlag l f).pending = s.pending := rfl
@[simp] theorem State.setFlag_lane (l : Lane) (f : HistoryFlag) (s : State) (k : Lane) : (s.setFlag l f).lane k = s.lane k := rfl

@[simp] theorem State.setPoint_straps (p : Point) (s : State) : (s.setPoint p).straps = s.straps := rfl
@[simp] theorem State.setPoint_uptime (p : Point) (s : State) : (s.setPoint p).uptime = s.uptime := rfl
@[simp] theorem State.setPoint_cause (p : Point) (s : State) : (s.setPoint p).cause = s.cause := rfl
@[simp] theorem State.setPoint_history (p : Point) (s : State) : (s.setPoint p).history = s.history := rfl
@[simp] theorem State.setPoint_store (p : Point) (s : State) : (s.setPoint p).store = s.store := rfl
@[simp] theorem State.setPoint_lanes (p : Point) (s : State) : (s.setPoint p).lanes = s.lanes := rfl
@[simp] theorem State.setPoint_filters (p : Point) (s : State) : (s.setPoint p).filters = s.filters := rfl
@[simp] theorem State.setPoint_log (p : Point) (s : State) : (s.setPoint p).log = s.log := rfl
@[simp] theorem State.setPoint_line (p : Point) (s : State) : (s.setPoint p).line = s.line := rfl
@[simp] theorem State.setPoint_pending (p : Point) (s : State) : (s.setPoint p).pending = s.pending := rfl
@[simp] theorem State.setPoint_lane (p : Point) (s : State) (k : Lane) : (s.setPoint p).lane k = s.lane k := rfl

@[simp] theorem State.fillSlot_straps (l : Lane) (c : Candidate) (s : State) : (s.fillSlot l c).straps = s.straps := rfl
@[simp] theorem State.fillSlot_uptime (l : Lane) (c : Candidate) (s : State) : (s.fillSlot l c).uptime = s.uptime := rfl
@[simp] theorem State.fillSlot_cause (l : Lane) (c : Candidate) (s : State) : (s.fillSlot l c).cause = s.cause := rfl
@[simp] theorem State.fillSlot_history (l : Lane) (c : Candidate) (s : State) : (s.fillSlot l c).history = s.history := rfl
@[simp] theorem State.fillSlot_store (l : Lane) (c : Candidate) (s : State) : (s.fillSlot l c).store = s.store := rfl
@[simp] theorem State.fillSlot_lanes (l : Lane) (c : Candidate) (s : State) : (s.fillSlot l c).lanes = s.lanes := rfl
@[simp] theorem State.fillSlot_filters (l : Lane) (c : Candidate) (s : State) : (s.fillSlot l c).filters = s.filters := rfl
@[simp] theorem State.fillSlot_margin (l : Lane) (c : Candidate) (s : State) : (s.fillSlot l c).margin = s.margin := rfl
@[simp] theorem State.fillSlot_line (l : Lane) (c : Candidate) (s : State) : (s.fillSlot l c).line = s.line := rfl
@[simp] theorem State.fillSlot_pending (l : Lane) (c : Candidate) (s : State) : (s.fillSlot l c).pending = s.pending := rfl
@[simp] theorem State.fillSlot_lane (l : Lane) (c : Candidate) (s : State) (k : Lane) : (s.fillSlot l c).lane k = s.lane k := rfl

@[simp] theorem State.withLog_straps (c : CaptureLog) (s : State) : (s.withLog c).straps = s.straps := rfl
@[simp] theorem State.withLog_uptime (c : CaptureLog) (s : State) : (s.withLog c).uptime = s.uptime := rfl
@[simp] theorem State.withLog_cause (c : CaptureLog) (s : State) : (s.withLog c).cause = s.cause := rfl
@[simp] theorem State.withLog_history (c : CaptureLog) (s : State) : (s.withLog c).history = s.history := rfl
@[simp] theorem State.withLog_store (c : CaptureLog) (s : State) : (s.withLog c).store = s.store := rfl
@[simp] theorem State.withLog_lanes (c : CaptureLog) (s : State) : (s.withLog c).lanes = s.lanes := rfl
@[simp] theorem State.withLog_filters (c : CaptureLog) (s : State) : (s.withLog c).filters = s.filters := rfl
@[simp] theorem State.withLog_margin (c : CaptureLog) (s : State) : (s.withLog c).margin = s.margin := rfl
@[simp] theorem State.withLog_line (c : CaptureLog) (s : State) : (s.withLog c).line = s.line := rfl
@[simp] theorem State.withLog_pending (c : CaptureLog) (s : State) : (s.withLog c).pending = s.pending := rfl
@[simp] theorem State.withLog_lane (c : CaptureLog) (s : State) (k : Lane) : (s.withLog c).lane k = s.lane k := rfl

@[simp] theorem State.popRequest_straps (s : State) : s.popRequest.straps = s.straps := rfl
@[simp] theorem State.popRequest_uptime (s : State) : s.popRequest.uptime = s.uptime := rfl
@[simp] theorem State.popRequest_cause (s : State) : s.popRequest.cause = s.cause := rfl
@[simp] theorem State.popRequest_history (s : State) : s.popRequest.history = s.history := rfl
@[simp] theorem State.popRequest_store (s : State) : s.popRequest.store = s.store := rfl
@[simp] theorem State.popRequest_lanes (s : State) : s.popRequest.lanes = s.lanes := rfl
@[simp] theorem State.popRequest_filters (s : State) : s.popRequest.filters = s.filters := rfl
@[simp] theorem State.popRequest_margin (s : State) : s.popRequest.margin = s.margin := rfl
@[simp] theorem State.popRequest_log (s : State) : s.popRequest.log = s.log := rfl
@[simp] theorem State.popRequest_pending (s : State) : s.popRequest.pending = s.pending := rfl
@[simp] theorem State.popRequest_lane (s : State) (k : Lane) : s.popRequest.lane k = s.lane k := rfl

@[simp] theorem State.withPending_straps (s : State) (q : List Instr) : (s.withPending q).straps = s.straps := rfl
@[simp] theorem State.withPending_uptime (s : State) (q : List Instr) : (s.withPending q).uptime = s.uptime := rfl
@[simp] theorem State.withPending_cause (s : State) (q : List Instr) : (s.withPending q).cause = s.cause := rfl
@[simp] theorem State.withPending_history (s : State) (q : List Instr) : (s.withPending q).history = s.history := rfl
@[simp] theorem State.withPending_store (s : State) (q : List Instr) : (s.withPending q).store = s.store := rfl
@[simp] theorem State.withPending_lanes (s : State) (q : List Instr) : (s.withPending q).lanes = s.lanes := rfl
@[simp] theorem State.withPending_filters (s : State) (q : List Instr) : (s.withPending q).filters = s.filters := rfl
@[simp] theorem State.withPending_margin (s : State) (q : List Instr) : (s.withPending q).margin = s.margin := rfl
@[simp] theorem State.withPending_log (s : State) (q : List Instr) : (s.withPending q).log = s.log := rfl
@[simp] theorem State.withPending_line (s : State) (q : List Instr) : (s.withPending q).line = s.line := rfl
@[simp] theorem State.withPending_lane (s : State) (q : List Instr) (k : Lane) : (s.withPending q).lane k = s.lane k := rfl

@[simp] theorem State.replied_straps (kd : BitVec 6) (t : Byte) (st : Status) (f : ReplyFields) (s : State) : (s.replied kd t st f).straps = s.straps := rfl
@[simp] theorem State.replied_uptime (kd : BitVec 6) (t : Byte) (st : Status) (f : ReplyFields) (s : State) : (s.replied kd t st f).uptime = s.uptime := rfl
@[simp] theorem State.replied_cause (kd : BitVec 6) (t : Byte) (st : Status) (f : ReplyFields) (s : State) : (s.replied kd t st f).cause = s.cause := rfl
@[simp] theorem State.replied_history (kd : BitVec 6) (t : Byte) (st : Status) (f : ReplyFields) (s : State) : (s.replied kd t st f).history = s.history := rfl
@[simp] theorem State.replied_store (kd : BitVec 6) (t : Byte) (st : Status) (f : ReplyFields) (s : State) : (s.replied kd t st f).store = s.store := rfl
@[simp] theorem State.replied_lanes (kd : BitVec 6) (t : Byte) (st : Status) (f : ReplyFields) (s : State) : (s.replied kd t st f).lanes = s.lanes := rfl
@[simp] theorem State.replied_filters (kd : BitVec 6) (t : Byte) (st : Status) (f : ReplyFields) (s : State) : (s.replied kd t st f).filters = s.filters := rfl
@[simp] theorem State.replied_margin (kd : BitVec 6) (t : Byte) (st : Status) (f : ReplyFields) (s : State) : (s.replied kd t st f).margin = s.margin := rfl
@[simp] theorem State.replied_log (kd : BitVec 6) (t : Byte) (st : Status) (f : ReplyFields) (s : State) : (s.replied kd t st f).log = s.log := rfl
@[simp] theorem State.replied_pending (kd : BitVec 6) (t : Byte) (st : Status) (f : ReplyFields) (s : State) : (s.replied kd t st f).pending = s.pending := rfl
@[simp] theorem State.replied_lane (kd : BitVec 6) (t : Byte) (st : Status) (f : ReplyFields) (s : State) (k : Lane) : (s.replied kd t st f).lane k = s.lane k := rfl

@[simp] theorem State.withLog_log (c : CaptureLog) (s : State) : (s.withLog c).log = c := rfl

@[simp] theorem State.withPending_pending (s : State) (q : List Instr) : (s.withPending q).pending = q := rfl

/-! ### Lanes -/

@[simp] theorem State.modLane_lane_self (l : Lane) (f : LaneState → LaneState) (s : State) :
    (s.modLane l f).lane l = f (s.lane l) := by
  simp [State.lane, State.modLane]

theorem State.modLane_lane (l k : Lane) (f : LaneState → LaneState) (s : State) :
    (s.modLane l f).lane k = if l = k then f (s.lane k) else s.lane k := by
  unfold State.lane State.modLane
  simp only [Fin.getElem_fin, Vector.getElem_set, Fin.val_inj]
  split
  · next h => rw [h]
  · rfl

theorem State.modLane_lane_ne {l k : Lane} (h : l ≠ k) (f : LaneState → LaneState) (s : State) :
    (s.modLane l f).lane k = s.lane k := by
  rw [State.modLane_lane, if_neg h]

theorem State.modGate_lane (l k : Lane) (f : Gate → Gate) (s : State) :
    (s.modGate l f).lane k = if l = k then { s.lane k with gate := f (s.lane k).gate } else s.lane k :=
  State.modLane_lane l k _ s

@[simp] theorem State.modGate_lane_self (l : Lane) (f : Gate → Gate) (s : State) :
    (s.modGate l f).lane l = { s.lane l with gate := f (s.lane l).gate } := by
  simp [State.modGate]

theorem State.modCapture_captureLane (l k : Lane) (f : CaptureLane → CaptureLane) (s : State) :
    (s.modCapture l f).log.lanes[k] = if l = k then f s.log.lanes[k] else s.log.lanes[k] := by
  unfold State.modCapture
  simp only [Fin.getElem_fin, Vector.getElem_set, Fin.val_inj]
  split
  · next h => rw [h]
  · rfl

/-- Two states are the same when their fields are. -/
theorem State.ext_fields {s t : State} (h1 : s.straps = t.straps) (h2 : s.uptime = t.uptime) (h3 : s.cause = t.cause)
    (h4 : s.history = t.history) (h5 : s.store = t.store) (h6 : s.lanes = t.lanes) (h7 : s.filters = t.filters)
    (h8 : s.margin = t.margin) (h9 : s.log = t.log) (h10 : s.line = t.line) (h11 : s.pending = t.pending) : s = t := by
  cases s; cases t; simp_all

/-- Lanes are the same when each lane is. -/
theorem State.lanes_ext {s t : State} (h : ∀ l, s.lane l = t.lane l) : s.lanes = t.lanes := by
  apply Vector.ext
  intro i hi
  exact h ⟨i, hi⟩

/-! ### Small state predicates -/

@[simp] theorem State.queueReply_replies (r : Reply) (s : State) :
    (s.queueReply r).line.replies = s.line.replies ++ [r] := rfl

@[simp] theorem Generator.state_running (g : Generator) : g.state = .running ↔ g.run.isSome = true := by
  unfold Generator.state
  split <;> simp_all

@[simp] theorem Phase.state_off : Phase.off.state = .off := rfl
@[simp] theorem Phase.state_noSignal : Phase.noSignal.state = .noSignal := rfl
@[simp] theorem Phase.state_hunt (w : BitVec 64) (c : Nat) : (Phase.hunt w c).state = .hunt := rfl
@[simp] theorem Phase.state_verify (s : Source) (t : BitVec 15) (c e : Nat) : (Phase.verify s t c e).state = .verify := rfl
@[simp] theorem Phase.state_locked (s : Source) (t : BitVec 15) (c e : Nat) : (Phase.locked s t c e).state = .locked := rfl
@[simp] theorem Phase.state_held : Phase.held.state = .held := rfl

end Sys2Proof.Machine
end

