-- ==== Sys2Proof/Laws/Lanes.lean ====
section
/-! SUPPORT. Laws/Lanes.lean: lane sets, and one function applied to every lane of a set. -/

namespace Sys2Proof.Machine

theorem mem_laneList (l : Lane) : l ∈ laneList := by revert l; decide

theorem nodup_laneList : laneList.Nodup := by decide

@[simp] theorem mem_lanesOf (b : LaneSet) (l : Lane) : l ∈ lanesOf b ↔ b.getLsbD l.val = true := by
  simp [lanesOf, mem_laneList]

theorem nodup_lanesOf (b : LaneSet) : (lanesOf b).Nodup := nodup_laneList.filter _

/-- Fold a lane update over a list of lanes without repeats: each listed lane is updated once. -/
theorem foldl_modLane_lane (ls : List Lane) (hls : ls.Nodup) (f : LaneState → LaneState) (s : State) (k : Lane) :
    (ls.foldl (fun s l => s.modLane l f) s).lane k = if k ∈ ls then f (s.lane k) else s.lane k := by
  induction ls generalizing s with
  | nil => simp
  | cons l t ih =>
    obtain ⟨hl, ht⟩ := List.nodup_cons.1 hls
    rw [List.foldl_cons, ih ht, State.modLane_lane]
    by_cases hk : l = k
    · subst hk; simp [hl]
    · have : k ≠ l := fun h => hk h.symm
      simp [hk, this]

/-- A function applied to a lane set reaches exactly the named lanes. -/
theorem State.onLanes_lane (b : LaneSet) (f : LaneState → LaneState) (s : State) (k : Lane) :
    (s.onLanes b f).lane k = if b.getLsbD k.val then f (s.lane k) else s.lane k := by
  rw [State.onLanes, foldl_modLane_lane _ (nodup_lanesOf b)]
  simp

/-- A fold of updates that each keep a property of the state keeps it. -/
theorem foldl_keeps {α β : Type} (P : α → α → Prop) (refl : ∀ a, P a a) (trans : ∀ a b c, P a b → P b c → P a c)
    (f : α → β → α) (h : ∀ a x, P a (f a x)) (xs : List β) (a : α) : P a (xs.foldl f a) := by
  induction xs generalizing a with
  | nil => exact refl a
  | cons x t ih => exact trans _ _ _ (h a x) (ih (f a x))

theorem getLsbD_laneBit (l k : Lane) : (1#8 <<< l.val).getLsbD k.val = decide (l = k) := by revert l k; decide

theorem getLsbD_foldl_lanes (p : Lane → Bool) (ls : List Lane) (b : LaneSet) (k : Lane) :
    (ls.foldl (fun b l => if p l then b ||| (1#8 <<< l.val) else b) b).getLsbD k.val
      = (b.getLsbD k.val || (decide (k ∈ ls) && p k)) := by
  induction ls generalizing b with
  | nil => simp
  | cons l t ih =>
    rw [List.foldl_cons, ih]
    have hor : (if p l then b ||| (1#8 <<< l.val) else b).getLsbD k.val
        = (b.getLsbD k.val || (p l && decide (l = k))) := by
      cases hp : p l
      · simp only [Bool.false_eq_true, if_false, Bool.false_and, Bool.or_false]
      · simp only [if_true, BitVec.getLsbD_or, getLsbD_laneBit, Bool.true_and]
    rw [hor]
    by_cases hk : l = k
    · subst hk
      simp only [List.mem_cons, true_or, decide_true, Bool.true_and, Bool.and_true]
      cases p l <;> simp only [Bool.or_false, Bool.or_true, Bool.and_false, Bool.true_or]
    · have hk' : ¬k = l := fun h => hk h.symm
      simp only [List.mem_cons, hk, hk', decide_false, Bool.and_false, Bool.or_false, false_or]

/-- A lane is in the set of the lanes that satisfy `p` when it does. -/
theorem getLsbD_laneSetWhere (p : Lane → Bool) (l : Lane) : (laneSetWhere p).getLsbD l.val = p l := by
  rw [laneSetWhere, getLsbD_foldl_lanes]
  have h0 : BitVec.getLsbD (0 : LaneSet) l.val = false := by revert l; decide
  rw [h0]
  simp only [mem_laneList, decide_true, Bool.true_and, Bool.false_or]

end Sys2Proof.Machine
end

