-- ==== Sys2Proof/Laws/Frame.lean ====
section
/-! SUPPORT. Laws/Frame.lean: the fields that no lane event, transition, gate event or margin event touches. -/

namespace Sys2Proof.Machine

theorem SameBase.refl (s : State) : SameBase s s := ⟨rfl, rfl, rfl, rfl, rfl, rfl⟩

theorem SameBase.trans {s t u : State} (a : SameBase s t) (b : SameBase t u) : SameBase s u :=
  ⟨b.straps.trans a.straps, b.uptime.trans a.uptime, b.cause.trans a.cause, b.store.trans a.store,
    b.filters.trans a.filters, b.pending.trans a.pending⟩

theorem SameBase.foldl {β : Type} (f : State → β → State) (h : ∀ s x, SameBase s (f s x)) (xs : List β) (s : State) :
    SameBase s (xs.foldl f s) :=
  foldl_keeps SameBase SameBase.refl (fun _ _ _ => SameBase.trans) f h xs s

theorem sameBase_modLane (l : Lane) (f : LaneState → LaneState) (s : State) : SameBase s (s.modLane l f) :=
  ⟨rfl, rfl, rfl, rfl, rfl, rfl⟩

theorem sameBase_modGate (l : Lane) (f : Gate → Gate) (s : State) : SameBase s (s.modGate l f) :=
  ⟨rfl, rfl, rfl, rfl, rfl, rfl⟩

theorem sameBase_modCapture (l : Lane) (f : CaptureLane → CaptureLane) (s : State) : SameBase s (s.modCapture l f) :=
  ⟨rfl, rfl, rfl, rfl, rfl, rfl⟩

theorem sameBase_withLog (c : CaptureLog) (s : State) : SameBase s (s.withLog c) := ⟨rfl, rfl, rfl, rfl, rfl, rfl⟩

theorem sameBase_queueNotice (n : Notice) (s : State) : SameBase s (s.queueNotice n) := ⟨rfl, rfl, rfl, rfl, rfl, rfl⟩

theorem sameBase_setFlag (l : Lane) (f : HistoryFlag) (s : State) : SameBase s (s.setFlag l f) :=
  ⟨rfl, rfl, rfl, rfl, rfl, rfl⟩

theorem sameBase_pump (s : State) : SameBase s s.pump := ⟨rfl, rfl, rfl, rfl, rfl, rfl⟩

theorem sameBase_popRequest (s : State) : SameBase s s.popRequest := ⟨rfl, rfl, rfl, rfl, rfl, rfl⟩

theorem sameBase_replied (k : BitVec 6) (t : Byte) (st : Status) (f : ReplyFields) (s : State) :
    SameBase s (s.replied k t st f) := ⟨rfl, rfl, rfl, rfl, rfl, rfl⟩

theorem sameBase_onLanes (b : LaneSet) (f : LaneState → LaneState) (s : State) : SameBase s (s.onLanes b f) :=
  SameBase.foldl _ (fun s l => sameBase_modLane l f s) _ s

/-! ### Gates -/

theorem sameBase_endGate (l : Lane) (r : EndReason) (s : State) : SameBase s (s.endGate l r) :=
  (sameBase_modLane ..).trans (sameBase_queueNotice ..)

theorem sameBase_saturateGate (l : Lane) (s : State) : SameBase s (s.saturateGate l) :=
  (sameBase_setFlag ..).trans (sameBase_endGate ..)

theorem sameBase_lockLoss (l : Lane) (held : Bool) (s : State) : SameBase s (s.lockLoss l held) := by
  unfold State.lockLoss
  split
  · exact sameBase_saturateGate ..
  · split
    · exact (sameBase_modGate ..).trans (sameBase_modLane ..)
    · split
      · exact sameBase_modGate ..
      · exact (sameBase_modGate ..).trans (sameBase_modLane ..)
      · exact (sameBase_modGate ..).trans (sameBase_endGate ..)

theorem sameBase_gateLaneOff (l : Lane) (s : State) : SameBase s (s.gateLaneOff l) := by
  unfold State.gateLaneOff
  split
  · exact sameBase_endGate ..
  · exact SameBase.refl s

theorem sameBase_gateTransition (l : Lane) (left entered : CheckerState) (r : Reason) (s : State) :
    SameBase s (s.gateTransition l left entered r) := by
  unfold State.gateTransition
  split
  · exact sameBase_modGate ..
  · have h : SameBase s (if left = .locked then s.modLane l LaneState.closeBurst else s) := by
      split
      · exact sameBase_modLane ..
      · exact SameBase.refl s
    refine h.trans ?_
    generalize (if left = .locked then s.modLane l LaneState.closeBurst else s) = s'
    dsimp only
    split
    · exact sameBase_gateLaneOff ..
    · split
      · split
        · exact sameBase_lockLoss ..
        · split
          · exact sameBase_modLane ..
          · exact SameBase.refl _
      · exact SameBase.refl _

theorem sameBase_testLimits (l : Lane) (s : State) : SameBase s (s.testLimits l) := by
  unfold State.testLimits
  dsimp only
  split
  · exact sameBase_endGate ..
  · split
    · exact sameBase_endGate ..
    · exact SameBase.refl s

theorem sameBase_expireArmed (l : Lane) (s : State) : SameBase s (s.expireArmed l) := by
  unfold State.expireArmed
  dsimp only
  split
  · exact (sameBase_modGate ..).trans (sameBase_endGate ..)
  · exact sameBase_modGate ..

theorem sameBase_expireRunning (l : Lane) (s : State) : SameBase s (s.expireRunning l) := by
  unfold State.expireRunning
  dsimp only
  split
  · exact sameBase_saturateGate ..
  · refine (sameBase_modLane l LaneState.tickRunning s).trans ?_
    split
    · exact sameBase_endGate ..
    · split
      · exact sameBase_endGate ..
      · exact SameBase.refl _

theorem sameBase_expirePaused (l : Lane) (s : State) : SameBase s (s.expirePaused l) := by
  unfold State.expirePaused
  split
  · exact sameBase_saturateGate ..
  · exact sameBase_modGate ..

theorem sameBase_gateExpiry (l : Lane) (s : State) : SameBase s (s.gateExpiry l) := by
  unfold State.gateExpiry
  split
  · exact SameBase.refl s
  · exact sameBase_expireArmed ..
  · exact sameBase_expireRunning ..
  · exact sameBase_expirePaused ..
  · exact SameBase.refl s

theorem sameBase_startGate (args : GateArgs) (l : Lane) (s : State) : SameBase s (s.startGate args l) :=
  (sameBase_modLane ..).trans (sameBase_modCapture ..)

theorem sameBase_stopGate (l : Lane) (s : State) : SameBase s (s.stopGate l) := by
  unfold State.stopGate
  split
  · exact sameBase_endGate ..
  · exact SameBase.refl s

/-! ### Capture log -/

theorem sameBase_missCandidate (l : Lane) (s : State) : SameBase s (s.missCandidate l) :=
  (sameBase_modGate ..).trans (sameBase_setFlag ..)

theorem sameBase_offerLock (l : Lane) (c : Candidate) (s : State) : SameBase s (s.offerLock l c) := by
  unfold State.offerLock
  split
  · exact sameBase_missCandidate ..
  · exact sameBase_modCapture ..

theorem sameBase_offerTally (l : Lane) (c : Candidate) (s : State) : SameBase s (s.offerTally l c) := by
  unfold State.offerTally
  split
  · exact sameBase_setFlag ..
  · exact sameBase_modCapture ..

theorem sameBase_discard (l : Lane) (s : State) : SameBase s (s.discard l) := by
  have h := (sameBase_modCapture l (fun c => { c with slot := none }) s).trans (sameBase_missCandidate l _)
  unfold State.discard
  dsimp only
  split
  · exact h
  · exact h.trans ((sameBase_withLog ..).trans (sameBase_queueNotice ..))

theorem sameBase_grantTo (l : Lane) (s : State) : SameBase s (s.grantTo l) := by
  unfold State.grantTo
  split
  · exact (sameBase_withLog ..).trans (sameBase_discard ..)
  · exact sameBase_withLog ..

theorem sameBase_grantRounds (n : Nat) (s : State) : SameBase s (s.grantRounds n) := by
  induction n generalizing s with
  | zero => exact SameBase.refl s
  | succ n ih =>
    rw [State.grantRounds]
    split
    · exact (sameBase_grantTo ..).trans (ih _)
    · exact SameBase.refl s

theorem sameBase_grant (s : State) : SameBase s s.grant := sameBase_grantRounds 8 s

theorem sameBase_writeCompletion (s : State) : SameBase s s.writeCompletion := by
  unfold State.writeCompletion
  split
  · exact SameBase.refl s
  · split
    · exact SameBase.refl s
    · dsimp only
      split
      · exact ((sameBase_withLog ..).trans (sameBase_queueNotice ..)).trans (sameBase_grant _)
      · exact (sameBase_withLog ..).trans (sameBase_grant _)

/-! ### Margin unit -/

theorem sameBase_queueNotices (ns : List Notice) (s : State) : SameBase s (s.queueNotices ns) :=
  ⟨rfl, rfl, rfl, rfl, rfl, rfl⟩

theorem sameBase_setPoint (p : Point) (s : State) : SameBase s (s.setPoint p) := ⟨rfl, rfl, rfl, rfl, rfl, rfl⟩

theorem sameBase_finishPoint (v : Verdict) (s : State) : SameBase s (s.finishPoint v) := ⟨rfl, rfl, rfl, rfl, rfl, rfl⟩

theorem sameBase_pointTransition (a b : CheckerState) (p : Point) (s : State) :
    SameBase s (s.pointTransition a b p) := by
  unfold State.pointTransition
  split
  · split
    · exact sameBase_setPoint ..
    · exact SameBase.refl s
  · split
    · exact sameBase_setPoint ..
    · split
      · exact sameBase_finishPoint ..
      · exact SameBase.refl s
  · split
    · exact sameBase_finishPoint ..
    · exact SameBase.refl s

theorem sameBase_marginTransition (l : Lane) (a b : CheckerState) (s : State) :
    SameBase s (s.marginTransition l a b) := by
  unfold State.marginTransition
  split
  · split
    · exact sameBase_pointTransition ..
    · exact SameBase.refl s
  · exact SameBase.refl s

theorem sameBase_dwellWord (l : Lane) (n : Nat) (s : State) : SameBase s (s.dwellWord l n) := by
  unfold State.dwellWord
  split
  · exact SameBase.refl s
  · split
    · split
      · exact sameBase_setPoint ..
      · dsimp only
        split
        · exact (sameBase_setPoint ..).trans (sameBase_finishPoint ..)
        · exact sameBase_setPoint ..
      · exact SameBase.refl s
    · exact SameBase.refl s

theorem sameBase_settleExpiry (m : Bool) (s : State) : SameBase s (s.settleExpiry m) := by
  unfold State.settleExpiry
  split
  · exact SameBase.refl s
  · split
    · dsimp only
      split
      · exact sameBase_finishPoint ..
      · split
        · exact sameBase_setPoint ..
        · split
          · exact sameBase_finishPoint ..
          · exact sameBase_setPoint ..
    · exact SameBase.refl s

theorem sameBase_lockWaitExpiry (s : State) : SameBase s s.lockWaitExpiry := by
  unfold State.lockWaitExpiry
  split
  · exact SameBase.refl s
  · split
    · exact sameBase_finishPoint ..
    · exact SameBase.refl s

/-! ### Checkers -/

theorem sameBase_exitCandidate (m : Move) (s : State) : SameBase s (s.exitCandidate m) := by
  unfold State.exitCandidate
  dsimp only
  split
  · exact sameBase_offerLock ..
  · exact SameBase.refl s

theorem sameBase_entryCandidate (m : Move) (s : State) : SameBase s (s.entryCandidate m) := by
  unfold State.entryCandidate
  dsimp only
  split
  · exact (sameBase_offerLock ..).trans (sameBase_grant _)
  · exact SameBase.refl s

theorem sameBase_setReasonFlag (l : Lane) (r : Reason) (s : State) : SameBase s (s.setReasonFlag l r) := by
  unfold State.setReasonFlag
  split
  · exact sameBase_setFlag ..
  · exact SameBase.refl s

theorem sameBase_applyMove (s : State) (m : Move) : SameBase s (s.applyMove m) :=
  ((((((sameBase_modLane ..).trans (sameBase_setReasonFlag ..)).trans (sameBase_gateTransition ..)).trans
    (sameBase_entryCandidate ..)).trans (sameBase_marginTransition ..)).trans (sameBase_queueNotice ..))

/-- A checker transition touches none of these fields. -/
theorem sameBase_transition (ms : List Move) (s : State) : SameBase s (s.transition ms) :=
  ((SameBase.foldl (fun s m => s.exitCandidate m) (fun s m => sameBase_exitCandidate m s) ms s).trans
    (sameBase_grant _)).trans (SameBase.foldl State.applyMove sameBase_applyMove ms _)

theorem sameBase_signalLevel (l : Lane) (v : Bool) (s : State) : SameBase s (s.signalLevel l v) := by
  unfold State.signalLevel
  split
  · exact SameBase.refl s
  · dsimp only
    split
    · exact sameBase_modLane ..
    · exact (sameBase_modLane ..).trans (sameBase_transition ..)

theorem sameBase_seedLoaded (l : Lane) (rx : Reception) (s : State) : SameBase s (s.seedLoaded l rx) := by
  unfold State.seedLoaded
  dsimp only
  split
  · split
    · exact (sameBase_modLane ..).trans (sameBase_transition ..)
    · exact sameBase_modLane ..
  · exact SameBase.refl s

theorem sameBase_anchorMatch (l : Lane) (rx : Reception) (s : State) : SameBase s (s.anchorMatch l rx) := by
  unfold State.anchorMatch
  dsimp only
  split
  · split
    · refine SameBase.trans ?_ (sameBase_transition ..)
      split
      · exact (sameBase_modLane ..).trans (sameBase_modLane ..)
      · exact sameBase_modLane ..
    · exact sameBase_modLane ..
  · exact SameBase.refl s

theorem sameBase_verifyWord (l : Lane) (rx : Reception) (s : State) : SameBase s (s.verifyWord l rx) := by
  unfold State.verifyWord
  dsimp only
  split
  · split
    · exact sameBase_modLane ..
    · exact (sameBase_modLane ..).trans (sameBase_transition ..)
    · exact (sameBase_modLane ..).trans (sameBase_transition ..)
    · exact ((sameBase_modLane ..).trans (sameBase_modLane ..)).trans (sameBase_transition ..)
  · exact SameBase.refl s

theorem sameBase_acceptTally (l : Lane) (t : Tally) (s : State) : SameBase s (s.acceptTally l t) := by
  unfold State.acceptTally
  dsimp only
  split
  · exact (((sameBase_modLane ..).trans (sameBase_offerTally ..)).trans (sameBase_grant _)).trans (sameBase_testLimits ..)
  · exact (sameBase_modLane ..).trans (sameBase_testLimits ..)

theorem sameBase_account (l : Lane) (p : BitVec 15) (wr : WordResult) (s : State) : SameBase s (s.account l p wr) := by
  unfold State.account
  dsimp only
  split
  · split
    · exact sameBase_acceptTally ..
    · exact sameBase_saturateGate ..
  · exact SameBase.refl s

theorem sameBase_declareLoss (l : Lane) (written : Bool) (s : State) : SameBase s (s.declareLoss l written) := by
  unfold State.declareLoss
  cases written
  · exact sameBase_transition ..
  · exact (sameBase_writeCompletion s).trans (sameBase_transition ..)

theorem sameBase_lockedWord (l : Lane) (rx : Reception) (above : List Bool) (written : Bool) (s : State) :
    SameBase s (s.lockedWord l rx above written) := by
  unfold State.lockedWord
  dsimp only
  split
  · split
    · exact (((sameBase_modLane ..).trans (sameBase_account ..)).trans (sameBase_dwellWord ..)).trans
        (sameBase_declareLoss ..)
    · exact ((sameBase_modLane ..).trans (sameBase_account ..)).trans (sameBase_dwellWord ..)
  · exact SameBase.refl s

theorem sameBase_applyLaneSet (b : LaneSet) (p : LanePower) (r : Fin 4) (lb : Bool) (s : State) :
    SameBase s (s.applyLaneSet b p r lb) :=
  (sameBase_onLanes ..).trans (sameBase_transition ..)

end Sys2Proof.Machine
end

