-- ==== Sys2Proof/Laws/Memory.lean ====
section
/-! SUPPORT. Laws/Memory.lean: what the pattern-memory operations do, and that they keep the canonical form. -/

namespace Sys2Proof.Machine

/-- The canonical form without its bound. -/
abbrev Memory.sorted (m : List Host.Cell) : Prop := m.Pairwise (fun x y => x.1 < y.1)

theorem readByte_of_below {m : List Host.Cell} {a : Nat} (h : ∀ c ∈ m, a < c.1) : readByte m a = 0 := by
  induction m with
  | nil => rfl
  | cons c t ih =>
    obtain ⟨b, v⟩ := c
    have hb := h (b, v) (List.mem_cons_self ..)
    simp only [readByte]
    rw [if_neg (by simp only at hb; omega)]
    exact ih fun c hc => h c (List.mem_cons_of_mem _ hc)

/-- Where a byte is stored it is read back, and every other address reads as before. -/
theorem readByte_writeByte {m : List Host.Cell} (hm : Memory.sorted m) (a b : Nat) (v : Byte) :
    readByte (writeByte m a v) b = if a = b then v else readByte m b := by
  induction m with
  | nil =>
    rw [writeByte]
    split
    · next hv => rw [hv]; simp [readByte]
    · rfl
  | cons c t ih =>
    obtain ⟨k, w⟩ := c
    have ht := (List.pairwise_cons.1 hm).2
    have hlo : ∀ c ∈ t, k < c.1 := fun c hc => (List.pairwise_cons.1 hm).1 c hc
    simp only [writeByte]
    by_cases h1 : a < k
    · rw [if_pos h1]
      have hbelow : readByte ((k, w) :: t) a = 0 := by
        apply readByte_of_below
        intro c hc
        rcases List.mem_cons.1 hc with rfl | hc
        · exact h1
        · exact Nat.lt_trans h1 (hlo c hc)
      by_cases hv : v = 0
      · rw [if_pos hv]
        by_cases hab : a = b
        · rw [if_pos hab, ← hab, hbelow, hv]
        · rw [if_neg hab]
      · rw [if_neg hv]
        by_cases hab : a = b
        · simp [readByte, hab]
        · rw [if_neg hab]; conv_lhs => rw [readByte]
          rw [if_neg hab]
    · rw [if_neg h1]
      by_cases h2 : a = k
      · rw [if_pos h2]
        have hbelow : readByte t k = 0 := readByte_of_below hlo
        by_cases hv : v = 0
        · rw [if_pos hv]
          by_cases hab : a = b
          · rw [if_pos hab, ← hab, h2, hbelow, hv]
          · rw [if_neg hab, readByte, if_neg (by omega)]
        · rw [if_neg hv]
          by_cases hab : a = b
          · simp [readByte, hab]
          · rw [if_neg hab, readByte, if_neg hab, readByte, if_neg (by omega)]
      · rw [if_neg h2, readByte, readByte, ih ht]
        by_cases hkb : k = b
        · rw [if_pos hkb, if_pos hkb, if_neg (by omega)]
        · rw [if_neg hkb, if_neg hkb]

theorem mem_writeByte {m : List Host.Cell} {a : Nat} {v : Byte} {c : Host.Cell} (h : c ∈ writeByte m a v) :
    c ∈ m ∨ (c = (a, v) ∧ v ≠ 0) := by
  induction m with
  | nil =>
    simp only [writeByte] at h
    split at h
    · cases h
    · next hv => exact .inr ⟨List.mem_singleton.1 h, hv⟩
  | cons d t ih =>
    obtain ⟨k, w⟩ := d
    simp only [writeByte] at h
    split at h
    · split at h
      · exact .inl h
      · next hv =>
        rcases List.mem_cons.1 h with rfl | h
        · exact .inr ⟨rfl, hv⟩
        · exact .inl h
    · split at h
      · split at h
        · exact .inl (List.mem_cons_of_mem _ h)
        · next hv =>
          rcases List.mem_cons.1 h with rfl | h
          · exact .inr ⟨rfl, hv⟩
          · exact .inl (List.mem_cons_of_mem _ h)
      · rcases List.mem_cons.1 h with rfl | h
        · exact .inl (List.mem_cons_self ..)
        · rcases ih h with h | h
          · exact .inl (List.mem_cons_of_mem _ h)
          · exact .inr h

theorem sorted_writeByte {m : List Host.Cell} (hm : Memory.sorted m) (a : Nat) (v : Byte) :
    Memory.sorted (writeByte m a v) := by
  induction m with
  | nil => simp only [writeByte]; split <;> simp [Memory.sorted]
  | cons d t ih =>
    obtain ⟨k, w⟩ := d
    obtain ⟨hlo, ht⟩ := List.pairwise_cons.1 hm
    simp only [writeByte]
    split
    · next h1 =>
      split
      · exact hm
      · refine List.pairwise_cons.2 ⟨fun c hc => ?_, hm⟩
        rcases List.mem_cons.1 hc with rfl | hc
        · exact h1
        · exact Nat.lt_trans h1 (hlo c hc)
    · split
      · next h2 =>
        subst h2
        split
        · exact ht
        · exact List.pairwise_cons.2 ⟨hlo, ht⟩
      · refine List.pairwise_cons.2 ⟨fun c hc => ?_, ih ht⟩
        rcases mem_writeByte hc with hc | ⟨rfl, _⟩
        · exact hlo c hc
        · show k < a; omega

/-- Storing a byte inside the memory keeps its canonical form. -/
theorem wf_writeByte {m : List Host.Cell} (hm : Memory.wf m) {a : Nat} (ha : a < Config.memoryBytes) (v : Byte) :
    Memory.wf (writeByte m a v) := by
  refine ⟨sorted_writeByte hm.1 a v, fun c hc => ?_⟩
  rcases mem_writeByte hc with hc | ⟨rfl, hv⟩
  · exact hm.2 c hc
  · exact ⟨hv, ha⟩

/-- Storing bytes inside the memory keeps its canonical form. -/
theorem wf_writeBytes {m : List Host.Cell} (hm : Memory.wf m) {a : Nat} {vs : List Byte}
    (ha : a + vs.length ≤ Config.memoryBytes) : Memory.wf (writeBytes m a vs) := by
  induction vs generalizing m a with
  | nil => exact hm
  | cons v vs ih =>
    rw [List.length_cons] at ha
    exact ih (wf_writeByte hm (by omega) v) (by omega)

/-- The stored bytes are read back, and every other address reads as before. -/
theorem readByte_writeBytes {m : List Host.Cell} (hm : Memory.sorted m) (a b : Nat) (vs : List Byte) :
    readByte (writeBytes m a vs) b = if a ≤ b ∧ b < a + vs.length then vs.getD (b - a) 0 else readByte m b := by
  induction vs generalizing m a with
  | nil => simp only [writeBytes, List.length_nil]; rw [if_neg (by omega)]
  | cons v vs ih =>
    rw [writeBytes, ih (sorted_writeByte hm a v), readByte_writeByte hm, List.length_cons]
    by_cases h1 : a = b
    · subst h1
      rw [if_neg (by omega), if_pos rfl, if_pos (by omega), Nat.sub_self]; rfl
    · by_cases h2 : a + 1 ≤ b ∧ b < a + 1 + vs.length
      · rw [if_pos h2, if_pos (by omega)]
        have : b - a = (b - (a + 1)) + 1 := by omega
        rw [this, List.getD_cons_succ]
      · rw [if_neg h2, if_neg h1, if_neg (by omega)]

/-- The memory after a power-on reset is canonical. -/
theorem wf_reset : Memory.wf State.reset.store.memory := by decide

end Sys2Proof.Machine
end

