-- ==== Sys2Proof/Laws/PerInstr.lean ====
section
/-! SUPPORT. Laws/PerInstr.lean: one lemma per command of each family of LAWS.json. -/

namespace Sys2Proof.Laws

/-- The request a command executes, put back through the table of request kind codes (R170), is that command. -/
def KindRoundTrip.Statement (i : Instr) : Prop :=
  ∀ code r, requestOf i = some (code, r) → decodeKind code r = i

/-- An unlisted kind code is an UNKNOWN_KIND. -/
theorem decodeKind_unknown (code : BitVec 6) (hk : ¬isKnownKind code = true) (r : Req) :
    decodeKind code r = .unknownKind code r := by
  have key : ∀ n < 64, ¬isKnownKind (BitVec.ofNat 6 n) = true →
      decodeKind (BitVec.ofNat 6 n) r = .unknownKind (BitVec.ofNat 6 n) r := by
    intro n hn hk
    interval_cases n <;> first | rfl | exact absurd (by decide) hk
  have h := key code.toNat code.isLt
  rw [BitVec.ofNat_toNat, BitVec.setWidth_eq] at h
  exact h hk

theorem KindRoundTrip.powerOnReset (straps : Straps) : KindRoundTrip.Statement (.powerOnReset straps) := by
  intro code r h; cases h

theorem KindRoundTrip.lineReset (straps : Straps) : KindRoundTrip.Statement (.lineReset straps) := by
  intro code r h; cases h

theorem KindRoundTrip.softReset : KindRoundTrip.Statement (.softReset) := by
  intro code r h; cases h

theorem KindRoundTrip.frameReceived (chars : List Character) : KindRoundTrip.Statement (.frameReceived chars) := by
  intro code r h; cases h

theorem KindRoundTrip.interByteGap : KindRoundTrip.Statement (.interByteGap) := by
  intro code r h; cases h

theorem KindRoundTrip.unknownKind (code : BitVec 6) (r : Req) : KindRoundTrip.Statement (.unknownKind code r) := by
  intro code' r' h
  simp only [requestOf] at h
  split at h
  · cases h
  · next hk =>
    obtain ⟨rfl, rfl⟩ := Prod.mk.inj (Option.some.inj h)
    exact decodeKind_unknown code hk _

theorem KindRoundTrip.frameSent : KindRoundTrip.Statement (.frameSent) := by
  intro code r h; cases h

theorem KindRoundTrip.uptimeTick : KindRoundTrip.Statement (.uptimeTick) := by
  intro code r h; cases h

theorem KindRoundTrip.identify (r : Req) : KindRoundTrip.Statement (.identify r) := by
  intro code r h; cases h; rfl

theorem KindRoundTrip.status (r : Req) : KindRoundTrip.Statement (.status r) := by
  intro code r h; cases h; rfl

theorem KindRoundTrip.reset (r : Req) : KindRoundTrip.Statement (.reset r) := by
  intro code r h; cases h; rfl

theorem KindRoundTrip.noticeMask (r : Req) : KindRoundTrip.Statement (.noticeMask r) := by
  intro code r h; cases h; rfl

theorem KindRoundTrip.historyRead (r : Req) : KindRoundTrip.Statement (.historyRead r) := by
  intro code r h; cases h; rfl

theorem KindRoundTrip.historyClear (r : Req) : KindRoundTrip.Statement (.historyClear r) := by
  intro code r h; cases h; rfl

theorem KindRoundTrip.regionDefine (r : Req) : KindRoundTrip.Statement (.regionDefine r) := by
  intro code r h; cases h; rfl

theorem KindRoundTrip.regionDelete (r : Req) : KindRoundTrip.Statement (.regionDelete r) := by
  intro code r h; cases h; rfl

theorem KindRoundTrip.regionRead (r : Req) : KindRoundTrip.Statement (.regionRead r) := by
  intro code r h; cases h; rfl

theorem KindRoundTrip.patternWrite (r : Req) : KindRoundTrip.Statement (.patternWrite r) := by
  intro code r h; cases h; rfl

theorem KindRoundTrip.patternRead (r : Req) : KindRoundTrip.Statement (.patternRead r) := by
  intro code r h; cases h; rfl

theorem KindRoundTrip.laneSet (r : Req) : KindRoundTrip.Statement (.laneSet r) := by
  intro code r h; cases h; rfl

theorem KindRoundTrip.genSet (r : Req) : KindRoundTrip.Statement (.genSet r) := by
  intro code r h; cases h; rfl

theorem KindRoundTrip.genInsert (r : Req) : KindRoundTrip.Statement (.genInsert r) := by
  intro code r h; cases h; rfl

theorem KindRoundTrip.genRead (r : Req) : KindRoundTrip.Statement (.genRead r) := by
  intro code r h; cases h; rfl

theorem KindRoundTrip.generatorWordStart (lane : Lane) : KindRoundTrip.Statement (.generatorWordStart lane) := by
  intro code r h; cases h

theorem KindRoundTrip.chkSet (r : Req) : KindRoundTrip.Statement (.chkSet r) := by
  intro code r h; cases h; rfl

theorem KindRoundTrip.chkHold (r : Req) : KindRoundTrip.Statement (.chkHold r) := by
  intro code r h; cases h; rfl

theorem KindRoundTrip.chkRelease (r : Req) : KindRoundTrip.Statement (.chkRelease r) := by
  intro code r h; cases h; rfl

theorem KindRoundTrip.chkRead (r : Req) : KindRoundTrip.Statement (.chkRead r) := by
  intro code r h; cases h; rfl

theorem KindRoundTrip.signalRise (lane : Lane) : KindRoundTrip.Statement (.signalRise lane) := by
  intro code r h; cases h

theorem KindRoundTrip.signalFall (lane : Lane) : KindRoundTrip.Statement (.signalFall lane) := by
  intro code r h; cases h

theorem KindRoundTrip.seedLoaded (lane : Lane) (rx : Reception) : KindRoundTrip.Statement (.seedLoaded lane rx) := by
  intro code r h; cases h

theorem KindRoundTrip.anchorMatch (lane : Lane) (rx : Reception) : KindRoundTrip.Statement (.anchorMatch lane rx) := by
  intro code r h; cases h

theorem KindRoundTrip.verifyWordEnd (lane : Lane) (rx : Reception) : KindRoundTrip.Statement (.verifyWordEnd lane rx) := by
  intro code r h; cases h

theorem KindRoundTrip.wordResult (lane : Lane) (rx : Reception) (beside : Alongside) :
    KindRoundTrip.Statement (.wordResult lane rx beside) := by
  intro code r h; cases h

theorem KindRoundTrip.writeCompletion : KindRoundTrip.Statement (.writeCompletion) := by
  intro code r h; cases h

theorem KindRoundTrip.gateStart (r : Req) : KindRoundTrip.Statement (.gateStart r) := by
  intro code r h; cases h; rfl

theorem KindRoundTrip.gateStop (r : Req) : KindRoundTrip.Statement (.gateStop r) := by
  intro code r h; cases h; rfl

theorem KindRoundTrip.gateRead (r : Req) : KindRoundTrip.Statement (.gateRead r) := by
  intro code r h; cases h; rfl

theorem KindRoundTrip.combine (r : Req) : KindRoundTrip.Statement (.combine r) := by
  intro code r h; cases h; rfl

theorem KindRoundTrip.gateTimerExpiry (lane : Lane) : KindRoundTrip.Statement (.gateTimerExpiry lane) := by
  intro code r h; cases h

theorem KindRoundTrip.filterSet (r : Req) : KindRoundTrip.Statement (.filterSet r) := by
  intro code r h; cases h; rfl

theorem KindRoundTrip.filterClear (r : Req) : KindRoundTrip.Statement (.filterClear r) := by
  intro code r h; cases h; rfl

theorem KindRoundTrip.filterRead (r : Req) : KindRoundTrip.Statement (.filterRead r) := by
  intro code r h; cases h; rfl

theorem KindRoundTrip.filterProbe (r : Req) : KindRoundTrip.Statement (.filterProbe r) := by
  intro code r h; cases h; rfl

theorem KindRoundTrip.sweepSet (r : Req) : KindRoundTrip.Statement (.sweepSet r) := by
  intro code r h; cases h; rfl

theorem KindRoundTrip.sweepStart (r : Req) : KindRoundTrip.Statement (.sweepStart r) := by
  intro code r h; cases h; rfl

theorem KindRoundTrip.sweepStop (r : Req) : KindRoundTrip.Statement (.sweepStop r) := by
  intro code r h; cases h; rfl

theorem KindRoundTrip.spotStart (r : Req) : KindRoundTrip.Statement (.spotStart r) := by
  intro code r h; cases h; rfl

theorem KindRoundTrip.sweepRead (r : Req) : KindRoundTrip.Statement (.sweepRead r) := by
  intro code r h; cases h; rfl

theorem KindRoundTrip.settleExpiry (midWord : Bool) : KindRoundTrip.Statement (.settleExpiry midWord) := by
  intro code r h; cases h

theorem KindRoundTrip.lockWaitExpiry : KindRoundTrip.Statement (.lockWaitExpiry) := by
  intro code r h; cases h

theorem KindRoundTrip.captureSet (r : Req) : KindRoundTrip.Statement (.captureSet r) := by
  intro code r h; cases h; rfl

theorem KindRoundTrip.captureRead (r : Req) : KindRoundTrip.Statement (.captureRead r) := by
  intro code r h; cases h; rfl

theorem KindRoundTrip.logRead (r : Req) : KindRoundTrip.Statement (.logRead r) := by
  intro code r h; cases h; rfl

theorem KindRoundTrip.logClear (r : Req) : KindRoundTrip.Statement (.logClear r) := by
  intro code r h; cases h; rfl

theorem KindRoundTrip.logSet (r : Req) : KindRoundTrip.Statement (.logSet r) := by
  intro code r h; cases h; rfl

end Sys2Proof.Laws
end

