-- ==== Sys2Proof/Laws/Serve.lean ====
section
/-! SUPPORT. Laws/Serve.lean: what executing a request, queueing a notice and beginning a frame can do. -/

namespace Sys2Proof.Machine

/-! ### Execution (R161, R162) -/

/-- A request that the line takes executes on the state from whose queue it has left; then a frame may begin. -/
theorem State.execute_takes {q : Request} {s : State} (h : s.line.Takes q) (body : State → State) :
    s.execute q body = (body s.popRequest).pump := by
  obtain ⟨hq, hr, hb⟩ := h
  have hready : ∀ c : ControlLine, c.inbound.head? = some q → c.resetDue = s.line.resetDue →
      c.replies = s.line.replies → c.ready q = true := by
    intro c h1 h2 h3
    simp only [ControlLine.ready, h1, h2, h3, hr]
    rcases hb with hb | hb <;> simp [hb]
  rcases hq with hq | hq
  · have hadm : s.line.arrive q = { s.line with inbound := [q] } := by
      simp [ControlLine.arrive, ControlLine.offer, hq, Config.inboundCapacity]
    simp only [State.execute, hadm]
    rw [if_pos (hready { s.line with inbound := [q] } rfl rfl rfl)]
    simp [State.popRequest, hq]
  · have hadm : s.line.arrive q = s.line := by simp [ControlLine.arrive, hq]
    simp only [State.execute, hadm]
    rw [if_pos (hready _ hq rfl rfl)]

/-- A request that may not execute yet changes at most the inbound queue. -/
theorem State.execute_waits {q : Request} {s : State} (h : (s.line.arrive q).ready q = false) (body : State → State) :
    s.execute q body = { s with line := s.line.arrive q } := by
  simp [State.execute, h]

/-- A request to the part with a right length acts and is answered. -/
theorem State.serve_own {s : State} {kind : BitVec 6} {tag : Byte} {body : List Byte} (h : s.TakesOwn kind tag body)
    (hlen : bodyLengthOk kind body.length = true) (act : List Byte → State → State × Answer) :
    s.serve kind (own tag body) act
      = (act body s.popRequest).1.replied kind tag (act body s.popRequest).2.status (act body s.popRequest).2.fields := by
  rw [State.serve, State.execute_takes h]
  simp [State.perform, requestFor, own, hlen, State.answerTo, State.replied]

/-- A request to the part with a wrong length is answered BAD_LENGTH. -/
theorem State.serve_badLength {s : State} {kind : BitVec 6} {tag : Byte} {body : List Byte}
    (h : s.TakesOwn kind tag body) (hlen : bodyLengthOk kind body.length = false)
    (act : List Byte → State → State × Answer) :
    s.serve kind (own tag body) act = s.popRequest.replied kind tag .badLength .none := by
  rw [State.serve, State.execute_takes h]
  simp [State.perform, requestFor, own, hlen, State.answerTo, State.replied, refuse]

/-- A broadcast of a broadcast kind with a right length acts and is not answered. -/
theorem State.serve_broadcast {s : State} {kind : BitVec 6} {tag : Byte} {body : List Byte}
    (h : s.TakesAll kind tag body) (hk : broadcastKind kind = true) (hlen : bodyLengthOk kind body.length = true)
    (act : List Byte → State → State × Answer) :
    s.serve kind (toAll tag body) act = (act body s.popRequest).1.pump := by
  rw [State.serve, State.execute_takes h]
  simp [State.perform, requestFor, toAll, hk, hlen]

/-- Any other broadcast leaves the queue without effect. -/
theorem State.serve_broadcast_ignored {s : State} {kind : BitVec 6} {tag : Byte} {body : List Byte}
    (h : s.TakesAll kind tag body) (hk : (broadcastKind kind && bodyLengthOk kind body.length) = false)
    (act : List Byte → State → State × Answer) :
    s.serve kind (toAll tag body) act = s.popRequest.pump := by
  rw [State.serve, State.execute_takes h]
  simp [State.perform, requestFor, toAll, hk]

/-! ### The outbox (R164) -/

/-- What the outbox holds after a notice is queued. -/
theorem mem_outboxPut {n m : Notice} {ob : List Notice} (h : m ∈ outboxPut n ob) : m = n ∨ m ∈ ob := by
  induction ob with
  | nil => exact .inl (List.mem_singleton.1 h)
  | cons a t ih =>
    rw [outboxPut] at h
    split at h
    · rcases List.mem_cons.1 h with h | h
      · exact .inl h
      · exact .inr (List.mem_cons_of_mem _ h)
    · rcases List.mem_cons.1 h with h | h
      · exact .inr (h ▸ List.mem_cons_self ..)
      · rcases ih h with h | h
        · exact .inl h
        · exact .inr (List.mem_cons_of_mem _ h)

theorem self_mem_outboxPut (n : Notice) (ob : List Notice) : n ∈ outboxPut n ob := by
  induction ob with
  | nil => exact List.mem_singleton.2 rfl
  | cons a t ih =>
    rw [outboxPut]
    split
    · exact List.mem_cons_self ..
    · exact List.mem_cons_of_mem _ ih

theorem Notice.sameKey_iff (m n : Notice) : m.sameKey n = true ↔ m.kind = n.kind ∧ m.lane = n.lane := by
  simp [Notice.sameKey]

/-- Queueing a notice keeps at most one per kind and lane. -/
theorem pairwise_outboxPut {ob : List Notice} (h : ob.Pairwise fun m n => m.sameKey n = false) (n : Notice) :
    (outboxPut n ob).Pairwise fun m n => m.sameKey n = false := by
  induction ob with
  | nil => simp [outboxPut]
  | cons a t ih =>
    obtain ⟨ha, ht⟩ := List.pairwise_cons.1 h
    rw [outboxPut]
    split
    · next hk =>
      refine List.pairwise_cons.2 ⟨fun m hm => ?_, ht⟩
      have hk := (Notice.sameKey_iff a n).1 hk
      have ham := ha m hm
      rw [← Bool.not_eq_true, Notice.sameKey_iff] at ham ⊢
      rwa [← hk.1, ← hk.2]
    · next hk =>
      refine List.pairwise_cons.2 ⟨fun m hm => ?_, ih ht⟩
      rcases mem_outboxPut hm with rfl | hm
      · simpa using hk
      · exact ha m hm

/-! ### Beginning a frame (R163, R169) -/

/-- Everything beginning a frame can do: nothing; the oldest reply's first segment; or the first notice. -/
theorem ControlLine.pump_cases (c : ControlLine) :
    (c.pump = c ∧ (c.sending ≠ none ∨ (c.replies = [] ∧ (c.outbox = [] ∨ c.resetDue = true)))) ∨
    (c.sending = none ∧ c.replies ≠ [] ∧ c.pump = { c with sending := some (.reply 0) }) ∨
    (c.sending = none ∧ c.replies = [] ∧ c.resetDue = false ∧ ∃ n rest, c.outbox = n :: rest ∧
      c.pump = { c with sending := some (.notice c.noticeCount n), outbox := rest,
                        noticeCount := (c.noticeCount + 1) % 256 }) := by
  unfold ControlLine.pump
  cases hs : c.sending with
  | some _ => left; simp
  | none =>
    cases hr : c.replies with
    | cons r t => right; left; simp
    | nil =>
      cases ho : c.outbox with
      | nil => left; simp
      | cons n t =>
        cases hd : c.resetDue with
        | true => left; simp
        | false => right; right; exact ⟨rfl, rfl, rfl, n, t, rfl, by simp⟩

end Sys2Proof.Machine
end

