-- ==== Sys2Proof/Laws/Wire.lean ====
section
/-! SUPPORT. Laws/Wire.lean: what leaves the part: characters, segments and frames on the control line, amplitudes on a
transmit lane. -/

namespace Sys2Proof.Machine

/-! ### The control line (R159, R162, R163, R170) -/

/-- A byte sent is the byte received (R159). -/
@[simp] theorem characterByte_characterOf (b : Byte) : characterByte (characterOf b) = b := by
  revert b; decide

@[simp] theorem map_characterByte_characterOf (bs : List Byte) : (bs.map characterOf).map characterByte = bs := by
  rw [List.map_map, show characterByte ∘ characterOf = id from funext characterByte_characterOf, List.map_id]

/-- The bytes of the characters on the line are those of the frame being sent. -/
theorem bytes_lineOutput (s : State) : s.lineOutput.map characterByte = s.frameOnLine :=
  map_characterByte_characterOf _

/-- Nothing is sent on a free line (R163). -/
theorem frameOnLine_free (s : State) (h : s.line.sending = none) : s.frameOnLine = [] := by
  simp [State.frameOnLine, h]

theorem segments_pos (r : Reply) : 0 < r.segments := Nat.lt_of_lt_of_le Nat.zero_lt_one (Nat.le_max_left ..)

/-- A reply's segment fits the body of a frame (section 10.2, R170). -/
theorem length_segmentBody_le (r : Reply) (i : Nat) : (r.segmentBody i).length ≤ Config.bodyBytes := by
  have h : ((r.content.drop (Config.segmentBytes * i)).take Config.segmentBytes).length ≤ Config.segmentBytes :=
    List.length_take_le ..
  simp only [Reply.segmentBody, List.length_cons, Config.bodyBytes, Config.segmentBytes] at *
  omega

/-! ### A transmit lane (R22, R24) -/

@[simp] theorem length_amplitudes (before : Int) (p : Production) : (p.amplitudes before).length = p.symbols - 1 := by
  simp [Production.amplitudes]

/-- A word's start settles one amplitude fewer than the word has symbols, and one of the word before if there was one. -/
theorem length_settledAmplitudes (before : Option Production) (p : Production) :
    (settledAmplitudes before p).length = p.symbols - 1 + before.toList.length := by
  cases before <;> simp [settledAmplitudes, Nat.add_comm]

/-- A received symbol is decoded to the pair it was formed from (R14). -/
@[simp] theorem levelBits_grayLevel (a b : Bool) : levelBits (grayLevel a b) = [a, b] := by revert a b; decide

/-- Inversion exchanges levels 0 and 2, and levels 1 and 3 (R14). -/
theorem grayLevel_not (a b : Bool) : (grayLevel (!a) (!b)).val = ((grayLevel a b).val + 2) % 4 := by
  revert a b; decide

@[simp] theorem length_levelBits (v : PamLevel) : (levelBits v).length = 2 := by revert v; decide

/-- The levels of a word, received on a PAM4 lane, give the word's bits (R14, R34). -/
theorem bits_symbolLevel (w : Word) :
    receivedBits true (.pam4 ((List.range 16).map (symbolLevel w))) = wordBits w := by
  simp only [receivedBits, if_true, List.flatMap_map, symbolLevel, levelBits_grayLevel]
  rfl

@[simp] theorem length_sampledBits_nrz (eye : Eye) (w : Word) (above : List Bool) :
    (sampledBits false eye w above).length = above.length := rfl

theorem length_flatMap_pairs {α : Type} (f : α → List Bool) (h : ∀ a, (f a).length = 2) (xs : List α) :
    (xs.flatMap f).length = 2 * xs.length := by
  induction xs with
  | nil => rfl
  | cons a xs ih => simp [h, ih]; omega

/-- The sampler gives as many bits as the lane: two for each PAM4 symbol (R14, R123). -/
@[simp] theorem length_sampledBits_pam4 (eye : Eye) (w : Word) (above : List Bool) :
    (sampledBits true eye w above).length = 2 * above.length := by
  simp only [sampledBits, if_true, length_flatMap_pairs _ fun p => length_levelBits _, List.length_zipIdx]

/-- Whatever the moved boundary says, the sampler's level differs from the lane's by at most one (R123). -/
theorem sampledLevel_near (eye : Eye) (own : PamLevel) (a : Bool) :
    (eye.sampledLevel own a).val ≤ own.val + 1 ∧ own.val ≤ (eye.sampledLevel own a).val + 1 := by
  revert own; cases eye <;> cases a <;> decide

/-- A sampler at home reads nothing of its own (R122). -/
theorem sampledWord_home (l : Lane) (above : List Bool) (w : Word) (s : State) (h : s.margin.sampler = none) :
    s.sampledWord l above w = w := by simp [State.sampledWord, h]

/-- With loopback on the sampler reads the lane's own bits at every offset (R123). -/
theorem sampledWord_loopback (l : Lane) (above : List Bool) (w : Word) (s : State) (h : (s.lane l).loopback = true) :
    s.sampledWord l above w = w := by
  unfold State.sampledWord
  split <;> simp [h]

/-- A lane with loopback on does not look at its receive lane (R31). -/
theorem inputBits_loopback (rx : Reception) (x : LaneState) (h : x.loopback = true) : x.inputBits rx = x.path := by
  simp [LaneState.inputBits, h]

/-- Every nominal amplitude lies within full swing (R24). -/
theorem nominal_bounds (p : Production) (j : Nat) : -3 ≤ p.nominal j ∧ p.nominal j ≤ 3 := by
  have h := (symbolLevel p.word j).isLt
  unfold Production.nominal pamAmplitude nrzAmplitude
  split_ifs <;> omega

/-- A triple whose magnitudes sum to at most 63 keeps every amplitude within full swing, 189 of 189ths (R24). -/
theorem shapedAmplitude_withinFullSwing {t : Triple} {a b c : Int} (ht : t.InRange) (ha : -3 ≤ a ∧ a ≤ 3)
    (hb : -3 ≤ b ∧ b ≤ 3) (hc : -3 ≤ c ∧ c ≤ 3) : WithinFullSwing (shapedAmplitude t a b c) := by
  obtain ⟨-, hpre, hmain, -, -, hpost, hsum⟩ := ht
  unfold WithinFullSwing shapedAmplitude
  constructor <;> nlinarith

/-- What stands before a word lies within full swing, also after silence (R24, log 40). -/
theorem precedingAmplitude_bounds (before : Option Production) :
    -3 ≤ precedingAmplitude before ∧ precedingAmplitude before ≤ 3 := by
  cases before with
  | none => have h := Config.silentAmplitude.isLt; simp only [precedingAmplitude]; omega
  | some old => exact nominal_bounds old _

/-- With the triples in range, every amplitude that a word's start settles lies within full swing (R24). -/
theorem settledAmplitudes_withinFullSwing {before : Option Production} {p : Production}
    (hb : ∀ old, before = some old → old.triple.InRange) (hp : p.triple.InRange) :
    ∀ a ∈ settledAmplitudes before p, WithinFullSwing a := by
  intro a ha
  rw [settledAmplitudes, List.mem_append] at ha
  rcases ha with ha | ha
  · cases before with
    | none => simp at ha
    | some old =>
      simp only [Option.map_some, Option.toList_some, List.mem_singleton] at ha
      exact ha ▸ shapedAmplitude_withinFullSwing (hb old rfl) (nominal_bounds ..) (nominal_bounds ..) (nominal_bounds ..)
  · obtain ⟨j, -, rfl⟩ := List.mem_map.1 ha
    refine shapedAmplitude_withinFullSwing hp ?_ (nominal_bounds ..) (nominal_bounds ..)
    split
    · exact precedingAmplitude_bounds before
    · exact nominal_bounds ..

/-- Every preset's triple is in range (section 2.3). -/
theorem presetTriple_inRange (n : Nat) : (presetTriple n).InRange := by
  unfold presetTriple Triple.InRange
  split <;> decide

/-- A custom triple as applied is in range (R25). -/
theorem applied_inRange (t : Triple) : t.applied.InRange := by
  simp only [Triple.InRange, Triple.applied, Triple.lowerMain, Triple.clampRanges, Triple.magnitude, clampInt]
  split_ifs <;> omega

end Sys2Proof.Machine
end

