-- ==== Sys2Proof/WellFormed.lean ====
section
/-! DEFINITION. WellFormed.lean: the commands that can be sent. -/

namespace Sys2Proof

/-- A body that one frame can carry: 0 to 240 bytes (section 10.2). -/
def Req.wf (r : Req) : Bool := r.body.length ≤ 240

/-- A reception of one whole word: 32 NRZ symbols or 16 PAM4 symbols (section 2.2, R51). -/
def Reception.oneWord : Reception → Bool
  | .nrz bits => bits.length == 32
  | .pam4 levels => levels.length == 16

/-- The number of symbols received. -/
def Reception.symbols : Reception → Nat
  | .nrz bits => bits.length
  | .pam4 levels => levels.length

/-- A command that the outside world can send: a request's body fits a frame, an UNKNOWN_KIND names no known kind, a
FRAME_RECEIVED brings at least one character, each begun by its start bit, a low level (R159), and a word event brings one
word, and for a WORD_RESULT one further decision for each of its symbols (R49, R123). -/
def Instr.wf (i : Instr) : Bool :=
  match i with
  | .unknownKind code r => !isKnownKind code && r.wf
  | .frameReceived chars => !chars.isEmpty && chars.all fun c => !c.getLsbD 0
  | .verifyWordEnd _ rx => rx.oneWord
  | .wordResult _ rx beside => rx.oneWord && beside.above.length == rx.symbols
  | i => match requestOf i with
    | some (_, r) => r.wf
    | none => true

end Sys2Proof
end

