-- ==== Sys2Proof/Tests/Slice0.lean ====
section
/-! SUPPORT. Tests/Slice0.lean: ill-formed commands that WellFormed refuses, the worked examples of the manual, and for
every obligation with hypotheses concrete states that meet them. Expected values are the manual's own. -/

namespace Sys2Proof.Tests

open Sys2Proof Sys2Proof.Machine

/-! ### Small states -/

/-- What a command leaves. -/
def run (i : Instr) (s : State) : State :=
  match exec i s with
  | .next t => t
  | .fault _ => s
  | .refused _ => s

/-- A word as an NRZ lane brings it, and as a PAM4 lane does. -/
def nrzWord (w : Word) : Reception := .nrz (wordBits w)
def pamWord (w : Word) : Reception := .pam4 ((List.range 16).map (symbolLevel w))

/-- Gate settings without any stop but those given. -/
def cfg : GateSettings :=
  { mode := .now, policy := .abort, duration := 5, bitLimit := 0, errorLimit := 0, target := ⟨1000, -12, false⟩,
    level := .cl95, armTimeout := 3, interval := 1000 }

/-- A powered lane 0 with a signal, its checker in phase `p` and its gate in state `g`. -/
def lane0 (p : Phase) (g : GateState) : LaneState :=
  { LaneState.initial true with
    power := .full, gen := Generator.initial.start, chk := { phase := p, config := .initial }
    gate := { Gate.initial with state := g, settings := some cfg, startPattern := some 7, startStamp := some 0 } }

/-- The part with this lane 0. -/
def on0 (x : LaneState) : State := { State.reset with lanes := State.reset.lanes.set 0 x }

/-- A locked phase at the start of a pattern. -/
def lockedAt (id : Nat) : Phase := .locked (startSource id) 0 0 0

/-- The part with a locked lane 0 and a RUNNING gate. -/
def busy : State := on0 (lane0 (lockedAt 7) .running)

/-- The part with region 16 at word 2, 128 bits long. -/
def withRegion : State := { State.reset with store := State.reset.store.setRegion 16 (some { base := 2, length := 128 }) }

/-- The part with straps for four lanes. -/
def fourLanes : State := { State.reset with straps := { node := 1, eightLanes := false, baud := 0 } }

/-- A plan for lanes 1 and 2 (section 8.6). -/
def plan12 : Plan := { Plan.initial with lanes := 6, start := -4, step := 4, count := 3 }

/-- A point on lane 0. -/
def point (ph : PointPhase) (mode : VerdictMode) (limit : Nat) : Point :=
  { settings := { lane := 0, axis := .phase, eye := .middle, offset := 0, dwell := 64, limit := limit, mode := mode
                  lockWait := 0 }
    phase := ph, bits := 32, errors := 1 }

/-- A sweep of `plan12` at a place. -/
def sweepAt (l : Lane) (i : Nat) (continuous : Bool) : Sweep :=
  { plan := { plan12 with continuous := continuous }, lane := l, index := i, pass := 7 }

/-- The part with this margin state. -/
def margin (m : MarginState) : State := { busy with margin := { Margin.initial with state := m } }

/-- A candidate of a lane. -/
def cand (l : Lane) : Candidate := { lane := l, elapsed := 0, bits := 0, body := .lockGained .locked .verified }

/-- A log of `n` equal records, for its length alone. -/
def records (n : Nat) : List Record := List.replicate n { sequence := 0, candidate := cand 2 }

/-- The port of section 9.3's worked sequence: lane 2 being written, the slots given full. -/
def writing2 (n : Nat) (arb : ArbPolicy) (full : LaneSet) : State :=
  { busy with log := { CaptureLog.initial with
      records := records n, arb := arb, lastGranted := 2, port := .writing 2 .stop, nextSequence := 1000
      lanes := Vector.ofFn fun l =>
        { mode := .words, quota := 0, quotaCount := 0, slot := if full.getLsbD l.val then some (cand l) else none } } }

/-- At an idle line every request is taken. -/
theorem taken (s : State) (q : Request) (h : s.line = .initial) : s.line.Takes q := by
  rw [h]; exact ⟨.inl rfl, rfl, .inr (by decide)⟩

/-- Lane set {0} may be named whenever the straps are those of the reset state. -/
theorem names0 (s : State) (h : s.straps = State.reset.straps) : s.MayName 1 := by
  refine ⟨by decide, fun l _ => ?_⟩
  show l.val < strapLaneCount s.straps
  rw [h]; exact l.isLt

/-! ### WellFormed refuses what cannot be sent -/

theorem test_wf_known_kind_is_not_unknown : Instr.wf (.unknownKind 0x01 (own 0 [])) = false := by decide
theorem test_wf_body_too_long : Instr.wf (.identify (own 0 (List.replicate 241 0))) = false := by decide +kernel
theorem test_wf_unknown_body_too_long : Instr.wf (.unknownKind 0x07 (own 0 (List.replicate 241 0))) = false := by
  decide +kernel
theorem test_wf_no_character_received : Instr.wf (.frameReceived []) = false := by decide
theorem test_wf_no_start_bit : Instr.wf (.frameReceived [0x3FF]) = false := by decide
theorem test_wf_no_whole_word : Instr.wf (.verifyWordEnd 0 (.nrz [true])) = false := by decide
theorem test_wf_no_whole_pam4_word : Instr.wf (.wordResult 0 (.pam4 [0]) ⟨[true], false⟩) = false := by decide +kernel
theorem test_wf_decision_for_each_symbol : Instr.wf (.wordResult 0 (pamWord 0) ⟨wordBits 0, false⟩) = false := by
  decide +kernel
theorem test_wf_longest_body : Instr.wf (.patternWrite (own 0 (List.replicate 240 0))) = true := by decide +kernel
theorem test_decode_has_no_bits : decodeTableWord 8 0xC3 = none ∧ State.reset.withFetchWord 8 0xC3 = State.reset :=
  ⟨rfl, rfl⟩

/-! ### The manual's worked examples -/

/-- R160: the CRC of "123456789". -/
theorem test_crc_check_value : crcOf [0x31, 0x32, 0x33, 0x34, 0x35, 0x36, 0x37, 0x38, 0x39] = 0x29B1 := by decide +kernel

/-- Section 1.2: the first word of PRBS7 and the register after it, stage 1 first 0100111. -/
theorem test_first_word_of_prbs7 :
    Store.initial.takeWord 1 (startSource 1) = (0x020C28F2, .prbs 0b1110010) := by decide +kernel

/-- Section 2.4: BURST 80 is answered with b = 64. -/
theorem test_burst_is_clamped : insertModeOf 2 80 = some (.burst 64, true) := by decide

/-- Section 2.4: a burst of 40 flips a whole word and leaves 8 bits; a SINGLE waits behind it. -/
theorem test_burst_of_40 :
    ({ Generator.initial with mode := .burst 40 } : Generator).insertion
      = { flips := 0xFFFFFFFF, mode := .burst 40, flight := .own 8 } ∧
    ({ Generator.initial with mode := .single, flight := .detached 8 } : Generator).insertion
      = { flips := 0xFF000000, mode := .single, flight := .idle } := by decide +kernel

/-- Section 2.4: RATE 3 flips bit 8 of word 32, that is after 31 words. -/
theorem test_rate3_first_flip : rateWord 3 992 = { flips := 0x01000000, mode := .rate 3 24, flight := .idle } := by
  decide +kernel

/-- Section 3.3: contexts, directions and classes of the word of section 5.2. -/
def table52 : Vector (Option Filter) 16 :=
  (((((Vector.replicate 16 none).set 0 (some ⟨0x0000, 0xFFFE, 3, 1⟩)).set 1 (some ⟨0x0002, 0xFFFC, 3, 1⟩)).set 2
    (some ⟨0x0007, 0xFFF0, 3, 1⟩)).set 3 (some ⟨0x20C2, 0x0000, 2, 3⟩)).set 4 (some ⟨0x0001, 0xFFFC, 1, 1⟩)

theorem test_context_words_of_prbs7 :
    [15, 19, 26, 27, 30].map (contextWord 0 0x020C28F2) = [0x020C, 0x20C2, 0x6147, 0xC28F, 0x1479] := by decide +kernel

theorem test_classes_of_section_5_2 :
    classify table52 0 .zerosToOne 0x020C = .filter 0 ∧ classify table52 0 .zerosToOne 0x20C2 = .overlap ∧
    classify table52 0 .onesToZero 0x6147 = .filter 2 ∧ classify table52 0 .onesToZero 0xC28F = .unmatched ∧
    classify table52 0 .onesToZero 0x1479 = .filter 4 ∧ classify table52 1 .zerosToOne 0x20C2 = .filter 3 := by
  decide +kernel

/-- R66: the bin of the table and no other, at every boundary. -/
theorem test_burst_bins :
    ∀ p ∈ [(1, 0), (2, 1), (3, 2), (4, 2), (5, 3), (9, 4), (17, 5), (33, 6), (40, 6), (65, 7), (129, 8), (257, 9), (512, 9),
      (513, 10), (1024, 10), (1025, 11)],
      burstBin p.1 = p.2 ∧ ∀ b : Fin 12, binTakes b p.1 = true ↔ b = p.2 := by decide +kernel

/-- Section 4.1: the PAM4 word with three symbols in error, distances 2, 1 and 3. -/
theorem test_pam4_symbols :
    (buildResult 5 true .normal 0 0x0C000000 0x00004200).symbols
      = [⟨3, 2⟩, ⟨9, 1⟩, ⟨12, 3⟩] := by decide +kernel

/-- Section 1.7: the first 16 bits of PRBS7 as PAM4 levels, the same inverted, and the bits they are decoded to. -/
theorem test_pam4_levels_of_prbs7 :
    (List.range 8).map (symbolLevel 0x020C28F2) = [0, 0, 0, 3, 0, 0, 2, 0] ∧
    (List.range 8).map (symbolLevel (~~~0x020C28F2)) = [2, 2, 2, 1, 2, 2, 0, 2] ∧
    receivedBits true (.pam4 [0, 0, 0, 3, 0, 0, 2, 0]) = (List.range 16).map (0x020C28F2#32).getMsbD ∧
    receivedBits false (.pam4 [0, 3]) = [] := by decide +kernel

/-- R123: on LOWER only levels 0 and 1 are told apart by the moved boundary, on UPPER only 2 and 3; on an NRZ lane the eye
has no effect. -/
theorem test_margin_eyes :
    (([0, 1, 2, 3].map fun own => (Eye.lower.sampledLevel own false, Eye.lower.sampledLevel own true))
      = [(0, 1), (0, 1), (2, 2), (3, 3)]) ∧
    (([0, 1, 2, 3].map fun own => (Eye.middle.sampledLevel own false, Eye.middle.sampledLevel own true))
      = [(0, 0), (1, 2), (1, 2), (3, 3)]) ∧
    (([0, 1, 2, 3].map fun own => (Eye.upper.sampledLevel own false, Eye.upper.sampledLevel own true))
      = [(0, 0), (1, 1), (2, 3), (2, 3)]) ∧
    sampledBits false .lower 0 [true, false] = [true, false] := by decide

/-- Section 4.4: words A, B and C with G = 8. -/
theorem test_bursts_across_words :
    let a := walkWord 8 .closed 0x00000004
    let b := walkWord 8 a.tracker 0x04001000
    let c := walkWord 8 b.tracker 0x00000003
    a.tracker = .opened 1 2 ∧ b.tracker = .closed ∧ b.opened = 1 ∧ b.bins[0] = 1 ∧ b.bins[1] = 1 ∧
    c.tracker = .opened 2 0 := by decide +kernel

/-- Sections 7.3 to 7.7: 37 errors in 4.5 · 10^12 bits. -/
theorem test_figures_of_37_errors :
    ratioFigure 37 4500000000000 = ⟨8222, -12, false⟩ ∧ boundFigure 37 4500000000000 .cl90 = ⟨1025, -11, false⟩ ∧
    boundFigure 37 4500000000000 .cl95 = ⟨1083, -11, false⟩ ∧ boundFigure 37 4500000000000 .cl99 = ⟨1196, -11, false⟩ := by
  decide +kernel

/-- Section 7.5: no errors, and the renormalised bound of the confidence-stop example. -/
theorem test_bounds_without_errors :
    boundFigure 0 3000000000000 .cl95 = ⟨9987, -13, false⟩ ∧ boundFigure 0 2996037500000 .cl95 = ⟨1000, -12, false⟩ := by
  decide +kernel

/-- Section 7.4: the count bound at 16 errors. -/
theorem test_count_bound_at_16 :
    countBound 16 .cl90 = 22499 ∧ countBound 16 .cl95 = 24350 ∧ countBound 16 .cl99 = 28060 := by decide +kernel

/-- Section 7.7: times to confidence. -/
theorem test_times_to_confidence :
    (timeToConfidence 0 0 .cl95 ⟨1000, -13, false⟩ 2).ms = 563953 ∧
    (timeToConfidence 37 4500000000000 .cl95 ⟨1000, -11, false⟩ 1).ms = 14379 := by decide +kernel

/-- Section 8.3: the requested and the applied plans. -/
theorem test_plan_adjustments :
    ({ plan12 with start := 10, step := 4, count := 10 } : Plan).applied.count = 6 ∧
    (({ plan12 with start := 40, step := 16, count := 5 } : Plan).applied.start = 31 ∧
      ({ plan12 with start := 40, step := 16, count := 5 } : Plan).applied.count = 1) ∧
    ({ plan12 with start := -20, step := 0, count := 70 } : Plan).applied.count = 52 ∧ appliedDwell 1000 = 1024 ∧
    appliedDwell 0 = 64 := by decide +kernel

/-- Section 8.3: FFF PPPPPP N PPPP FF gives an opening of 12 steps centred at -5. -/
theorem test_eye_summary :
    longestRun [false, false, false, true, true, true, true, true, true, false, true, true, true, true, false, false]
      0 0 0 (0, 0) = (3, 6) := by decide

/-- Section 9.3: at A's completion STAY finds slot 2 empty and rotates to lane 5. -/
theorem test_stay_rotates_from_an_empty_slot :
    (run .writeCompletion (writing2 510 .stay 0x24)).log.lastGranted = 5 ∧
    (run .writeCompletion (writing2 510 .stay 0x24)).log.nextSequence = 1001 := by decide +kernel

/-- Section 9.3: a candidate granted at 512 records under STOP is discarded and counted as missed. -/
theorem test_discard_at_a_full_log :
    let t := run .writeCompletion { (writing2 511 .stay 0x05) with straps := State.reset.straps }
    t.log.port = .free ∧ t.log.fullMark = true ∧ (t.lane 0).gate.counters.missed = 1 ∧ t.log.records.length = 512 := by
  decide +kernel

/-- R159: C3h as sent, C3h received with its stop bit low, and the four rates. -/
theorem test_characters :
    characterOf 0xC3 = 0b1110000110 ∧ characterByte 0b1110000110 = 0xC3 ∧ characterByte 0b0110000110 = 0xC3 ∧
    [0, 1, 2, 3].map baudRate = [115200, 460800, 921600, 3000000] := by decide

/-- Section 2.3: the custom triples of R25, each weight beyond each of its bounds. -/
theorem test_custom_triples :
    (⟨-20, 60, -9⟩ : Triple).applied = ⟨-15, 39, -9⟩ ∧ (⟨-3, 10, 0⟩ : Triple).applied = ⟨-3, 16, 0⟩ ∧
    (⟨-5, 40, -5⟩ : Triple).applied = ⟨-5, 40, -5⟩ ∧ (⟨1, 64, -16⟩ : Triple).applied = ⟨0, 48, -15⟩ := by decide

/-- R22, R24: NRZ words of all ones then all zeros, the first under triple (-4, 49, -10), the second under preset 0: the
old word's last symbol, a one between a one and a zero, keeps the old triple. -/
theorem test_shaping_changes_at_the_word :
    let old : Production := { word := 0xFFFFFFFF, pam4 := false, triple := ⟨-4, 49, -10⟩ }
    let new : Production := { word := 0, pam4 := false, triple := ⟨0, 63, 0⟩ }
    (settledAmplitudes (some old) new)[0]? = some (-4 * -3 + 49 * 3 + -10 * 3) ∧
    (settledAmplitudes (some old) new)[1]? = some (63 * -3) ∧ (settledAmplitudes (some old) new).length = 32 := by
  decide +kernel

/-- R120: a DONE gate's time to confidence keeps the gate's rate 1, though the lane has since been set to rate 2. -/
theorem test_done_gate_keeps_its_rate :
    let x := { lane0 (lockedAt 7) .running with rate := 1 }
    (({ x.finishGate 0 .stopped 5 with rate := 2 } : LaneState).gateRate, x.gateRate) = (1, 1) := by decide +kernel

/-- Section 2.1: the rate table. -/
theorem test_rates : [0, 1, 2, 3].map bitsPerMs = [10312500, 25781250, 53125000, 106250000] := by decide

/-- R47's example: V 100, A 20, W 3000, T 3000, G 0. -/
theorem test_chk_set_adjusts :
    ({ ChkConfig.initial with v := 100, a := 20, w := 3000, t := 3000, g := 0 } : ChkConfig).applied
      = { ChkConfig.initial with v := 128, a := 15, w := 4096, t := 2048, g := 1 } := by decide

/-! ### States that meet the hypotheses of the obligations, in their order -/

theorem test_meets_StepRunsFrontCommand :
    (State.reset.withPending [.uptimeTick]).pending = .uptimeTick :: [] ∧ State.reset.pending = [] := ⟨rfl, rfl⟩

/-- An accepted RESET with no reply left. -/
def resetDue : State := { busy with line := { ControlLine.initial with resetDue := true } }

theorem test_meets_ResetsReachResetValues :
    (resetDue.line.resetDue = true ∧ resetDue.line.sending = none ∧ resetDue.line.replies = []) ∧
    ¬(busy.line.resetDue = true ∧ busy.line.sending = none ∧ busy.line.replies = []) := by decide +kernel

theorem test_meets_RequestFrameJoinsQueue :
    State.reset.line.received = [] ∧ (List.replicate 240 (0 : Byte)).length ≤ 240 ∧
    ((frameBytes 0 .request 0x01 5 []).map characterOf).map characterByte = frameBytes 0 .request 0x01 5 [] := by
  decide +kernel

/-- A whole IDENTIFY frame is received. -/
theorem test_identify_frame :
    (run (.frameReceived ((frameBytes 0 .request 0x01 5 []).map characterOf)) State.reset).line.inbound
      = [{ broadcast := false, kind := 0x01, tag := 5, body := [] }] := by decide +kernel

theorem test_meets_DiscardedFramesChangeNothing :
    State.reset.line.received = [] ∧ ((1 : Byte) ≠ 0x0F ∧ (1 : Byte).toNat ≠ State.reset.straps.node.toNat) ∧
    frameStands [0, 0x01, 0] [0, 0] = false ∧
    (0xC3 : Byte) ∉ BitVec.ofNat 8 ([0, 0x01, 0] : List Byte).length :: (([0, 0x01, 0] : List Byte) ++ [0, 0]) ∧
    ((frameBytes 1 .request 0x01 5 []).map characterOf).map characterByte = frameBytes 1 .request 0x01 5 [] ∧
    (([0xC3, 3, 0, 0x01, 0, 0, 0] : List Byte).map characterOf).map characterByte
      = 0xC3 :: BitVec.ofNat 8 ([0, 0x01, 0] : List Byte).length :: (([0, 0x01, 0] : List Byte) ++ [0, 0]) := by
  decide +kernel

theorem test_meets_ReceptionInPieces :
    exec (.frameReceived [characterOf 0xC3]) State.reset
      = .next { State.reset with line := { ControlLine.initial with received := [0xC3] } } := rfl

theorem test_meets_GapAndUptimeTick :
    State.reset.uptime < 2 ^ 48 - 1 ∧ ({ State.reset with uptime := 2 ^ 48 - 2 } : State).uptime < 2 ^ 48 - 1 ∧
    ({ State.reset with uptime := 2 ^ 48 - 1 } : State).uptime = 2 ^ 48 - 1 := by decide +kernel

theorem test_meets_UnknownKindAnswered :
    (0x07 : BitVec 6) ∉ knownKinds ∧ State.reset.TakesOwn 0x07 9 [1] ∧ State.reset.TakesAll 0x07 9 [1] :=
  ⟨by decide, taken _ _ rfl, taken _ _ rfl⟩

theorem test_meets_LengthAndBroadcastChecks :
    (0x01 : BitVec 6) ∈ knownKinds ∧ requestOf (.identify (own 9 [1])) = some (0x01, own 9 [1]) ∧
    State.reset.TakesOwn 0x01 9 [1] ∧ bodyLengthOk 0x01 ([1] : List Byte).length = false ∧
    requestOf (.identify (toAll 9 [])) = some (0x01, toAll 9 []) ∧ State.reset.TakesAll 0x01 9 [] ∧
    requestOf (.gateStop (toAll 9 [])) = some (0x21, toAll 9 []) ∧ State.reset.TakesAll 0x21 9 [] ∧
    bodyLengthOk 0x21 ([] : List Byte).length = false :=
  ⟨by decide, rfl, taken _ _ rfl, by decide, rfl, taken _ _ rfl, rfl, taken _ _ rfl, by decide⟩

theorem test_meets_RequestsWaitTheirTurn :
    requestOf (.status (own 9 [])) = some (0x02, own 9 []) ∧ ¬resetDue.line.Takes (requestFor 0x02 (own 9 [])) :=
  ⟨rfl, fun h => by cases h.2.1⟩

/-- A line that is sending `x` with these replies and notices waiting. -/
def sending (x : Option Sending) (replies : List Reply) (outbox : List Notice) : State :=
  { State.reset with line := { ControlLine.initial with sending := x, replies := replies, outbox := outbox } }

/-- A reply of one segment and one of two. -/
def shortReply : Reply := { kind := 0x15, tag := 1, answer := { status := .ok, fields := .chkHold 1 0 } }
def longReply : Reply := { kind := 0x32, tag := 1, answer := { status := .ok, fields := .logRead 0 ((records 8).take 8) } }

theorem test_reply_segments : shortReply.segments = 1 ∧ longReply.segments = 2 := by decide +kernel

theorem test_meets_FrameSentSendsNext :
    ((sending (some (.reply 0)) [longReply] []).line.replies = longReply :: [] ∧ 0 + 1 < longReply.segments) ∧
    ((sending (some (.reply 0)) [shortReply, longReply] []).line.replies = shortReply :: [longReply] ∧
      shortReply.segments ≤ 0 + 1) ∧
    (sending (some (.notice 0 (.gate 0 .bits))) [] [.gate 1 .bits]).line.resetDue = false ∧
    (sending (some (.reply 0)) [{ kind := 0x07, tag := 9, answer := { status := .badKind, fields := .none } }] []).frameOnLine
      = frameBytes 0 .reply 0x07 9 [0x10, 0x80] := by decide +kernel

theorem test_meets_ReadingRequestsReport :
    busy.TakesOwn 0x01 9 [] ∧ busy.TakesOwn 0x02 9 [] ∧ busy.TakesOwn 0x05 9 [] ∧ busy.TakesOwn 0x0A 9 [] ∧
    busy.TakesOwn 0x1A 9 [] ∧ busy.TakesOwn 0x31 9 [] ∧ busy.Exists 7 ∧ busy.TakesOwn 0x17 9 [BitVec.ofNat 8 7] ∧
    busy.TakesOwn 0x2C 9 [BitVec.ofNat 8 7] :=
  ⟨taken _ _ rfl, taken _ _ rfl, taken _ _ rfl, taken _ _ rfl, taken _ _ rfl, taken _ _ rfl,
    (by show (7 : Fin 8).val < strapLaneCount busy.straps; decide +kernel), taken _ _ rfl, taken _ _ rfl⟩

theorem test_meets_ReadingRequestsReport_margin :
    (margin (.sweep (point (.settle false) .limit 0) (sweepAt 1 0 false))).TakesOwn 0x2C 9 [BitVec.ofNat 8 0] :=
  taken _ _ rfl

theorem test_meets_ResetRequestAccepted :
    busy.TakesOwn 0x03 9 [] ∧ busy.TakesAll 0x03 9 [] ∧ busy.line.sending = none ∧ busy.line.replies = [] ∧
    resetDue.line.resetDue = true ∧ resetDue.line.sending = none ∧ resetDue.line.replies = [] ∧
    ((sending (some (.reply 0)) [shortReply] []).TakesAll 0x03 9 [] ∧
      (sending (some (.reply 0)) [shortReply] []).line.sending ≠ none) :=
  ⟨taken _ _ rfl, taken _ _ rfl, rfl, rfl, rfl, rfl, rfl, ⟨.inl rfl, rfl, .inr (by decide)⟩, by decide⟩

theorem test_meets_NoticesQueueAndMask :
    (sending (some (.notice 0 (.gate 1 .bits))) [] [.gate 0 .bits]).TakesOwn 0x04 9 [0x3D] ∧
    ((sending none [] [.gate 1 .bits, .gate 0 .bits]).line.enabled.getLsbD (Notice.gate 0 .time).kind.bit = true ∧
      (sending none [] [.gate 1 .bits, .gate 0 .bits]).line.outbox = [.gate 1 .bits] ++ .gate 0 .bits :: [] ∧
      ∀ m ∈ [Notice.gate 1 .bits], ¬(m.kind = (Notice.gate 0 .time).kind ∧ m.lane = (Notice.gate 0 .time).lane)) ∧
    ({ ControlLine.initial with enabled := 0 } : ControlLine).enabled.getLsbD (Notice.gate 0 .time).kind.bit = false ∧
    busy.flagSet 0 .losSeen = false ∧ (run (.signalFall 0) busy).flagSet 0 .losSeen = true :=
  ⟨⟨.inl rfl, rfl, .inr (by decide)⟩, by decide, by decide, by decide +kernel⟩

theorem test_meets_HistoryClearClearsNamedFlags :
    busy.TakesOwn 0x06 9 [1, 1] ∧ busy.MayName 1 ∧ (1 : Byte).setWidth 5 ≠ 0#5 ∧
    (fourLanes.TakesOwn 0x06 9 [0x10, 1] ∧ (0x10 : Byte).getLsbD (4 : Lane).val = true ∧ ¬fourLanes.Exists 4) ∧
    (busy.TakesOwn 0x06 9 [1, 0xE0] ∧ (0xE0 : Byte).setWidth 5 = 0#5) :=
  ⟨taken _ _ rfl, names0 _ rfl, by decide,
    ⟨taken _ _ rfl, by decide, (by show ¬(4 : Fin 8).val < strapLaneCount fourLanes.straps; decide +kernel)⟩,
    taken _ _ rfl, by decide⟩

/-- The body of a REGION_DEFINE of id 16. -/
def defineBody (base len : Nat) : List Byte := bytesOf 1 16 ++ bytesOf 2 base ++ bytesOf 4 len

/-- Region 16 defined and named by lane 0's generator. -/
def inUse : State :=
  { busy with store := withRegion.store
              lanes := busy.lanes.set 0 { busy.lanes[0] with gen := { busy.lanes[0].gen with pattern := 16 } } }

theorem test_meets_RegionDefineAndDelete :
    (∀ l, State.reset.store.region 16 ≠ none →
      (State.reset.lane l).gen.pattern ≠ 16 ∧ (State.reset.lane l).chk.config.pattern ≠ 16) ∧
    inUse.TakesOwn 0x08 9 (defineBody 0 262144) ∧ State.reset.TakesOwn 0x08 9 (defineBody 4094 128) ∧
    4094 + (128 + 63) / 64 ≤ 4096 ∧ (∀ j other, State.reset.store.region j = some other → 128 ≤ other.length) ∧
    withRegion.TakesOwn 0x09 9 (bytesOf 1 16) ∧ withRegion.store.region 16 ≠ none ∧
    (∀ l, (withRegion.lane l).gen.pattern ≠ 16 ∧ (withRegion.lane l).chk.config.pattern ≠ 16) ∧
    (inUse.store.region 16 ≠ none ∧ (inUse.lane 0).gen.pattern = 16 ∧ inUse.TakesOwn 0x09 9 (bytesOf 1 16)) := by
  refine ⟨by decide +kernel, taken _ _ rfl, taken _ _ rfl, by decide, ?_, taken _ _ rfl, by decide +kernel,
    by decide +kernel, by decide +kernel, by decide +kernel, taken _ _ rfl⟩
  intro j other h
  have hn : State.reset.store.region j = none := by
    simp only [Store.region]
    split
    · simp [State.reset, Store.initial]
    · rfl
  rw [hn] at h; cases h

theorem test_meets_PatternWriteStoresBytes :
    withRegion.store.region 16 = some { base := 2, length := 128 } ∧ ({ base := 2, length := 128 } : Region).InRange ∧
    Memory.wf withRegion.store.memory ∧ withRegion.TakesOwn 0x0B 9 (bytesOf 1 16 ++ bytesOf 2 15 ++ [0xA5]) ∧
    15 + ([0xA5] : List Byte).length ≤ 8 * ((128 + 63) / 64) ∧
    ∀ l, ((withRegion.lane l).gen.run = none ∨ (withRegion.lane l).gen.pattern ≠ 16) ∧
      ((withRegion.lane l).chkState = .off ∨ (withRegion.lane l).chkState = .held ∨
        (withRegion.lane l).chk.config.pattern ≠ 16) :=
  ⟨by decide +kernel, by unfold Region.InRange; decide +kernel, by decide +kernel, taken _ _ rfl, by decide,
    by decide +kernel⟩

theorem test_meets_PatternReadReturnsBytes :
    withRegion.store.region 16 = some { base := 2, length := 128 } ∧ 15 < 8 * ((128 + 63) / 64) ∧
    withRegion.TakesOwn 0x0C 9 (bytesOf 1 16 ++ bytesOf 2 15 ++ bytesOf 1 255) :=
  ⟨by decide +kernel, by decide, taken _ _ rfl⟩

theorem test_meets_PatternPlayback :
    withRegion.store.region 16 = some { base := 2, length := 128 } ∧ 127 < 128 ∧
    (∀ id, 1 ≤ id → id ≤ 7 → prbsOnes id &&& prbsOnes id = prbsOnes id) ∧
    ∃ bit : Int → Bool,
      (∀ k : Nat, k < 32 → bit k = (Store.initial.takeWord 1 (.prbs (prbsOnes 1))).1.getMsbD k) ∧
      ∀ i : Nat, 1 ≤ i → i ≤ prbsLength 1 → bit (-(i : Int)) = (prbsOnes 1).getLsbD (i - 1) := by
  refine ⟨by decide +kernel, by decide, fun id _ _ => by simp, ?_⟩
  refine ⟨fun k => if 0 ≤ k then (Store.initial.takeWord 1 (.prbs (prbsOnes 1))).1.getMsbD k.toNat
    else (prbsOnes 1).getLsbD ((-k).toNat - 1), fun k _ => by simp, fun i hi _ => ?_⟩
  show (if (0 : Int) ≤ -(i : Int) then _ else _) = _
  rw [if_neg (by omega), Int.neg_neg, Int.toNat_natCast]

/-- The part with a locked lane 0, a RUNNING gate and lock candidates wanted, its slot empty. -/
def capturing : State :=
  { busy with log := { CaptureLog.initial with
      lanes := CaptureLog.initial.lanes.set 0 { mode := .events, quota := 0, quotaCount := 0, slot := none } } }

theorem test_meets_LaneSetAppliesSettings :
    busy.TakesOwn 0x10 9 (laneSetBody 1 .txOnly 0 false) ∧ busy.MayName 1 ∧
    (∀ l : Lane, (1 : LaneSet).getLsbD l.val = true → (busy.lane l).gate.state.active = true →
      (busy.lane l).rate = 0 ∧ (busy.lane l).loopback = false) ∧
    (∀ l : Lane, (busy.lane l).gen.run.isSome = (busy.lane l).power.tx) ∧
    (busy.lane 0).gate.state.active = true ∧ (busy.lane 0).loopback ≠ true ∧
    (∀ l : Lane, (1 : LaneSet).getLsbD l.val = true →
      ((busy.lane l).chkState = .off ↔ (busy.lane l).power.rx = false)) ∧
    ((1 : LaneSet) = 1#8 <<< (0 : Lane).val ∧ (capturing.lane 0).chkState = .locked ∧
      (capturing.lane 0).gate.state = .running ∧ capturing.log.lanes[(0 : Lane)].RaisesLock) ∧
    (fourLanes.TakesOwn 0x10 9 (laneSetBody 0xFF .full 0 false) ∧ ¬fourLanes.Exists 4) :=
  ⟨taken _ _ rfl, names0 _ rfl, by decide +kernel, by decide +kernel, by decide +kernel, by decide +kernel,
    by decide +kernel, by unfold CaptureLane.RaisesLock; decide +kernel, taken _ _ rfl,
    (by show ¬(4 : Fin 8).val < strapLaneCount fourLanes.straps; decide +kernel)⟩

/-- Lane 0 locked on its own generator, eight bits of a burst of 40 still to flip, and the same lane without a generator. -/
def looped : State :=
  { capturing with lanes := capturing.lanes.set 0 { lane0 (lockedAt 7) .running with
      loopback := true, gen := { Generator.initial.start with mode := .burst 40, flight := .own 8 } } }
def loopedQuiet : State :=
  on0 { lane0 .noSignal .armed with power := .rxOnly, loopback := true, gen := .initial }

/-- The generator's stop is a lock loss of a looped-back lane by policy, and its start the signal's rise. -/
theorem test_meets_LaneSetAppliesSettings_loopback :
    (looped.TakesOwn 0x10 9 (laneSetBody 1 .rxOnly 0 true) ∧ looped.MayName 1) ∧
    (∀ l : Lane, (looped.lane l).gen.run.isSome = (looped.lane l).power.tx) ∧
    ((looped.lane 0).rate = 0 ∧ (looped.lane 0).loopback = true ∧ (looped.lane 0).chkState = .locked ∧
      (looped.lane 0).gate.state = .running ∧ (looped.lane 0).gen.flight = .own 8 ∧
      looped.log.lanes[(0 : Lane)].RaisesLock) ∧
    (let t := run (.laneSet (own 9 (laneSetBody 1 .rxOnly 0 true))) looped
     (t.lane 0).signal = false ∧ (t.lane 0).gate.state = .done ∧ (t.lane 0).gen.mode = .none) ∧
    (loopedQuiet.TakesOwn 0x10 9 (laneSetBody 1 .full 0 true) ∧ (loopedQuiet.lane 0).signal = false ∧
      (loopedQuiet.lane 0).chkState = .noSignal) ∧
    ((run (.laneSet (own 9 (laneSetBody 1 .full 0 true))) loopedQuiet).lane 0).signal = true :=
  ⟨⟨taken _ _ rfl, names0 _ rfl⟩, by decide +kernel, by unfold CaptureLane.RaisesLock; decide +kernel,
    by decide +kernel, ⟨taken _ _ rfl, by decide +kernel, by decide +kernel⟩, by decide +kernel⟩

theorem test_meets_GenSetConfigures :
    busy.TakesOwn 0x11 9 ([1] ++ bytesOf 1 5 ++ [Polarity.inverted.code, switchCode true] ++ bytesOf 1 0 ++
      [BitVec.ofInt 8 (-128), BitVec.ofInt 8 127, BitVec.ofInt 8 (-16)]) ∧
    busy.MayName 1 ∧ busy.store.checkPattern 5 = none :=
  ⟨taken _ _ rfl, names0 _ rfl, by decide +kernel⟩

theorem test_meets_CustomTripleIsClamped :
    ((⟨-16, 64, 1⟩ : Triple).pre < -15 ∧ 0 < (⟨-16, 64, 1⟩ : Triple).post) ∧
    ((⟨1, 15, -16⟩ : Triple).main < 16 ∧ 0 < (⟨1, 15, -16⟩ : Triple).pre ∧ (⟨1, 15, -16⟩ : Triple).post < -15) ∧
    63 < (⟨-16, 64, 1⟩ : Triple).main - (⟨-16, 64, 1⟩ : Triple).applied.pre - (⟨-16, 64, 1⟩ : Triple).applied.post ∧
    (⟨0, 63, 0⟩ : Triple).main - (⟨0, 63, 0⟩ : Triple).applied.pre - (⟨0, 63, 0⟩ : Triple).applied.post ≤ 63 := by
  decide

theorem test_meets_GenInsertAndRead :
    busy.TakesOwn 0x12 9 ([1] ++ bytesOf 1 2 ++ bytesOf 1 80) ∧ busy.MayName 1 ∧
    (2 = 2 ∧ InsertMode.burst 64 = .burst (max 1 (min 64 80)) ∧ true = decide (80 < 1 ∨ 64 < 80)) ∧
    busy.Exists 0 ∧ busy.TakesOwn 0x13 9 [BitVec.ofNat 8 0, 1] :=
  ⟨taken _ _ rfl, names0 _ rfl, by decide, (names0 busy rfl).2 0 (by decide), taken _ _ rfl⟩

/-- Lane 0 sending PRBS7 (section 1.2). -/
def prbs7Sent : State :=
  on0 { lane0 .off .idle with gen := ({ Generator.initial with pattern := 1 } : Generator).start }

theorem test_meets_GeneratorWordStart :
    (busy.lane 0).gen.run = some { source := startSource 7, word := none, sent := [] } ∧
    (busy.lane 0).gen.flight = .idle ∧ (busy.lane 0).gen.mode = .none ∧ (State.reset.lane 0).gen.run = none ∧
    ((run (.generatorWordStart 0) prbs7Sent).lane 0).gen.run.bind GenRun.word
      = some { word := 0x020C28F2, pam4 := false, triple := ⟨0, 63, 0⟩ } := by decide +kernel

/-- Preset 7 is in range, and so a symbol sent after silence under it lies within full swing, whatever preceded. -/
theorem test_meets_GeneratorWordStart_silence :
    (⟨-15, 33, -15⟩ : Triple).InRange ∧ WithinFullSwing (-15 * 3 + 33 * -3 + -15 * 3) ∧
    ¬WithinFullSwing (-15 * 3 + 33 * -3 + -15 * 4) := by
  unfold Triple.InRange WithinFullSwing; decide

/-- Bursts in flight, and a RATE 3 whose counter reaches 1000 in the next word: bits 981 to 1012. -/
theorem test_meets_GeneratorWordStart_flight :
    ((looped.lane 0).gen.flight = .own 8 ∧ (looped.lane 0).gen.run.isSome = true) ∧
    ({ Generator.initial.start with mode := .single, flight := .detached 32 } : Generator).flight = .detached 32 ∧
    rateWord 3 980 = { flips := 0x00001000, mode := .rate 3 12, flight := .idle } ∧
    rateWord 3 967 = { flips := 0, mode := .rate 3 999, flight := .idle } ∧
    rateWord 3 968 = { flips := 0x00000001, mode := .rate 3 0, flight := .idle } := by decide +kernel

theorem test_meets_RateInsertionSpacing :
    let g : Generator := { Generator.initial.start with mode := .rate 3 0 }
    g.run.isSome = true ∧ g.flight = .idle ∧ g.mode = .rate 3 0 ∧ g.inserted = 0 ∧ 32 * 125 / 10 ^ 3 ≤ 2 ^ 48 - 1 := by
  decide +kernel

/-- Lane 0 held. -/
def heldLane : State := on0 (lane0 .held .paused)

theorem test_meets_ChkSetConfigures :
    heldLane.TakesOwn 0x14 9 (chkSetBody 1 { ChkConfig.initial with v := 65535, w := 2 ^ 32 - 1, t := 0 }) ∧
    heldLane.MayName 1 ∧ heldLane.store.checkPattern 7 = none ∧
    (∀ l : Lane, (1 : LaneSet).getLsbD l.val = true → (heldLane.lane l).chkState = .off ∨
      (heldLane.lane l).chkState = .held) ∧
    (busy.TakesOwn 0x14 9 (chkSetBody 1 .initial) ∧ (busy.lane 0).chkState ≠ .off ∧ (busy.lane 0).chkState ≠ .held) :=
  ⟨taken _ _ rfl, names0 _ rfl, by decide +kernel, by decide +kernel, taken _ _ rfl, by decide +kernel, by decide +kernel⟩

/-- A RUNNING gate with its lock losses at the maximum, and one whose checker hunts. -/
def busyLosses : State :=
  on0 { lane0 (lockedAt 7) .running with gate := { (lane0 (lockedAt 7) .running).gate with
    counts := { GateCounts.zero with lockLosses := 2 ^ 32 - 1 } } }
def unlocked : State := on0 (lane0 (.hunt 0 0) .running)

theorem test_meets_ChkHoldHolds :
    busy.TakesOwn 0x15 9 [1] ∧ busy.MayName 1 ∧
    (∀ l : Lane, (1 : LaneSet).getLsbD l.val = true → (busy.lane l).chkState ≠ .off) ∧
    (busy.lane 0).gate.state = .running ∧ busy.line.enabled.getLsbD 0 = true ∧ (State.reset.lane 0).chkState = .off ∧
    (capturing.TakesOwn 0x15 9 [1] ∧ capturing.log.Settled ∧ (capturing.lane 0).chkState = .locked ∧
      capturing.log.lanes[(0 : Lane)].RaisesLock ∧ (1 : LaneSet) = 1#8 <<< (0 : Lane).val) ∧
    ((busyLosses.lane 0).gate.counts.lockLosses = 2 ^ 32 - 1 ∧ (busyLosses.lane 0).gate.state = .running) ∧
    ((unlocked.lane 0).gate.state = .running ∧ (unlocked.lane 0).chkState = .hunt) :=
  ⟨taken _ _ rfl, names0 _ rfl, by decide +kernel, by decide +kernel, by decide +kernel, by decide +kernel,
    ⟨taken _ _ rfl, .inr (by decide +kernel), by decide +kernel, by unfold CaptureLane.RaisesLock; decide +kernel,
      by decide⟩, by decide +kernel, by decide +kernel⟩

theorem test_meets_ChkReleaseReleases :
    heldLane.TakesOwn 0x16 9 [1] ∧ heldLane.MayName 1 ∧ heldLane.log.Settled ∧
    (∀ l : Lane, (1 : LaneSet).getLsbD l.val = true → (heldLane.lane l).chkState = .held) ∧
    busy.TakesOwn 0x16 9 [1] ∧ (busy.lane 0).chkState ≠ .held :=
  ⟨taken _ _ rfl, names0 _ rfl, .inr (by decide +kernel), by decide +kernel, taken _ _ rfl, by decide +kernel⟩

/-- Lane 0 without a signal. -/
def silent : State := on0 { lane0 .noSignal .armed with sd := false }

theorem test_meets_SignalEvents :
    ((busy.lane 0).loopback = false ∧ (busy.lane 0).sd ≠ false ∧ (busy.lane 0).chkState = .locked) ∧
    ((silent.lane 0).loopback = false ∧ (silent.lane 0).sd ≠ true ∧ (silent.lane 0).chkState = .noSignal) := by
  decide +kernel

/-- Lane 0 locked, capture wanted, with lane 2 being written and these slots full. -/
def portBusy (mode : CaptureMode) (full : LaneSet) : State :=
  { busy with log := { (writing2 10 .rotate full).log with
      lanes := (writing2 10 .rotate full).log.lanes.set 0
        { mode := mode, quota := 0, quotaCount := 0, slot := if full.getLsbD 0 then some (cand 0) else none } } }

/-- Lane 0 locked one error below its loss threshold. -/
def nearLoss : State :=
  { on0 (lane0 (.locked (startSource 7) 0 1024 1024) .running) with log := (portBusy .events 0x04).log }

/-- The tally of a word of lane 0 in a state. -/
def tallyOf (s : State) (last : BitVec 15) (rcv : Word) : Tally :=
  buildTally s.filters s.log.lanes[(0 : Lane)] (s.lane 0) last
    (buildResult 0 (s.lane 0).pam4 .normal last (s.store.takeWord (s.lane 0).chk.config.pattern (startSource 7)).1 rcv)

theorem test_meets_LockLossByPolicy :
    ((busy.lane 0).sd = true ∧ (busy.lane 0).loopback = false ∧ (busy.lane 0).chkState = .locked ∧
      (busy.lane 0).gate.settings = some cfg ∧ (busy.lane 0).gate.state = .running ∧
      (busy.lane 0).gate.counts.lockLosses ≠ 2 ^ 32 - 1) ∧
    ((busyLosses.lane 0).gate.settings = some cfg ∧ (busyLosses.lane 0).gate.counts.lockLosses = 2 ^ 32 - 1) ∧
    (capturing.log.lanes[(0 : Lane)].RaisesLock ∧ (portBusy .words 0x05).log.lanes[(0 : Lane)].RaisesLock ∧
      (portBusy .words 0x05).log.lanes[(0 : Lane)].slot = some (cand 0) ∧ (portBusy .words 0x05).log.port ≠ .free) ∧
    ((nearLoss.lane 0).gate.settings = some cfg ∧ (nearLoss.lane 0).gate.state = .running ∧
      (nearLoss.lane 0).chk.phase = .locked (startSource 7) 0 1024 1024 ∧
      (nearLoss.lane 0).inputWord (nrzWord 0xFFFFFFFF) = some (0xFFFFFFFF, []) ∧
      (nearLoss.lane 0).chk.config.t < 1024 + (tallyOf nearLoss 0 0xFFFFFFFF).inc.errors ∧
      ((nearLoss.lane 0).gate.counters.add (tallyOf nearLoss 0 0xFFFFFFFF).inc).withinMax = true ∧
      cfg.errorLimit = 0 ∧ cfg.bitLimit = 0 ∧ nearLoss.log.lanes[(0 : Lane)].mode = .events ∧
      nearLoss.log.lanes[(0 : Lane)].RaisesLock) := by
  unfold CaptureLane.RaisesLock; decide +kernel

/-- Lane 0's capture in mode WORDS at a FREE port and a log of `n` records under STOP. -/
def portFree (n : Nat) : CaptureLog :=
  { CaptureLog.initial with
    full := .stop, records := records n
    lanes := CaptureLog.initial.lanes.set 0 { mode := .words, quota := 0, quotaCount := 0, slot := none } }

/-- The loss of `nearLoss` with the word's own candidate first: at a busy port, at a free one, at a full log. -/
theorem test_meets_LockLossByPolicy_words :
    (∀ log ∈ [(portBusy .words 0x04).log, (portBusy .words 0x05).log, portFree 511, portFree 512],
      (tallyOf { nearLoss with log := log } 0 0xFFFFFFFF).candidate.isSome = true ∧
      (nearLoss.lane 0).chk.config.t < 1024 + (tallyOf { nearLoss with log := log } 0 0xFFFFFFFF).inc.errors ∧
      ((nearLoss.lane 0).gate.counters.add (tallyOf { nearLoss with log := log } 0 0xFFFFFFFF).inc).withinMax = true) ∧
    ((∀ k : Lane, (portFree 512).lanes[k].slot = none) ∧ (portFree 512).port = .free ∧ (portFree 512).full = .stop ∧
      512 ≤ (portFree 512).records.length ∧ (portFree 512).fullMark = false ∧ (portFree 511).records.length < 512) ∧
    (portFree 512).LosesCandidate 0 ∧ (portBusy .words 0x05).log.LosesCandidate 0 := by
  unfold CaptureLog.LosesCandidate; decide +kernel

/-- The log of `nearLoss` in mode WORDS with lane 0's slot full and being written. -/
def portOwn : CaptureLog := { (portBusy .words 0x01).log with port := .writing 0 .stop }

theorem test_meets_LockLossByPolicy_written :
    (portOwn.port = .writing 0 .stop ∧ portOwn.lanes[(0 : Lane)].slot = some (cand 0)) ∧
    (tallyOf { nearLoss with log := portOwn } 0 0xFFFFFFFF).candidate.isSome = true ∧
    (∀ k : Lane, (portOwn.afterWrite 0 .stop (cand 0)).lanes[k].slot = none) ∧
    (portOwn.afterWrite 0 .stop (cand 0)).lanes[(0 : Lane)].RaisesLock ∧
    ((portFree 511).port = .free ∧ (tallyOf { nearLoss with log := portFree 511 } 0 0xFFFFFFFF).candidate.isSome = true ∧
      ∀ k : Lane, (portFree 511).lanes[k].slot = none) := by
  unfold CaptureLane.RaisesLock; decide +kernel

/-- R146: with the slot full the word's candidate is dropped, and so is the loss's unless a write of the lane completes
between them; then it is the loss's that the slot holds. -/
theorem test_write_between_word_and_loss :
    let t := fun written => run (.wordResult 0 (nrzWord 0xFFFFFFFF) ⟨wordBits 0, written⟩) { nearLoss with log := portOwn }
    ((t false).lane 0).gate.counters.missed = 2 ∧ ((t true).lane 0).gate.counters.missed = 1 ∧
    (t false).log.records.length = 10 ∧ (t true).log.records.length = 11 ∧
    (t true).log.lanes[(0 : Lane)].slot.map (fun c => c.body) = some (.lockLost .hunt .errors) ∧
    (t false).log.lanes[(0 : Lane)].slot = some (cand 0) := by decide +kernel

/-- Lane 0 hunting, with a pattern and a rate. -/
def hunting (id : Nat) (rate : Fin 4) : LaneState :=
  { lane0 (.hunt 0 0) .armed with rate := rate, chk := { phase := .hunt 0 0, config := { ChkConfig.initial with pattern := id } } }

/-- Section 3.4: the first nine bits of PRBS9 seed a hunt at rate 3, and the tenth is predicted. -/
def prbs9Bits : List Bool := (List.range 9).map fun k => (Store.initial.takeWord 2 (startSource 2)).1.getMsbD k

/-- Lane 0 hunting for PRBS9 at rate 3 with the first four bits in its window, in loopback, the path holding the other
five, the bit that is predicted, and one bit behind. -/
def halfSeeded : State :=
  on0 { hunting 2 3 with
    loopback := true, path := prbs9Bits.drop 4 ++ [true, false]
    chk := { phase := .hunt (windowAfter .normal 0 (prbs9Bits.take 4)) 4
             config := { ChkConfig.initial with pattern := 2 } } }

theorem test_meets_SeedFindsTheStream :
    (halfSeeded.lane 0).chk.config.pattern = 2 ∧
    (halfSeeded.lane 0).chk.phase = .hunt (windowAfter .normal 0 (prbs9Bits.take 4)) (prbs9Bits.take 4).length ∧
    (halfSeeded.lane 0).inputBits (.pam4 []) = (prbs9Bits.drop 4 ++ [true]) ++ [false] ∧
    (prbs9Bits.take 4).length + (prbs9Bits.drop 4 ++ [true]).length
      = prbsLength 2 + (if (halfSeeded.lane 0).pam4 then 1 else 0) ∧
    prbsOnes 2 &&& prbsOnes 2 = prbsOnes 2 ∧
    (∀ k : Fin 9, (prbs9Bits.take 4 ++ (prbs9Bits.drop 4 ++ [true]))[k.val]?
      = some (prbsStep 2 ((fun r => (prbsStep 2 r).2)^[k.val] (prbsOnes 2))).1) ∧
    ((on0 (hunting 2 3)).lane 0).inputBits (.pam4 [3]) = [true, false] ∧
    0 + [true, false].length < prbsLength 2 + (if ((on0 (hunting 2 3)).lane 0).pam4 then 1 else 0) := by
  decide +kernel

/-- Lane 0 hunting for region 16, whose anchor is all zeros. -/
def huntingRegion : State := { on0 (hunting 16 0) with store := withRegion.store }

/-- The same hunt at rate 3, where only windows that end a symbol are tested, with 63 ones and a zero in the window. -/
def slidingRegion : State :=
  { on0 { hunting 16 3 with chk := { phase := .hunt 0xFFFFFFFFFFFFFFFE 65
                                     config := { ChkConfig.initial with pattern := 16 } } } with store := withRegion.store }

theorem test_meets_AnchorStartsVerify :
    huntingRegion.store.region (huntingRegion.lane 0).chk.config.pattern = some { base := 2, length := 128 } ∧
    (huntingRegion.lane 0).chk.phase = .hunt 0 0 ∧
    (huntingRegion.lane 0).inputBits (.nrz (List.replicate 64 false)) = List.replicate 64 false ∧
    (List.replicate 64 false).length = 64 ∧
    (∀ k b, (List.replicate 64 false)[k]? = some b → (huntingRegion.lane 0).chk.config.polarity.bit b
        = ((readByte huntingRegion.store.memory (8 * 2 + k / 8)).getMsbD (k % 8) ^^ false)) := by
  refine ⟨by decide +kernel, by decide +kernel, by decide +kernel, by decide, ?_⟩
  intro k b h
  have hm : huntingRegion.store.memory = [] := by decide +kernel
  have hp : (huntingRegion.lane 0).chk.config.polarity = .normal := by decide +kernel
  obtain ⟨hk, rfl⟩ := List.getElem?_eq_some_iff.mp h
  rw [List.getElem_replicate]
  simp [hm, hp, readByte, Polarity.bit]

/-- A stretch of zeros brings the window of `slidingRegion` to the anchor after 63 of them, and not before. -/
theorem test_meets_AnchorStartsVerify_sliding :
    slidingRegion.store.region (slidingRegion.lane 0).chk.config.pattern = some { base := 2, length := 128 } ∧
    (slidingRegion.lane 0).chk.phase = .hunt 0xFFFFFFFFFFFFFFFE 65 ∧
    (slidingRegion.lane 0).inputBits (.pam4 (List.replicate 32 0)) = List.replicate 63 false ++ [false] ∧
    (∀ k : Fin 63, 0 < k.val → ∀ anti,
      ¬slidingRegion.AnchorAt 0 { base := 2, length := 128 } anti
        (windowAfter .normal 0xFFFFFFFFFFFFFFFE ((List.replicate 63 false).take k.val)) (65 + k.val)) ∧
    slidingRegion.AnchorAt 0 { base := 2, length := 128 } false
      (windowAfter .normal 0xFFFFFFFFFFFFFFFE (List.replicate 63 false)) (65 + (List.replicate 63 false).length) := by
  have hm : slidingRegion.store.memory = [] := by decide +kernel
  have ha : (slidingRegion.lane 0).chk.config.autoInvert = false := by decide +kernel
  refine ⟨by decide +kernel, by decide +kernel, by decide +kernel, ?_, ?_⟩
  · rintro k hk (_ | _) ⟨-, -, h1, h2⟩
    · have h0 := h2 (62 - k.val) (by omega)
      have hall : ∀ k : Fin 63, 0 < k.val → (windowAfter .normal 0xFFFFFFFFFFFFFFFE
          ((List.replicate 63 false).take k.val)).getMsbD (62 - k.val) = true := by decide +kernel
      rw [hall k hk, hm] at h0
      simp [readByte] at h0
    · rw [ha] at h1; exact absurd (h1 rfl) (by decide)
  · refine ⟨by decide, fun _ => by decide, fun h => absurd h (by decide), fun k hk => ?_⟩
    have hall : ∀ k : Fin 64, (windowAfter .normal 0xFFFFFFFFFFFFFFFE (List.replicate 63 false)).getMsbD k.val = false := by
      decide +kernel
    rw [hall ⟨k, hk⟩, hm]
    simp [readByte]

/-- Lane 0 verifying, 224 of 256 bits compared. -/
def verifying : State := on0 (lane0 (.verify (startSource 7) 0 224 0) .armed)

theorem test_meets_VerifyWordOutcomes :
    (verifying.lane 0).chk.phase = .verify (startSource 7) 0 224 0 ∧
    (verifying.lane 0).inputWord (nrzWord 0) = some (0, []) ∧
    (verifying.lane 0).chk.config.v ≤ 224 + 32 ∧ (verifying.lane 0).chk.config.a < 4 ∧
    (verifying.lane 0).chk.config.autoInvert = false ∧ (verifying.lane 0).gate.state = .armed ∧
    ((run (.verifyWordEnd 0 (nrzWord (verifying.store.takeWord 7 (startSource 7)).1)) verifying).lane 0).gate.state = .running ∧
    capturing.log.lanes[(0 : Lane)].RaisesLock := by
  unfold CaptureLane.RaisesLock; decide +kernel

/-- Lane 0 locked at a rate, NRZ at 0 and PAM4 at 3, with the sampler on its LOWER eye. -/
def marginOn (rate : Fin 4) : State :=
  { on0 { lane0 (lockedAt 7) .running with rate := rate } with
    margin := { Margin.initial with
      state := .spot (point (.dwell false) .count 0)
      sampler := some { lane := 0, axis := .phase, eye := .lower, offset := 0 } } }

theorem test_meets_WordResultLossDetector :
    (busy.lane 0).chk.phase = .locked (startSource 7) 0 0 0 ∧ (busy.lane 0).inputWord (nrzWord 0) = some (0, []) ∧
    (((marginOn 0).lane 0).loopback = false ∧ ((marginOn 0).lane 0).pam4 = false ∧
      (marginOn 0).sampledWord 0 (wordBits 7) 0 = 7) ∧
    ((marginOn 3).margin.sampler = some { lane := 0, axis := .phase, eye := .lower, offset := 0 } ∧
      ((marginOn 3).lane 0).loopback = false ∧ ((marginOn 3).lane 0).pam4 = true ∧
      ((marginOn 3).lane 0).inputWord (pamWord 0x020C28F2) = some (0x020C28F2, []) ∧
      (List.range 16).map (symbolLevel ((marginOn 3).sampledWord 0 (List.replicate 16 true) 0x020C28F2))
        = [1, 1, 1, 3, 1, 1, 2, 1, 1, 3, 3, 1, 2, 2, 1, 3]) ∧
    0 + 32 ≤ (busy.lane 0).chk.config.t ∧
    ((nearLoss.lane 0).inputWord (nrzWord 0xFFFFFFFF) = some (0xFFFFFFFF, []) ∧
      (nearLoss.lane 0).chk.config.t < 1024 + (tallyOf nearLoss 0 0xFFFFFFFF).inc.errors) := by decide +kernel

/-- Lane 0 with these gate settings. -/
def limited (c : GateSettings) : State :=
  on0 { lane0 (lockedAt 7) .running with gate := { (lane0 (lockedAt 7) .running).gate with settings := some c } }

theorem test_meets_WordResultAccounting :
    (busy.lane 0).chk.phase = .locked (startSource 7) 0 0 0 ∧ (busy.lane 0).inputWord (nrzWord 0) = some (0, []) ∧
    (busy.lane 0).gate.state = .running ∧ (busy.lane 0).gate.settings = some cfg ∧
    ((busy.lane 0).gate.counters.add (tallyOf busy 0 0xFFFFFFFF).inc).withinMax = true ∧
    (({ Counters.zero with errors := 2 ^ 48 - 1 } : Counters).add (tallyOf busy 0 0xFFFFFFFF).inc).withinMax = false ∧
    0 < (tallyOf busy 0 0xFFFFFFFF).inc.errors ∧
    (((limited { cfg with errorLimit := 1 }).lane 0).gate.settings = some { cfg with errorLimit := 1 } ∧
      ((limited { cfg with bitLimit := 32 }).lane 0).gate.settings = some { cfg with bitLimit := 32 }) ∧
    ((tallyOf (portBusy .words 0x04) 0 0xFFFFFFFF).candidate.isSome = true ∧
      (portBusy .words 0x04).log.lanes[(0 : Lane)].slot = none ∧ (portBusy .words 0x04).log.port ≠ .free) ∧
    ((tallyOf (portBusy .words 0x05) 0 0xFFFFFFFF).candidate.isSome = true ∧
      (portBusy .words 0x05).log.lanes[(0 : Lane)].slot.isSome = true) ∧
    (tallyOf busy 0 0xFFFFFFFF).tracker.openCount = 1 := by decide +kernel

theorem test_meets_WordTallyLaws :
    (tallyOf (portBusy .words 0x05) 0 0xFFFFFFFF).candidate.isSome = true ∧
    (tallyOf (portBusy .bursts 0x04) 0 0xFFFFFFFF).candidate.isSome = true ∧
    (tallyOf (portBusy .events 0x04) 0 0xFFFFFFFF).candidate = none := by decide +kernel

/-- With G = 8 and a burst open before the word: one opens after a run of 6 in the word before and 5 more bits, or after
9 bits of the word itself, not at its first bit; with G = 32, after 28 and 5 bits, it raises a candidate. -/
theorem test_meets_WordTallyLaws_open :
    (Tracker.opened 1 6).OpensAt 8 (0x04000000#32).getMsbD 5 ∧ (Tracker.opened 1 0).OpensAt 8 (0x80200000#32).getMsbD 10 ∧
    ¬(Tracker.opened 1 8).OpensAt 8 (0x80200000#32).getMsbD 0 ∧
    (buildTally busy.filters { mode := .bursts, quota := 0, quotaCount := 0, slot := none }
      { lane0 (lockedAt 7) .running with acct := { tracker := .opened 1 28, mark := true } } 0
      (buildResult 0 false .normal 0 0 0x04000000)).candidate.isSome = true := by
  refine ⟨⟨by decide, .inr (.inr ⟨1, 6, rfl, by decide⟩)⟩, ⟨by decide, .inr (.inl ⟨1, by decide⟩)⟩, ?_, by decide +kernel⟩
  rintro ⟨-, ⟨h, -⟩ | ⟨j, h, -⟩ | ⟨-, -, -, h, -⟩⟩
  · cases h
  · omega
  · omega

/-- A powered lane 0 with an idle gate. -/
def ready : State := on0 { lane0 (lockedAt 7) .idle with gate := .initial }

/-- Gate settings whose target is the undefined figure. -/
def noTarget : GateSettings := { cfg with target := .undefined }

theorem test_meets_GateStartStarts :
    (ready.line.Takes (requestFor 0x20 { broadcast := true, tag := 9, body := gateStartBody 1 cfg.toGateArgs }) ∧
      ready.MayName 1 ∧ cfg.target.valid = true ∧
      ∀ l : Lane, (1 : LaneSet).getLsbD l.val = true → (ready.lane l).gate.state.active = false ∧
        (ready.lane l).chkState ≠ .off) ∧
    (busy.line.Takes (requestFor 0x20 { broadcast := false, tag := 9, body := gateStartBody 1 cfg.toGateArgs }) ∧
      (busy.lane 0).gate.state.active = true) ∧
    (State.reset.lane 0).chkState = .off ∧
    (noTarget.toGateArgs.target ≠ .zero ∧ noTarget.toGateArgs.target.valid = false) :=
  ⟨⟨taken _ _ rfl, names0 _ rfl, by decide, by decide +kernel⟩, ⟨taken _ _ rfl, by decide +kernel⟩, by decide +kernel,
    by decide⟩

/-- R109: zero with the flag clear is no target; the undefined figure is malformed. -/
theorem test_undefined_target_is_malformed :
    ((run (.gateStart (own 9 (gateStartBody 1 noTarget.toGateArgs))) ready).line.replies.map
      fun r => r.answer.status) = [.badArg] ∧
    ((run (.gateStart (own 9 (gateStartBody 1 { noTarget.toGateArgs with target := .zero }))) ready).line.replies.map
      fun r => r.answer.status) = [.ok] := by decide +kernel

theorem test_meets_GateStopEndsGates :
    busy.MayName 1 ∧ busy.line.Takes (requestFor 0x21 { broadcast := false, tag := 9, body := [1] }) ∧
    busy.line.Takes (requestFor 0x21 { broadcast := true, tag := 9, body := [1] }) ∧
    (busy.lane 0).gate.state.active = true ∧ (busy.lane 0).gate.startStamp = some 0 ∧ busy.line.enabled.getLsbD 1 = true :=
  ⟨names0 _ rfl, taken _ _ rfl, taken _ _ rfl, by decide +kernel, by decide +kernel, by decide +kernel⟩

/-- Lane 0 with elapsed and paused ms at their maxima. -/
def atMaximum (p : Phase) (g : GateState) : LaneState :=
  ((on0 { lane0 p g with gate := { (lane0 p g).gate with
    counts := { GateCounts.zero with elapsed := 2 ^ 32 - 1, paused := 2 ^ 32 - 1 } } }).lane 0)

theorem test_meets_GateTimerExpiry :
    (busy.lane 0).gate.settings = some cfg ∧ (busy.lane 0).gate.state = .running ∧
    (busy.lane 0).gate.counts.elapsed ≠ 2 ^ 32 - 1 ∧ cfg.target.isZero = false ∧
    confident 0 3000000000000 cfg.level cfg.target = true ∧ confident 0 0 cfg.level cfg.target = false ∧
    ((heldLane.lane 0).gate.state = .paused ∧ (heldLane.lane 0).gate.settings = some cfg) ∧
    (State.reset.lane 0).gate.state = .idle ∧
    ((atMaximum (lockedAt 7) .running).gate.settings = some cfg ∧ (atMaximum (lockedAt 7) .running).gate.state = .running ∧
      (atMaximum (lockedAt 7) .running).gate.counts.elapsed = 2 ^ 32 - 1) ∧
    ((atMaximum .held .paused).gate.settings = some cfg ∧ (atMaximum .held .paused).gate.state = .paused ∧
      (atMaximum .held .paused).gate.counts.paused = 2 ^ 32 - 1) ∧
    ((silent.lane 0).gate.state = .armed ∧ (silent.lane 0).gate.settings = some cfg ∧ 0 < cfg.armTimeout) := by
  decide +kernel

/-- Lane 0's gate ended at rate 0, the lane since set to rate 2. -/
def ended : State := on0 { (lane0 (lockedAt 7) .running).finishGate 0 .stopped 5 with rate := 2 }

theorem test_meets_GateReadAndCombine :
    (busy.Exists 0 ∧ busy.TakesOwn 0x22 9 [BitVec.ofNat 8 0, 0] ∧ busy.TakesOwn 0x22 9 [BitVec.ofNat 8 0, 1] ∧
      (busy.lane 0).gate.result = none) ∧
    busy.MayName 1 ∧ busy.TakesOwn 0x23 9 ([1, sourceCode false] ++ bytesOf 1 Level.cl95.code) ∧
    (ended.TakesOwn 0x22 9 [BitVec.ofNat 8 0, 0] ∧ (ended.lane 0).gate.settings = some cfg ∧
      (ended.lane 0).gate.state = .done ∧ ((ended.lane 0).gate.result.map fun r => r.rate) = some 0 ∧
      (ended.lane 0).rate = 2 ∧ cfg.target.isZero = false) :=
  ⟨⟨(names0 busy rfl).2 0 (by decide), taken _ _ rfl, taken _ _ rfl, by decide +kernel⟩, names0 _ rfl, taken _ _ rfl,
    taken _ _ rfl, by decide +kernel⟩

theorem test_meets_RatioFigureRoundsDown : 1 ≤ 4500000000000 ∧ 37 ≤ 4500000000000 ∧ 4500000000000 ≤ 2 ^ 64 - 1 := by
  decide

theorem test_meets_BoundFigureRoundsUp : 1 ≤ 1 ∧ 1 ≤ 1 ∧ 1 ≤ 2 ^ 64 - 1 := by decide

theorem test_meets_BoundAboveRatio : 1 ≤ 1 ∧ 0 ≤ 1 ∧ 1 ≤ 2 ^ 64 - 1 := by decide

theorem test_meets_ConfidenceStopAndTime :
    (⟨1000, -13, false⟩ : Figure).valid = true ∧ confident 0 29960000000001 .cl95 ⟨1000, -13, false⟩ = true ∧
    bitsNeeded 0 .cl95 ⟨1000, -13, false⟩ - 0 ≤ 563953 * bitsPerMs 2 ∧
    (563953 - 1) * bitsPerMs 2 < bitsNeeded 0 .cl95 ⟨1000, -13, false⟩ - 0 := by decide +kernel

/-- The table of section 5.2 with lane 0's gate RUNNING. -/
def filtersInUse : State := { busy with filters := table52 }

theorem test_meets_FilterSetAndClear :
    (ready.TakesOwn 0x18 9 (filterSetBody 15 ⟨1, 0xFFFE, 3, 1⟩) ∧ (1 : BitVec 16) &&& 0xFFFE = 0 ∧
      ∀ l : Lane, (ready.lane l).gate.state.active = false) ∧
    (filtersInUse.TakesOwn 0x18 9 (filterSetBody 3 ⟨1, 0xFFFE, 3, 2⟩) ∧
      ∃ g, filtersInUse.filters[(3 : Fin 16)] = some g ∧ g.lanes.getLsbD 0 = true ∧
        (filtersInUse.lane 0).gate.state.active = true) ∧
    (ready.TakesOwn 0x18 9 (filterSetBody 0 ⟨1, 1, 3, 1⟩) ∧ (1 : BitVec 16) &&& 1 ≠ 0) ∧
    (filtersInUse.TakesOwn 0x18 9 (filterSetBody 3 ⟨0x20C2, 0, 2, 3⟩) ∧
      filtersInUse.filters[(3 : Fin 16)] = some ⟨0x20C2, 0, 2, 3⟩ ∧
      filtersInUse.filters[(3 : Fin 16)] ≠ some ⟨1, 0xFFFE, 3, 2⟩) ∧
    (ready.TakesOwn 0x19 9 (bytes16 0x8001) ∧ (0x8001 : BitVec 16) ≠ 0) :=
  ⟨⟨taken _ _ rfl, by decide, by decide +kernel⟩,
    ⟨taken _ _ rfl, ⟨0x20C2, 0, 2, 3⟩, by decide +kernel, by decide, by decide +kernel⟩,
    ⟨taken _ _ rfl, by decide⟩, ⟨taken _ _ rfl, by decide +kernel, by decide +kernel⟩, taken _ _ rfl, by decide⟩

/-- Section 5.3, R81: a repeat of F3's definition is accepted though F3 is in use, and one that drops a lane is not. -/
theorem test_filter_set_repeat :
    ((run (.filterSet (own 9 (filterSetBody 3 ⟨0x20C2, 0, 2, 3⟩))) filtersInUse).line.replies.map
      fun r => r.answer.status) = [.ok] ∧
    ((run (.filterSet (own 9 (filterSetBody 3 ⟨0x20C2, 0, 2, 2⟩))) filtersInUse).line.replies.map
      fun r => r.answer.status) = [.filterInUse] := by decide +kernel

theorem test_meets_FilterProbeClassifies :
    filtersInUse.Exists 0 ∧
    filtersInUse.TakesOwn 0x1B 9 ([BitVec.ofNat 8 0, Direction.zerosToOne.code] ++ bytes16 0x20C2) :=
  ⟨(names0 filtersInUse rfl).2 0 (by decide), taken _ _ rfl⟩

theorem test_meets_SweepSetStoresPlan :
    busy.MayName 6 ∧ busy.TakesOwn 0x28 9 (sweepSetBody { plan12 with start := -128, step := 255, count := 255 }) :=
  ⟨⟨by decide, fun l _ => (names0 busy rfl).2 0 (by decide) |> fun _ => by
    show l.val < strapLaneCount busy.straps; exact l.isLt⟩, taken _ _ rfl⟩

theorem test_meets_SpotStartByState :
    (margin .idle).Exists 0 ∧
    ∀ m : MarginState, (margin m).TakesOwn 0x2B 9
      (spotStartBody { lane := 0, axis := .phase, eye := .middle, offset := -128, dwell := 0, limit := 0, mode := .count
                       lockWait := 65535 }) :=
  ⟨(names0 busy rfl).2 0 (by decide), fun _ => taken _ _ rfl⟩

theorem test_meets_SweepStartByState :
    (∀ m : MarginState, (margin m).TakesOwn 0x29 9 []) ∧ LowestOf (margin .idle).margin.plan.lanes 0 :=
  ⟨fun _ => taken _ _ rfl, by unfold LowestOf; decide +kernel⟩

theorem test_meets_SweepStopByState :
    (margin (.forcedSpot (point .waitLock .limit 0) (sweepAt 2 1 false))).TakesOwn 0x2A 9 [] ∧
    (margin .idle).TakesOwn 0x2A 9 [] := ⟨taken _ _ rfl, taken _ _ rfl⟩

theorem test_meets_PointPhases :
    (margin (.spot (point (.settle false) .count 0))).margin.state.point = some (point (.settle false) .count 0) ∧
    ((margin .idle).lane 0).chkState = .locked ∧
    (margin (.spot (point .waitLock .count 0))).margin.state.point = some (point .waitLock .count 0) ∧
    (margin (.spot (point (.dwell false) .count 0))).margin.state.point = some (point (.dwell false) .count 0) ∧
    (point (.dwell false) .count 0).settings.dwell ≤ (point (.dwell false) .count 0).bits + 32 ∧
    (margin .idle).margin.state.point = none := by decide +kernel

theorem test_meets_SpotFinishes :
    (margin (.spotThenSweep (point .waitLock .limit 0) plan12)).margin.state
      = .spotThenSweep (point .waitLock .limit 0) plan12 ∧ LowestOf plan12.lanes 1 :=
  ⟨rfl, by unfold LowestOf; decide +kernel⟩

theorem test_meets_SweepPointFinishes :
    (margin (.sweep (point (.dwell false) .limit 0) (sweepAt 1 2 false))).margin.state
      = .sweep (point (.dwell false) .limit 0) (sweepAt 1 2 false) ∧ (sweepAt 1 2 false).index < 64 ∧
    (sweepAt 1 2 false).plan.count ≤ (sweepAt 1 2 false).index + 1 ∧
    (∀ k : Lane, (sweepAt 2 2 true).plan.lanes.getLsbD k.val = true → k.val ≤ (sweepAt 2 2 true).lane.val) ∧
    ((sweepAt 1 2 false).plan.lanes.getLsbD (2 : Lane).val = true ∧ (sweepAt 1 2 false).lane.val < (2 : Lane).val) :=
  ⟨rfl, by decide +kernel⟩

theorem test_meets_CaptureAndLogRequests :
    busy.MayName 1 ∧ busy.TakesOwn 0x30 9 ([1, CaptureMode.words.code] ++ bytesOf 2 65535) ∧
    busy.TakesOwn 0x34 9 ([ArbPolicy.stay.code, FullPolicy.ring.code] ++ bytesOf 2 0) ∧
    busy.TakesOwn 0x32 9 (bytesOf 1 7) ∧ busy.TakesOwn 0x33 9 [] :=
  ⟨names0 _ rfl, taken _ _ rfl, taken _ _ rfl, taken _ _ rfl, taken _ _ rfl⟩

theorem test_meets_WriteCompletionAndNextGrant :
    ((writing2 255 .rotate 0x24).log.port = .writing 2 .stop ∧
      (writing2 255 .rotate 0x24).log.lanes[(2 : Lane)].slot = some (cand 2)) ∧
    (writing2 255 .rotate 0x24).log.records.length + 1 = (writing2 255 .rotate 0x24).log.watermark ∧
    (writing2 255 .rotate 0x24).line.enabled.getLsbD 5 = true ∧ busy.log.port = .free ∧
    ((writing2 511 .stay 0x05).log.lanes[(2 : Lane)].slot = some (cand 2) ∧
      (writing2 511 .stay 0x05).log.lanes[(0 : Lane)].slot.isSome = true ∧
      (writing2 511 .stay 0x05).log.full = .stop ∧ (writing2 511 .stay 0x05).log.records.length = 511 ∧
      (writing2 511 .stay 0x05).log.fullMark = false) := by decide +kernel

/-- Lane 5 alone waits, so the arbiter picks it. -/
theorem test_meets_WriteCompletionAndNextGrant_pick :
    CaptureLog.Picks
      { CaptureLog.initial with
        lastGranted := 2
        lanes := CaptureLog.initial.lanes.set 5 { mode := .words, quota := 0, quotaCount := 0, slot := some (cand 5) } }
      5 := by
  unfold CaptureLog.Picks; decide +kernel

theorem test_region_16_only (id : Nat) (r : Region) (h : withRegion.store.region id = some r) :
    id = 16 ∧ r = { base := 2, length := 128 } := by
  by_cases hid : 16 ≤ id ∧ id < 32
  · obtain ⟨h1, h2⟩ := hid
    have hall : ∀ k : Fin 16, withRegion.store.region (k.val + 16) =
        if k.val = 0 then some { base := 2, length := 128 } else none := by decide +kernel
    have hk := hall ⟨id - 16, by omega⟩
    rw [show (⟨id - 16, by omega⟩ : Fin 16).val + 16 = id from by simp; omega] at hk
    rw [hk] at h
    split at h
    · rename_i h0
      simp only at h0
      exact ⟨by omega, by cases h; rfl⟩
    · cases h
  · have : withRegion.store.region id = none := by rw [Store.region, dif_neg hid]
    rw [this] at h; cases h

theorem test_meets_StepKeepsStoreAndAbsentLanes : withRegion.StoreInv ∧ fourLanes.AbsentInv := by
  refine ⟨⟨by decide +kernel, ?_, ?_, by decide +kernel⟩, fun l hl => ?_⟩
  · intro id r h
    obtain ⟨-, rfl⟩ := test_region_16_only id r h
    unfold Region.InRange; decide +kernel
  · intro i j a b hij ha hb
    exact absurd ((test_region_16_only i a ha).1.trans (test_region_16_only j b hb).1.symm) hij
  · have h : ∀ l : Lane, fourLanes.lane l = LaneState.initial (fourLanes.lane l).sd ∧ fourLanes.history[l] = 0 ∧
        fourLanes.log.lanes[l] = CaptureLog.initial.lanes[l] := by decide +kernel
    exact h l

theorem test_meets_StepKeepsControlLine : (sending (some (.reply 0)) [shortReply] [.gate 0 .bits]).line.Inv := by
  refine ⟨by decide, by decide, by decide, by decide +kernel, by decide +kernel, fun h => absurd h (by decide), ?_⟩
  intro i h
  cases h
  exact ⟨shortReply, [], rfl, by decide +kernel⟩

/-- A log with the last number of a turn in it and lane 2 being written. -/
def oneRecord : CaptureLog :=
  { CaptureLog.initial with
    records := [{ sequence := 2 ^ 32 - 1, candidate := cand 3 }], nextSequence := 0, port := .writing 2 .stop
    lanes := CaptureLog.initial.lanes.set 2 { mode := .words, quota := 0, quotaCount := 1, slot := some (cand 2) } }

theorem test_meets_StepKeepsCaptureLog : oneRecord.Inv := by
  have hslot : ∀ l : Lane, oneRecord.lanes[l].slot = if l = 2 then some (cand 2) else none := by decide +kernel
  refine ⟨by decide, by decide, by unfold CaptureLog.Numbered; decide +kernel,
    fun h => absurd h (by decide), by decide, by decide, fun l => ⟨?_, fun c hc => ?_⟩, fun h => absurd h (by decide), ?_⟩
  · revert l; decide +kernel
  · rw [hslot] at hc
    split at hc
    · cases hc; rename_i hl; exact hl.symm
    · cases hc
  · intro l p h
    cases h
    decide +kernel

/-- A spot waiting for its lock. -/
def spotting : Margin :=
  { Margin.initial with
    state := .spot { point .waitLock .limit 0 with bits := 0, errors := 0 }
    sampler := some { lane := 0, axis := .phase, eye := .middle, offset := 0 } }

theorem test_meets_StepKeepsMarginUnit : spotting.Inv := by
  refine ⟨by decide +kernel, ?_, ?_, by decide +kernel⟩
  · show Point.InRange _
    unfold Point.InRange; decide +kernel
  · unfold Plan.InRange; decide +kernel

theorem test_busy_shaping (l : Lane) : (busy.lane l).gen.ShapingInv := by
  have ht : (busy.lane l).gen.triple = ⟨0, 63, 0⟩ := by revert l; decide +kernel
  have hr : ∀ run ∈ (busy.lane l).gen.run, run.word = none ∧ run.sent = [] := by revert l; decide +kernel
  refine ⟨by rw [ht]; unfold Triple.InRange; decide, fun run h => ?_⟩
  obtain ⟨hw, hs⟩ := hr run h
  simp [hw, hs]

theorem test_meets_StepKeepsLanes : ∀ l, (busy.lane l).Inv ∧ (busy.lane l).CounterInv := by
  intro l
  unfold LaneState.Inv LaneState.CounterInv Counters.Laws Counters.SymbolLaws
  refine ⟨⟨test_busy_shaping l, ?_⟩, ?_⟩
  · revert l; decide +kernel
  · refine ⟨?_, ?_, ?_⟩
    · revert l; decide +kernel
    · revert l; decide +kernel
    · have h : (busy.lane l).gate.result = none := by revert l; decide +kernel
      intro r hr; rw [h] at hr; cases hr

end Sys2Proof.Tests
end

/-! Proofs about the rate figures (chapter 7): the decimal place found by exact comparison, division rounded up, the
count bound's excess over the error count and the order of figures; from them the ratio figure (R112) and its place
below the bound figure (R117). -/

namespace Sys2Proof.Machine

/-! ### The decimal place -/

theorem decade_le_add (num den fuel k : Nat) : decade num den fuel k ≤ k + fuel := by
  induction fuel generalizing k with
  | zero => simp [decade]
  | succ fuel ih =>
    have := ih (k + 1)
    unfold decade
    split <;> omega

/-- The search stops at a place that reaches the denominator, if the last place it may try does. -/
theorem le_mul_pow_decade {num den fuel k : Nat} (hlast : den ≤ num * 10 ^ (k + fuel)) :
    den ≤ num * 10 ^ decade num den fuel k := by
  induction fuel generalizing k with
  | zero => simpa [decade] using hlast
  | succ fuel ih =>
    unfold decade
    split
    · assumption
    · exact ih (by rwa [Nat.add_right_comm, Nat.add_assoc])

/-- Every place the search passes over falls short of the denominator. -/
theorem mul_pow_lt_of_lt_decade {num den fuel k j : Nat} (hk : k ≤ j) (hj : j < decade num den fuel k) :
    num * 10 ^ j < den := by
  induction fuel generalizing k with
  | zero => simp only [decade] at hj; omega
  | succ fuel ih =>
    unfold decade at hj
    split at hj
    · omega
    · rcases hk.eq_or_lt with rfl | hlt
      · omega
      · exact ih hlt hj

/-- A place that reaches the denominator is not passed over. -/
theorem decade_le_of_le_mul_pow {num den j : Nat} (fuel : Nat) (h : den ≤ num * 10 ^ j) :
    decade num den fuel 0 ≤ j := by
  by_contra hlt
  have := mul_pow_lt_of_lt_decade (Nat.zero_le j) (not_le.mp hlt)
  omega

/-- A quotient below 10, scaled to its place, stays below 10. -/
theorem mul_pow_decade_lt {num den : Nat} (fuel : Nat) (h : num < 10 * den) :
    num * 10 ^ decade num den fuel 0 < 10 * den := by
  rcases hk : decade num den fuel 0 with _ | j
  · simpa using h
  · have hshort : num * 10 ^ j < den := mul_pow_lt_of_lt_decade (fuel := fuel) (Nat.zero_le j) (by omega)
    rw [pow_succ, ← Nat.mul_assoc]
    omega

/-! ### Rounding -/

theorem lt_ceilDiv_iff {a b m : Nat} (hb : 0 < b) : m < ceilDiv a b ↔ m * b < a := by
  rw [ceilDiv, ← Nat.succ_le_iff, Nat.le_div_iff_mul_le hb, Nat.succ_mul]
  omega

/-- Scaling by a further 10 ^ 3 turns a quotient from 1 to 10 into a four-digit mantissa. -/
theorem four_digits_of_decade {num den k : Nat} (hden : 0 < den) (hge : den ≤ num * 10 ^ k)
    (hlt : num * 10 ^ k < 10 * den) :
    1000 ≤ num * 10 ^ (3 + k) / den ∧ num * 10 ^ (3 + k) / den ≤ 9999 := by
  have hscale : num * 10 ^ (3 + k) = 1000 * (num * 10 ^ k) := by ring
  rw [hscale]
  exact ⟨(Nat.le_div_iff_mul_le hden).mpr (by omega),
    Nat.lt_succ_iff.mp ((Nat.div_lt_iff_lt_mul hden).mpr (by omega))⟩

/-! ### The count bound -/

/-- The count bound exceeds the error count by more than one error, at every level: the table of R113 row by row, and
the constant c of R114 beyond it. -/
theorem mul_add_lt_countBound (e : Nat) (cl : Level) : 1000 * e + 1000 < countBound e cl := by
  unfold countBound
  split
  case isTrue h => cases cl <;> interval_cases e <;> decide
  case isFalse => cases cl <;> simp only [Level.c] <;> omega

/-! ### The order of figures -/

theorem Figure.zero_below {m : Nat} (hm : 0 < m) (x : Int) : Figure.zero.below ⟨m, x, false⟩ = true := by
  simp [Figure.below, Figure.zero, Figure.isZero, hm.ne']

/-- Two figures with mantissas of their own compare by exponent, then by mantissa (R109). -/
theorem Figure.below_of_lex {m m' : Nat} {x x' : Int} (hm' : 0 < m') (h : x < x' ∨ x = x' ∧ m < m') :
    Figure.below ⟨m, x, false⟩ ⟨m', x', false⟩ = true := by
  simp only [Figure.below, Figure.isZero, Bool.and_eq_true, Bool.or_eq_true, beq_iff_eq, decide_eq_true_eq]
  exact ⟨by simp [hm'.ne'], h.imp .inr id⟩

/-- What is below a figure stays below it when its mantissa of 10000 is renormalised (R115). -/
theorem Figure.below_renormalise {f : Figure} {m : Nat} {x : Int} (h : f.below ⟨m, x, false⟩ = true) :
    f.below (renormalise m x) = true := by
  unfold renormalise
  split
  · simp only [Figure.below, Figure.isZero, Bool.and_eq_true, Bool.or_eq_true, Bool.not_eq_true', decide_eq_true_eq,
      beq_iff_eq] at h ⊢
    obtain ⟨⟨⟨hf, -⟩, -⟩, hlt⟩ := h
    refine ⟨by simp [hf], ?_⟩
    rcases hlt with (hzero | hexp) | ⟨hexp, -⟩
    · exact .inl (.inl hzero)
    · exact .inl (.inr (by omega))
    · exact .inl (.inr (by omega))
  · exact h

@[simp] theorem Figure.undefined_below (g : Figure) : Figure.undefined.below g = false := rfl

/-! ### The two figures -/

@[simp] theorem ratioFigure_no_bits (e : Nat) : ratioFigure e 0 = .undefined := rfl

@[simp] theorem boundFigure_no_bits (e : Nat) (cl : Level) : boundFigure e 0 cl = .undefined := rfl

theorem ratioFigure_no_errors {n : Nat} (hn : 1 ≤ n) : ratioFigure 0 n = .zero := by
  simp [ratioFigure, Nat.ne_of_gt hn]

theorem ratioFigure_of_pos {e n : Nat} (hn : 1 ≤ n) (he : 1 ≤ e) :
    ratioFigure e n = ⟨e * 10 ^ (3 + decade e n 20 0) / n, -(decade e n 20 0 : Int), false⟩ := by
  simp [ratioFigure, Nat.ne_of_gt hn, Nat.ne_of_gt he]

theorem boundFigure_of_pos {n : Nat} (e : Nat) (cl : Level) (hn : 1 ≤ n) :
    boundFigure e n cl =
      renormalise (ceilDiv (countBound e cl * 10 ^ (3 + decade (countBound e cl) (1000 * n) 20 0)) (1000 * n))
        (-(decade (countBound e cl) (1000 * n) 20 0 : Int)) := by
  simp [boundFigure, Nat.ne_of_gt hn]

/-- Twenty places are enough for one error in as many bits as the counter holds (R112). -/
theorem le_mul_pow_ratio_decade {e n : Nat} (he : 1 ≤ e) (hmax : n ≤ 2 ^ 64 - 1) :
    n ≤ e * 10 ^ decade e n 20 0 :=
  le_mul_pow_decade (by norm_num at hmax ⊢; omega)

/-- Settles O41: at the place found, E/N is scaled to at least 1 and below 10, so the floor taken there has four
digits. -/
theorem ratioFigureRoundsDown : Obligations.RatioFigureRoundsDown := by
  intro e n hn hen hmax
  refine ⟨fun he => he ▸ ratioFigure_no_errors hn, fun he => ?_⟩
  have hge := le_mul_pow_ratio_decade he hmax
  have hlt : e * 10 ^ decade e n 20 0 < 10 * n := mul_pow_decade_lt 20 (by omega)
  have hzero : decade e n 20 0 = 0 ↔ e = n := by
    refine ⟨fun h => ?_, fun h => ?_⟩
    · rw [h] at hge
      omega
    · exact Nat.le_zero.mp (decade_le_of_le_mul_pow 20 (by omega))
  have hone : e = n → e * 10 ^ (3 + decade e n 20 0) / n = 1000 := by
    intro h
    rw [hzero.mpr h, h]
    exact Nat.mul_div_cancel_left 1000 hn
  obtain ⟨hm, hm'⟩ := four_digits_of_decade hn hge hlt
  exact ⟨_, _, ratioFigure_of_pos hn he, hge, hlt, rfl, hm, hm',
    (decade_le_add e n 20 0).trans_eq (Nat.zero_add 20), hzero, hone, Nat.div_mul_le_self _ _,
    Nat.mul_comm n _ ▸ Nat.lt_mul_div_succ _ hn⟩

/-- The exact bound never needs a later place than the ratio: it is the larger of the two. -/
theorem decade_countBound_le {e n : Nat} (cl : Level) (hreach : n ≤ e * 10 ^ decade e n 20 0) :
    decade (countBound e cl) (1000 * n) 20 0 ≤ decade e n 20 0 := by
  apply decade_le_of_le_mul_pow
  calc 1000 * n ≤ 1000 * e * 10 ^ decade e n 20 0 := by rw [Nat.mul_assoc]; omega
    _ ≤ countBound e cl * 10 ^ decade e n 20 0 :=
      Nat.mul_le_mul_right _ (by have := mul_add_lt_countBound e cl; omega)

/-- At one scale the bound rounded up exceeds the ratio rounded down. -/
theorem ratio_mantissa_lt_bound_mantissa (e p : Nat) {n : Nat} (cl : Level) (hn : 1 ≤ n) :
    e * 10 ^ p / n < ceilDiv (countBound e cl * 10 ^ p) (1000 * n) := by
  rw [lt_ceilDiv_iff (by omega)]
  have hfloor : e * 10 ^ p / n * n ≤ e * 10 ^ p := Nat.div_mul_le_self _ _
  calc e * 10 ^ p / n * (1000 * n) = 1000 * (e * 10 ^ p / n * n) := by ring
    _ ≤ 1000 * (e * 10 ^ p) := Nat.mul_le_mul_left _ hfloor
    _ = 1000 * e * 10 ^ p := by ring
    _ < countBound e cl * 10 ^ p :=
      Nat.mul_lt_mul_of_pos_right (by have := mul_add_lt_countBound e cl; omega) (by positivity)

theorem ratioFigure_below_boundFigure {e n : Nat} (cl : Level) (hn : 1 ≤ n) (hmax : n ≤ 2 ^ 64 - 1) :
    (ratioFigure e n).below (boundFigure e n cl) = true := by
  have hmant := fun p => ratio_mantissa_lt_bound_mantissa e p cl hn
  rw [boundFigure_of_pos e cl hn]
  apply Figure.below_renormalise
  rcases Nat.eq_zero_or_pos e with rfl | he
  · rw [ratioFigure_no_errors hn]
    exact Figure.zero_below (Nat.zero_lt_of_lt (hmant _)) _
  · rw [ratioFigure_of_pos hn he]
    apply Figure.below_of_lex (Nat.zero_lt_of_lt (hmant _))
    rcases (decade_countBound_le cl (le_mul_pow_ratio_decade he hmax)).lt_or_eq with hlt | heq
    · exact .inl (by omega)
    · rw [heq]
      exact .inr ⟨rfl, hmant _⟩

/-- Settles O43: the exact bound exceeds E/N, and the two figures are rounded away from each other. -/
theorem boundAboveRatio : Obligations.BoundAboveRatio := by
  intro e n cl
  exact ⟨fun hn _ hmax => ratioFigure_below_boundFigure cl hn hmax, ratioFigure_no_bits e, boundFigure_no_bits e cl,
    by simp, by simp⟩

end Sys2Proof.Machine

/-! Proofs about starting the margin unit (chapter 8): the SPOT_START body read back, points and tables as they begin;
from them SPOT_START and SWEEP_START by state (R137, R138). -/

namespace Sys2Proof.Machine

/-! ### The body of a SPOT_START (R134, R170) -/

theorem State.existingLane_ofNat {s : State} {l : Lane} (h : s.Exists l) :
    s.existingLane (BitVec.ofNat 8 l.val) = some l := by
  have hval : (BitVec.ofNat 8 l.val).toNat = l.val := by simp; omega
  have hlt : l.val < strapLaneCount s.straps := h
  simp [State.existingLane, hval, hlt]

theorem toInt_ofInt_signedByte {x : Int} (hlo : -128 ≤ x) (hhi : x ≤ 127) : (BitVec.ofInt 8 x).toInt = x :=
  BitVec.toInt_ofInt_eq_self (by decide) (by simpa using hlo) (by simp; omega)

theorem Axis.ofCode_code (a : Axis) : Axis.ofCode (natOf [a.code]) = some a := by cases a <;> rfl

theorem Eye.ofCode_code (e : Eye) : Eye.ofCode (natOf [e.code]) = some e := by cases e <;> rfl

theorem VerdictMode.ofCode_code (v : VerdictMode) : VerdictMode.ofCode (natOf [v.code]) = some v := by cases v <;> rfl

/-- Settings whose fields fit their sizes are read back from their body. -/
theorem requestedSpot_spotStartBody {ps : PointSettings} (hlo : -128 ≤ ps.offset) (hhi : ps.offset ≤ 127)
    (hdwell : ps.dwell < 2 ^ 32) (hlimit : ps.limit < 2 ^ 32) (hwait : ps.lockWait < 2 ^ 16) :
    requestedSpot ps.lane (spotStartBody ps) = some ps := by
  have haxis : Axis.ofCode (field (spotStartBody ps) 1 1) = some ps.axis := Axis.ofCode_code ps.axis
  have heye : Eye.ofCode (field (spotStartBody ps) 2 1) = some ps.eye := Eye.ofCode_code ps.eye
  have hmode : VerdictMode.ofCode (field (spotStartBody ps) 12 1) = some ps.mode := VerdictMode.ofCode_code ps.mode
  have hoffset : signedAt (spotStartBody ps) 3 = ps.offset := toInt_ofInt_signedByte hlo hhi
  have hdwell' : field (spotStartBody ps) 4 4 = ps.dwell := natOf_bytesOf_of_lt (k := 4) hdwell
  have hlimit' : field (spotStartBody ps) 8 4 = ps.limit := natOf_bytesOf_of_lt (k := 4) hlimit
  have hwait' : field (spotStartBody ps) 13 2 = ps.lockWait := natOf_bytesOf_of_lt (k := 2) hwait
  simp only [requestedSpot, haxis, heye, hmode, hoffset, hdwell', hlimit', hwait']

/-! ### SPOT_START -/

theorem exec_spotStart (r : Req) (s : State) : exec (.spotStart r) s = .next (s.serve 0x2B r spotStartAct) := rfl

theorem okOr_bne {α : Type} [DecidableEq α] (a b : α) : okOr (a != b) = if a = b then .ok else .adjusted := by
  by_cases h : a = b <;> simp [okOr, h]

/-- A SPOT_START for an existing lane, its fields within their sizes, is accepted with its settings adjusted. -/
theorem spotStartAct_accepted {s : State} {ps : PointSettings} (hlane : s.Exists ps.lane)
    (hread : requestedSpot ps.lane (spotStartBody ps) = some ps) :
    spotStartAct (spotStartBody ps) s =
      ({ s with margin := s.margin.spotStart ps.applied },
        { status := if ps.applied = ps then .ok else .adjusted
          fields := .spotStart ps.applied (s.margin.spotStart ps.applied).state.name }) := by
  have hfound : s.existingLane (byteAt (spotStartBody ps) 0) = some ps.lane := State.existingLane_ofNat hlane
  simp only [spotStartAct, hfound, hread, okOr_bne]

/-- Whatever the unit was doing, a SPOT_START changes only its state and moves the sampler to the spot's place (R137). -/
theorem Margin.spotStart_eq (ps : PointSettings) (m : Margin) :
    m.spotStart ps = { m with state := (m.spotStart ps).state, sampler := some ps.place } := by
  unfold Margin.spotStart
  split <;> rfl

/-- Settles O48: the body's settings are read back and adjusted, and the spot begins in the state R137 gives. -/
theorem spotStartByState : Obligations.SpotStartByState := by
  intro s tag ps hlo hhi hdwell hlimit hwait hlane htakes
  have hlen : bodyLengthOk 0x2B (spotStartBody ps).length = true := rfl
  have hact := spotStartAct_accepted (s := s.popRequest) hlane
    (requestedSpot_spotStartBody hlo hhi hdwell hlimit hwait)
  refine ⟨ps.applied, Point.begin ps.applied, (s.margin.spotStart ps.applied).state, ?run, ?settings, rfl,
    ?idle, ?spot, ?sweep, ?forcedSpot, ?spotThenSweep⟩
  case run =>
    rw [exec_spotStart, State.serve_own htakes hlen, hact, State.popRequest_margin, Margin.spotStart_eq]
    rfl
  case settings => simp [PointSettings.applied, appliedDwell, clampInt, clampNat, roundUp32]
  all_goals
    intros
    simp only [Margin.spotStart, Margin.beginSpot, ‹s.margin.state = _›]

/-! ### Places and passes (R130, R131) -/

theorem pairwise_lanesOf (b : LaneSet) : (lanesOf b).Pairwise (· < ·) := by
  have hlist : laneList.Pairwise (· < ·) := by decide
  exact hlist.filter _

/-- A sweep begins on the lowest lane its plan names. -/
theorem Plan.firstLane_of_lowest {p : Plan} {l : Lane} (h : LowestOf p.lanes l) : p.firstLane = l := by
  obtain ⟨hmem, hleast⟩ := h
  rw [← mem_lanesOf] at hmem
  have hsorted := pairwise_lanesOf p.lanes
  rcases hlanes : lanesOf p.lanes with _ | ⟨a, rest⟩
  · simp [hlanes] at hmem
  · rw [hlanes] at hmem hsorted
    have hal : l ≤ a := hleast a ((mem_lanesOf p.lanes a).mp (by simp [hlanes]))
    rw [Plan.firstLane, hlanes]
    rcases List.mem_cons.mp hmem with rfl | hrest
    · rfl
    · exact absurd ((List.pairwise_cons.mp hsorted).1 l hrest) (not_lt.mpr hal)

/-- The pass number goes on at 1 after 2^32 - 1. -/
theorem nextPass_eq (n : Nat) : nextPass n = if n < 2 ^ 32 - 1 then n + 1 else 1 := by
  unfold nextPass Config.max32
  split_ifs <;> omega

/-! ### Tables (R132) -/

theorem PointTable.rebuild_rebuiltFor (p : Plan) (pass : Nat) (t : PointTable) :
    (t.rebuild p pass).RebuiltFor p pass := by
  refine ⟨rfl, fun i => ?_⟩
  simp +contextual [PointTable.rebuild, Plan.offset]

theorem Margin.rebuild_table (p : Plan) (pass : Nat) (l k : Lane) (m : Margin) :
    (m.rebuild p pass l).tables[k] = if l = k then m.tables[k].rebuild p pass else m.tables[k] := by
  simp only [Margin.rebuild, Fin.getElem_fin, Vector.getElem_set, Fin.val_inj]
  split
  · next h => rw [h]
  · rfl

/-- Rebuilding a list of lanes without repeats rebuilds the table of each listed lane. -/
theorem Margin.foldl_rebuild_table (p : Plan) (pass : Nat) {ls : List Lane} (hls : ls.Nodup) (m : Margin) (k : Lane) :
    (ls.foldl (fun n l => n.rebuild p pass l) m).tables[k] =
      if k ∈ ls then m.tables[k].rebuild p pass else m.tables[k] := by
  induction ls generalizing m with
  | nil => rfl
  | cons l rest ih =>
    obtain ⟨hl, hrest⟩ := List.nodup_cons.mp hls
    rw [List.foldl_cons, ih hrest, Margin.rebuild_table]
    by_cases hk : l = k
    · subst hk
      simp [hl]
    · simp [hk, Ne.symm hk]

/-- Rebuilding lanes changes nothing but the tables. -/
theorem Margin.foldl_rebuild_eq (p : Plan) (pass : Nat) (ls : List Lane) (m : Margin) :
    ls.foldl (fun n l => n.rebuild p pass l) m =
      { m with tables := (ls.foldl (fun n l => n.rebuild p pass l) m).tables } :=
  foldl_keeps (fun a b => b = { a with tables := b.tables }) (fun _ => rfl)
    (fun a b c hab hbc => by rw [hbc, hab]) _ (fun _ _ => rfl) ls m

/-! ### Beginning a sweep's point (R124, R132) -/

/-- What beginning a sweep's point changes: the state, the sampler, and for a lane's fresh first point its table. -/
theorem Margin.beginSweepPoint_eq (sw : Sweep) (fresh : Bool) (m : Margin) :
    m.beginSweepPoint sw fresh =
      { m with
        state := .sweep (Point.begin (sw.plan.pointOn sw.lane sw.index)) sw
        sampler := some (sw.plan.pointOn sw.lane sw.index).place
        tables := if fresh && sw.index == 0 then (m.rebuild sw.plan sw.pass sw.lane).tables else m.tables } := by
  unfold Margin.beginSweepPoint
  split <;> rfl

theorem Margin.beginSweepPoint_standsAt (sw : Sweep) (fresh : Bool) (m : Margin) :
    (m.beginSweepPoint sw fresh).StandsAt sw.plan sw.lane sw.index sw.pass := ⟨rfl, rfl⟩

/-- A pass begins with the table of the plan's first lane rebuilt. -/
theorem Margin.beginPass_table (p : Plan) (m : Margin) (k : Lane) :
    (m.beginPass p).tables[k] =
      if p.firstLane = k then m.tables[k].rebuild p (nextPass m.passCounter) else m.tables[k] :=
  Margin.rebuild_table ..

/-! ### SWEEP_START -/

theorem exec_sweepStart (r : Req) (s : State) :
    exec (.sweepStart r) s = .next (s.serve 0x29 r fun _ => sweepStartAct) := rfl

/-- SWEEP_START in SWEEP: every named lane's table is rebuilt, then the first point begins under the present pass. -/
theorem Margin.sweepStart_of_sweep {m : Margin} {p : Point} {sw : Sweep} (h : m.state = .sweep p sw) :
    m.sweepStart =
      ((lanesOf m.plan.lanes).foldl (fun n l => n.rebuild m.plan sw.pass l) m).beginSweepPoint
        { plan := m.plan, lane := m.plan.firstLane, index := 0, pass := sw.pass } false := by
  simp only [Margin.sweepStart, h]

/-- SWEEP_START never touches the plan, the summaries or the spot record. -/
theorem Margin.sweepStart_keeps (m : Margin) :
    m.sweepStart.plan = m.plan ∧ m.sweepStart.summaries = m.summaries ∧ m.sweepStart.spot = m.spot := by
  rcases h : m.state with _ | p | ⟨p, sw⟩ | ⟨p, sw⟩ | ⟨p, w⟩
  case sweep =>
    rw [Margin.sweepStart_of_sweep h, Margin.beginSweepPoint_eq, Margin.foldl_rebuild_eq]
    exact ⟨rfl, rfl, rfl⟩
  all_goals simp only [Margin.sweepStart, h, Margin.beginPass, Margin.beginSweepPoint_eq, and_self]

/-- SWEEP_START in IDLE begins the plan's first point under the next pass number (R131, R138). -/
theorem Margin.sweepStart_idle {m : Margin} {l : Lane} (h : m.state = .idle) (hl : LowestOf m.plan.lanes l) :
    m.sweepStart.passCounter = nextPass m.passCounter ∧
    m.sweepStart.StandsAt m.plan l 0 (nextPass m.passCounter) ∧
    m.sweepStart.tables[l].RebuiltFor m.plan (nextPass m.passCounter) ∧
    ∀ k : Lane, k ≠ l → m.sweepStart.tables[k] = m.tables[k] := by
  have hstart : m.sweepStart = m.beginPass m.plan := by simp only [Margin.sweepStart, h]
  rw [hstart, ← Plan.firstLane_of_lowest hl]
  refine ⟨rfl, Margin.beginSweepPoint_standsAt .., ?_, fun k hk => ?_⟩
  · rw [Margin.beginPass_table, if_pos rfl]
    exact PointTable.rebuild_rebuiltFor ..
  · rw [Margin.beginPass_table, if_neg hk.symm]

/-- SWEEP_START in SWEEP restarts under the present pass with every named lane's table rebuilt (R138). -/
theorem Margin.sweepStart_sweep {m : Margin} {p : Point} {sw : Sweep} {l : Lane} (h : m.state = .sweep p sw)
    (hl : LowestOf m.plan.lanes l) :
    m.sweepStart.passCounter = m.passCounter ∧ m.sweepStart.StandsAt m.plan l 0 sw.pass ∧
    ∀ k : Lane, if m.plan.lanes.getLsbD k.val then m.sweepStart.tables[k].RebuiltFor m.plan sw.pass
      else m.sweepStart.tables[k] = m.tables[k] := by
  rw [Margin.sweepStart_of_sweep h, ← Plan.firstLane_of_lowest hl]
  refine ⟨?_, Margin.beginSweepPoint_standsAt .., fun k => ?_⟩
  · rw [Margin.foldl_rebuild_eq]
    rfl
  · have htable := Margin.foldl_rebuild_table m.plan sw.pass (nodup_lanesOf m.plan.lanes) m k
    simp only [mem_lanesOf] at htable
    simp only [Margin.beginSweepPoint_eq, Bool.false_and, Bool.false_eq_true, if_false, htable]
    split
    · exact PointTable.rebuild_rebuiltFor ..
    · rfl

/-- SWEEP_START during a spot lets the spot go on and the plan wait (R138). -/
theorem Margin.sweepStart_spot {m : Margin} {p : Point}
    (h : m.state = .spot p ∨ (∃ sw, m.state = .forcedSpot p sw) ∨ ∃ w, m.state = .spotThenSweep p w) :
    m.sweepStart = { m with state := .spotThenSweep p m.plan } := by
  rcases h with h | ⟨sw, h⟩ | ⟨w, h⟩ <;> simp only [Margin.sweepStart, h]

/-- Settles O49: SWEEP_START is accepted in every state, and the unit then stands as R138 gives it by state. -/
theorem sweepStartByState : Obligations.SweepStartByState := by
  intro s tag htakes
  obtain ⟨hplan, hsummaries, hspot⟩ := s.margin.sweepStart_keeps
  refine ⟨s.margin.sweepStart, ?run, hplan, hsummaries, hspot, fun l hidle hl => ?idle,
    fun p sw l hsweep hl => Margin.sweepStart_sweep hsweep hl, fun p hp => Margin.sweepStart_spot hp⟩
  case run =>
    rw [exec_sweepStart, State.serve_own htakes rfl]
    rfl
  case idle =>
    obtain ⟨hpass, hstands, htable, hothers⟩ := Margin.sweepStart_idle hidle hl
    rw [hpass]
    exact ⟨nextPass_eq _, hstands, htable, hothers⟩

end Sys2Proof.Machine

/-! What a step can do, once: the act of each request command, everything a request can change beside its answer, and
everything an event can change. Each invariant of the part is then a case split over these effects. -/

namespace Sys2Proof.Machine

/-! ### Request commands and their acts -/

/-- The act of the request commands of a kind (R161). -/
def actOf (code : BitVec 6) : List Byte → State → State × Answer :=
  match code.toNat with
  | 0x01 => fun _ => identifyAct
  | 0x02 => fun _ => statusAct
  | 0x03 => fun _ => resetAct
  | 0x04 => noticeMaskAct
  | 0x05 => fun _ => historyReadAct
  | 0x06 => historyClearAct
  | 0x08 => regionDefineAct
  | 0x09 => regionDeleteAct
  | 0x0A => fun _ => regionReadAct
  | 0x0B => patternWriteAct
  | 0x0C => patternReadAct
  | 0x10 => laneSetAct
  | 0x11 => genSetAct
  | 0x12 => genInsertAct
  | 0x13 => genReadAct
  | 0x14 => chkSetAct
  | 0x15 => chkHoldAct
  | 0x16 => chkReleaseAct
  | 0x17 => chkReadAct
  | 0x18 => filterSetAct
  | 0x19 => filterClearAct
  | 0x1A => fun _ => filterReadAct
  | 0x1B => filterProbeAct
  | 0x20 => gateStartAct
  | 0x21 => gateStopAct
  | 0x22 => gateReadAct
  | 0x23 => combineAct
  | 0x28 => sweepSetAct
  | 0x29 => fun _ => sweepStartAct
  | 0x2A => fun _ => sweepStopAct
  | 0x2B => spotStartAct
  | 0x2C => sweepReadAct
  | 0x30 => captureSetAct
  | 0x31 => fun _ => captureReadAct
  | 0x32 => logReadAct
  | 0x33 => fun _ => logClearAct
  | 0x34 => logSetAct
  | _ => fun _ s => (s, refuse .badKind)

/-- A request command of a known kind serves its request with the kind's act. -/
theorem exec_request {i : Instr} {code : BitVec 6} {r : Req} (h : requestOf i = some (code, r))
    (hk : isKnownKind code = true) (s : State) : exec i s = .next (s.serve code r (actOf code)) := by
  cases i
  case unknownKind code' r' =>
    simp only [requestOf] at h
    split at h
    · cases h
    · next hn => obtain ⟨rfl, rfl⟩ := Prod.mk.inj (Option.some.inj h); exact absurd hk hn
  all_goals cases h
  all_goals rfl

/-- A request command of an unknown kind is an UNKNOWN_KIND. -/
theorem exec_unknown {i : Instr} {code : BitVec 6} {r : Req} (h : requestOf i = some (code, r))
    (hk : isKnownKind code = false) (s : State) : exec i s = .next (s.unknownKind code r) := by
  cases i
  case unknownKind code' r' =>
    simp only [requestOf] at h
    split at h
    · cases h
    · obtain ⟨rfl, rfl⟩ := Prod.mk.inj (Option.some.inj h); rfl
  all_goals cases h
  all_goals exact absurd hk (by decide)

/-! ### What executing a request can do -/

/-- A request waits, which concerns the line alone, or its body runs, between changes of the line. -/
theorem State.execute_cases (q : Request) (body : State → State) (s : State) :
    ∃ c, s.execute q body = { s with line := c } ∨ s.execute q body = (body { s with line := c }).pump := by
  unfold State.execute
  dsimp only
  split
  · exact ⟨_, .inr rfl⟩
  · exact ⟨_, .inl rfl⟩

/-- Serving a request either concerns the line alone, or acts, between changes of the line. -/
theorem State.serve_cases (kind : BitVec 6) (r : Req) (act : List Byte → State → State × Answer) (s : State) :
    ∃ c d, s.serve kind r act = { s with line := c } ∨
      s.serve kind r act = { (act r.body { s with line := c }).1 with line := d } := by
  obtain ⟨c, h | h⟩ := s.execute_cases (requestFor kind r) (State.perform (requestFor kind r) act)
  · exact ⟨c, c, .inl h⟩
  · rw [State.serve, h, State.perform]
    split_ifs
    · exact ⟨c, _, .inr rfl⟩
    · exact ⟨_, c, .inl rfl⟩
    · exact ⟨c, _, .inr rfl⟩
    · exact ⟨_, c, .inl rfl⟩

theorem State.unknownKind_cases (code : BitVec 6) (r : Req) (s : State) :
    ∃ c, s.unknownKind code r = { s with line := c } := by
  unfold State.unknownKind
  split
  · exact ⟨s.line, rfl⟩
  · obtain ⟨c, h | h⟩ := s.execute_cases (requestFor code r)
      fun s => if r.broadcast then s else State.answerTo (requestFor code r) (s, refuse .badKind)
    · exact ⟨c, h⟩
    · rw [h]
      split
      · exact ⟨_, rfl⟩
      · exact ⟨_, rfl⟩

/-- Everything a request can do to the state, beside its answer, with what its checks have found. -/
inductive RequestEffect (s : State) : State → Prop
  | nothing : RequestEffect s s
  | resetDue : RequestEffect s { s with line := { s.line with resetDue := true } }
  | mask (set : BitVec 6) : RequestEffect s { s with line := { s.line with
      enabled := set, outbox := s.line.outbox.filter fun n => n.enabledIn set } }
  | clearHistory (b : LaneSet) (flags : HistorySet) :
      RequestEffect s { s with history := clearHistory b flags s.history }
  | define (id : Nat) (r : Region) (hr : r.InRange) (hfree : s.store.clashes id r = false)
      (href : ((s.store.region id).isSome && s.referenced id) = false) :
      RequestEffect s { s with store := s.store.setRegion id (some r) }
  | delete (id : Nat) (href : s.referenced id = false) :
      RequestEffect s { s with store := s.store.setRegion id none }
  | write (id off : Nat) (data : List Byte) (r : Region) (hr : s.store.region id = some r)
      (hfit : off + data.length ≤ r.bytes) :
      RequestEffect s { s with store := { s.store with memory := writeBytes s.store.memory (8 * r.base + off) data } }
  | laneSet (b : LaneSet) (power : LanePower) (rate : Fin 4) (loopback : Bool) (hb : s.namesAbsent b = false)
      (hidle : ∀ l ∈ lanesOf b, ((s.lane l).gate.state.active && (s.lane l).reconfigures rate loopback) = false) :
      RequestEffect s (s.applyLaneSet b power rate loopback)
  | genSet (b : LaneSet) (pattern : Nat) (pol : Polarity) (src : ShapingSource) (t : Triple)
      (hb : s.namesAbsent b = false) (hp : s.store.checkPattern pattern = none) (ht : t.InRange) :
      RequestEffect s (s.onLanes b fun x => { x with gen := x.gen.configure pattern pol src t })
  | genInsert (b : LaneSet) (m : InsertMode) (hb : s.namesAbsent b = false) :
      RequestEffect s (s.onLanes b fun x => { x with gen := x.gen.setMode m })
  | genRead (l : Lane) (n : Nat → Nat) (hl : s.Exists l) :
      RequestEffect s (s.modLane l fun x => { x with gen := { x.gen with inserted := n x.gen.inserted } })
  | chkSet (b : LaneSet) (cfg : ChkConfig) (hb : s.namesAbsent b = false)
      (hp : s.store.checkPattern cfg.pattern = none) :
      RequestEffect s (s.onLanes b fun x => { x with chk := { x.chk with config := cfg } })
  | chkHold (b : LaneSet) (hb : s.namesAbsent b = false) (hon : ∀ l ∈ lanesOf b, (s.lane l).chkState ≠ .off) :
      RequestEffect s (s.transition (s.holdMoves b))
  | chkRelease (b : LaneSet) (hb : s.namesAbsent b = false) (hheld : ∀ l ∈ lanesOf b, (s.lane l).chkState = .held) :
      RequestEffect s (s.transition (s.releaseMoves b))
  | gateStart (b : LaneSet) (args : GateArgs) (hb : s.namesAbsent b = false)
      (hidle : ∀ l ∈ lanesOf b, (s.lane l).gate.state.active = false)
      (hon : ∀ l ∈ lanesOf b, (s.lane l).chkState ≠ .off) :
      RequestEffect s ((lanesOf b).foldl (fun s l => s.startGate args l) s)
  | gateStop (b : LaneSet) (hb : s.namesAbsent b = false) :
      RequestEffect s ((lanesOf b).foldl (fun s l => s.stopGate l) s)
  | filters (t : Vector (Option Filter) 16) : RequestEffect s { s with filters := t }
  | plan (p : Plan) (hp : p.lanes ≠ 0) : RequestEffect s { s with margin := { s.margin with plan := p.applied } }
  | sweepStart : RequestEffect s { s with margin := s.margin.sweepStart }
  | sweepStop : RequestEffect s ({ s with margin := s.margin.idle }.queueNotices s.margin.state.stopNotices)
  | spotStart (ps : PointSettings) : RequestEffect s { s with margin := s.margin.spotStart ps.applied }
  | captureSet (b : LaneSet) (mode : CaptureMode) (quota : Nat) (hb : s.namesAbsent b = false) :
      RequestEffect s ((lanesOf b).foldl (fun s l => s.modCapture l fun c => { c with mode := mode, quota := quota }) s)
  | logRead (n : Nat) : RequestEffect s (s.withLog { s.log with
      records := s.log.records.drop n
      fullMark := s.log.fullMark && Config.logCapacity ≤ (s.log.records.drop n).length })
  | logClear : RequestEffect s (s.withLog { s.log with records := [], fullMark := false })
  | logSet (arb : ArbPolicy) (full : FullPolicy) (w : Nat) :
      RequestEffect s (s.withLog { s.log with arb := arb, full := full, watermark := clampNat 1 512 w })

theorem existingLane_exists {s : State} {b : Byte} {l : Lane} (h : s.existingLane b = some l) : s.Exists l := by
  unfold State.existingLane at h
  split at h
  · next hb => cases h; exact hb.1
  · cases h

theorem effect_historyClear (body : List Byte) (s : State) : RequestEffect s (historyClearAct body s).1 := by
  unfold historyClearAct
  dsimp only
  split_ifs
  · exact .nothing
  · exact .nothing
  · exact .clearHistory _ _

theorem effect_regionDefine (body : List Byte) (s : State) : RequestEffect s (regionDefineAct body s).1 := by
  unfold regionDefineAct
  dsimp only
  split
  · exact .nothing
  · split
    · exact .nothing
    · next hlen =>
      split
      · exact .nothing
      · next hlast =>
        split
        · exact .nothing
        · next href =>
          split
          · exact .nothing
          · next hfree =>
            obtain ⟨⟨hmin, hmax⟩, -⟩ := (not_or.1 hlen).imp_left not_not.1
            exact .define _ _ ⟨hmin, hmax, Nat.le_of_not_lt hlast⟩ (Bool.eq_false_iff.2 hfree)
              (Bool.eq_false_iff.2 href)

theorem effect_regionDelete (body : List Byte) (s : State) : RequestEffect s (regionDeleteAct body s).1 := by
  unfold regionDeleteAct
  dsimp only
  split
  · exact .nothing
  · split
    · exact .nothing
    · split
      · exact .nothing
      · next href => exact .delete _ (Bool.eq_false_iff.2 href)

theorem effect_patternWrite (body : List Byte) (s : State) : RequestEffect s (patternWriteAct body s).1 := by
  unfold patternWriteAct
  dsimp only
  split
  · exact .nothing
  · split
    · exact .nothing
    · next r hr =>
      split_ifs with h1 h2
      · exact .nothing
      · exact .nothing
      · exact .write _ _ _ r hr (Nat.le_of_not_lt h1)

theorem patternReadAct_fst (body : List Byte) (s : State) : (patternReadAct body s).1 = s := by
  unfold patternReadAct
  dsimp only
  split
  · rfl
  · split
    · rfl
    · split <;> rfl

theorem any_lanesOf_eq_false {b : LaneSet} {p : Lane → Bool} (h : ¬(lanesOf b).any p = true) (l : Lane)
    (hl : l ∈ lanesOf b) : p l = false := by
  rw [List.any_eq_true] at h
  exact Bool.eq_false_iff.2 fun hp => h ⟨l, hl, hp⟩

theorem effect_laneSet (body : List Byte) (s : State) : RequestEffect s (laneSetAct body s).1 := by
  unfold laneSetAct
  dsimp only
  split
  · exact .nothing
  · next hb =>
    split
    · exact .nothing
    · split
      · split
        · split
          · exact .nothing
          · next hidle => exact .laneSet _ _ _ _ (Bool.eq_false_iff.2 hb) (any_lanesOf_eq_false hidle)
        · exact .nothing
      · exact .nothing

theorem effect_genSet (body : List Byte) (s : State) : RequestEffect s (genSetAct body s).1 := by
  unfold genSetAct
  dsimp only
  split
  · exact .nothing
  · next hb =>
    split
    · exact .nothing
    · split
      · split
        · exact .nothing
        · split
          · exact .nothing
          · next hp =>
            split
            · exact .genSet _ _ _ _ _ (Bool.eq_false_iff.2 hb) hp (applied_inRange _)
            · exact .genSet _ _ _ _ _ (Bool.eq_false_iff.2 hb) hp (presetTriple_inRange _)
      · exact .nothing

theorem effect_genInsert (body : List Byte) (s : State) : RequestEffect s (genInsertAct body s).1 := by
  unfold genInsertAct
  dsimp only
  split
  · exact .nothing
  · next hb =>
    split
    · exact .nothing
    · split
      · exact .nothing
      · exact .genInsert _ _ (Bool.eq_false_iff.2 hb)

theorem effect_genRead (body : List Byte) (s : State) : RequestEffect s (genReadAct body s).1 := by
  unfold genReadAct
  split
  · exact .nothing
  · next l hl => exact .genRead l (fun n => if field body 1 1 = 0 then n else 0) (existingLane_exists hl)

theorem effect_chkSet (body : List Byte) (s : State) : RequestEffect s (chkSetAct body s).1 := by
  unfold chkSetAct
  dsimp only
  split
  · exact .nothing
  · next hb =>
    split
    · exact .nothing
    · split
      · exact .nothing
      · split
        · exact .nothing
        · next hp =>
          split
          · exact .nothing
          · exact .chkSet _ _ (Bool.eq_false_iff.2 hb) hp

theorem effect_chkHold (body : List Byte) (s : State) : RequestEffect s (chkHoldAct body s).1 := by
  unfold chkHoldAct
  dsimp only
  split_ifs with hb h0 hoff
  · exact .nothing
  · exact .nothing
  · exact .nothing
  · exact .chkHold _ (Bool.eq_false_iff.2 hb) fun l hl => by simpa using any_lanesOf_eq_false hoff l hl

theorem effect_chkRelease (body : List Byte) (s : State) : RequestEffect s (chkReleaseAct body s).1 := by
  unfold chkReleaseAct
  dsimp only
  split_ifs with hb h0 hheld
  · exact .nothing
  · exact .nothing
  · exact .nothing
  · exact .chkRelease _ (Bool.eq_false_iff.2 hb) fun l hl => by simpa using any_lanesOf_eq_false hheld l hl

theorem chkReadAct_fst (body : List Byte) (s : State) : (chkReadAct body s).1 = s := by
  unfold chkReadAct
  split <;> rfl

theorem effect_filterSet (body : List Byte) (s : State) : RequestEffect s (filterSetAct body s).1 := by
  unfold filterSetAct
  dsimp only
  split
  · split_ifs
    · exact .nothing
    · exact .nothing
    · exact .nothing
    · exact .filters _
  · exact .nothing

theorem effect_filterClear (body : List Byte) (s : State) : RequestEffect s (filterClearAct body s).1 := by
  unfold filterClearAct
  dsimp only
  split_ifs
  · exact .nothing
  · exact .nothing
  · exact .filters _

theorem filterProbeAct_fst (body : List Byte) (s : State) : (filterProbeAct body s).1 = s := by
  unfold filterProbeAct
  split <;> rfl

theorem effect_gateStart (body : List Byte) (s : State) : RequestEffect s (gateStartAct body s).1 := by
  unfold gateStartAct
  dsimp only
  split
  · exact .nothing
  · next hb =>
    split
    · exact .nothing
    · split
      · exact .nothing
      · split
        · exact .nothing
        · next hidle =>
          split
          · exact .nothing
          · next hoff =>
            exact .gateStart _ _ (Bool.eq_false_iff.2 hb) (any_lanesOf_eq_false hidle) fun l hl => by
              simpa using any_lanesOf_eq_false hoff l hl

theorem effect_gateStop (body : List Byte) (s : State) : RequestEffect s (gateStopAct body s).1 := by
  unfold gateStopAct
  dsimp only
  split_ifs with hb
  · exact .nothing
  · exact .nothing
  · exact .gateStop _ (Bool.eq_false_iff.2 hb)

theorem gateReadAct_fst (body : List Byte) (s : State) : (gateReadAct body s).1 = s := by
  unfold gateReadAct
  split
  · rfl
  · rfl
  · rfl
  · split <;> rfl

theorem combineAct_fst (body : List Byte) (s : State) : (combineAct body s).1 = s := by
  unfold combineAct
  dsimp only
  split
  · rfl
  · split
    · rfl
    · split <;> rfl

theorem requestedPlan_lanes {body : List Byte} {p : Plan} (h : requestedPlan body = some p) :
    p.lanes = byteAt body 0 := by
  unfold requestedPlan at h
  split at h
  · cases h; rfl
  · cases h

theorem effect_sweepSet (body : List Byte) (s : State) : RequestEffect s (sweepSetAct body s).1 := by
  unfold sweepSetAct
  dsimp only
  split
  · exact .nothing
  · split
    · exact .nothing
    · next h0 =>
      split
      · exact .nothing
      · next p hp => exact .plan p (requestedPlan_lanes hp ▸ h0)

theorem effect_spotStart (body : List Byte) (s : State) : RequestEffect s (spotStartAct body s).1 := by
  unfold spotStartAct
  split
  · exact .nothing
  · split
    · exact .nothing
    · exact .spotStart _

theorem sweepReadAct_fst (body : List Byte) (s : State) : (sweepReadAct body s).1 = s := by
  unfold sweepReadAct
  split <;> rfl

theorem effect_captureSet (body : List Byte) (s : State) : RequestEffect s (captureSetAct body s).1 := by
  unfold captureSetAct
  dsimp only
  split
  · exact .nothing
  · next hb =>
    split
    · exact .nothing
    · split
      · exact .nothing
      · exact .captureSet _ _ _ (Bool.eq_false_iff.2 hb)

theorem effect_logSet (body : List Byte) (s : State) : RequestEffect s (logSetAct body s).1 := by
  unfold logSetAct
  split
  · exact .logSet _ _ _
  · exact .nothing

theorem RequestEffect.of_eq {s t : State} (h : t = s) : RequestEffect s t := h ▸ .nothing

/-- Every request's act is one of these effects. -/
theorem requestEffect_actOf (code : BitVec 6) (body : List Byte) (s : State) :
    RequestEffect s (actOf code body s).1 := by
  generalize hact : actOf code = act
  unfold actOf at hact
  split at hact <;> subst hact
  · exact .nothing
  · exact .nothing
  · exact .resetDue
  · exact .mask _
  · exact .nothing
  · exact effect_historyClear body s
  · exact effect_regionDefine body s
  · exact effect_regionDelete body s
  · exact .nothing
  · exact effect_patternWrite body s
  · exact .of_eq (patternReadAct_fst body s)
  · exact effect_laneSet body s
  · exact effect_genSet body s
  · exact effect_genInsert body s
  · exact effect_genRead body s
  · exact effect_chkSet body s
  · exact effect_chkHold body s
  · exact effect_chkRelease body s
  · exact .of_eq (chkReadAct_fst body s)
  · exact effect_filterSet body s
  · exact effect_filterClear body s
  · exact .nothing
  · exact .of_eq (filterProbeAct_fst body s)
  · exact effect_gateStart body s
  · exact effect_gateStop body s
  · exact .of_eq (gateReadAct_fst body s)
  · exact .of_eq (combineAct_fst body s)
  · exact effect_sweepSet body s
  · exact .sweepStart
  · exact .sweepStop
  · exact effect_spotStart body s
  · exact .of_eq (sweepReadAct_fst body s)
  · exact effect_captureSet body s
  · exact .nothing
  · exact .logRead _
  · exact .logClear
  · exact effect_logSet body s
  · exact .nothing

/-! ### What an event can do -/

/-- Everything an event can do to the state, but for changes to the control line. -/
inductive EventEffect (s : State) : State → Prop
  | nothing : EventEffect s s
  | powerOn (st : Straps) : EventEffect s (s.powerOnReset st)
  | lineReset (st : Straps) : EventEffect s (s.lineReset st)
  | softReset : EventEffect s s.softResetNow
  | uptime : EventEffect s s.uptimeTick
  | generatorWord (l : Lane) : EventEffect s (s.modLane l (LaneState.generatorWord s.store))
  | signal (l : Lane) (level : Bool) : EventEffect s (s.signalLevel l level)
  | seed (l : Lane) (rx : Reception) : EventEffect s (s.seedLoaded l rx)
  | anchor (l : Lane) (rx : Reception) : EventEffect s (s.anchorMatch l rx)
  | verify (l : Lane) (rx : Reception) : EventEffect s (s.verifyWord l rx)
  | word (l : Lane) (rx : Reception) (above : List Bool) (written : Bool) :
      EventEffect s (s.lockedWord l rx above written)
  | write : EventEffect s s.writeCompletion
  | gateTimer (l : Lane) : EventEffect s (s.gateExpiry l)
  | settle (midWord : Bool) : EventEffect s (s.settleExpiry midWord)
  | lockWait : EventEffect s s.lockWaitExpiry

/-- Every event is one of these effects, followed by a change of the line. -/
theorem exec_event {i : Instr} {s t : State} (hi : requestOf i = none) (h : exec i s = .next t) :
    ∃ u c, EventEffect s u ∧ t = { u with line := c } := by
  cases i
  case powerOnReset st => cases h; exact ⟨_, _, .powerOn st, rfl⟩
  case lineReset st => cases h; exact ⟨_, _, .lineReset st, rfl⟩
  case softReset =>
    cases h
    unfold State.softReset
    split
    · exact ⟨_, _, .softReset, rfl⟩
    · exact ⟨_, _, .nothing, rfl⟩
  case frameReceived chars => cases h; exact ⟨_, _, .nothing, rfl⟩
  case interByteGap => cases h; exact ⟨_, _, .nothing, rfl⟩
  case frameSent => cases h; exact ⟨_, _, .nothing, rfl⟩
  case unknownKind code r =>
    cases h
    obtain ⟨c, hc⟩ := s.unknownKind_cases code r
    exact ⟨s, c, .nothing, hc⟩
  case uptimeTick => cases h; exact ⟨_, _, .uptime, rfl⟩
  case generatorWordStart l => cases h; exact ⟨_, _, .generatorWord l, rfl⟩
  case signalRise l => cases h; exact ⟨_, _, .signal l true, rfl⟩
  case signalFall l => cases h; exact ⟨_, _, .signal l false, rfl⟩
  case seedLoaded l rx => cases h; exact ⟨_, _, .seed l rx, rfl⟩
  case anchorMatch l rx => cases h; exact ⟨_, _, .anchor l rx, rfl⟩
  case verifyWordEnd l rx => cases h; exact ⟨_, _, .verify l rx, rfl⟩
  case wordResult l rx beside => cases h; exact ⟨_, _, .word l rx beside.above beside.written, rfl⟩
  case writeCompletion => cases h; exact ⟨_, _, .write, rfl⟩
  case gateTimerExpiry l => cases h; exact ⟨_, _, .gateTimer l, rfl⟩
  case settleExpiry m => cases h; exact ⟨_, _, .settle m, rfl⟩
  case lockWaitExpiry => cases h; exact ⟨_, _, .lockWait, rfl⟩
  all_goals cases hi

/-! ### What every step keeps -/

theorem step_nil {s : State} (h : s.pending = []) : step s = .next s := by
  simp only [step, h]

theorem step_cons {s : State} {i : Instr} {rest : List Instr} (h : s.pending = i :: rest) :
    step s = exec i (s.withPending rest) := by
  simp only [step, h]

/-- A property that the queue of commands and the control line do not matter to is kept by every step if every request's
and every event's effect keeps it. -/
theorem step_keeps {P : State → Prop} (hpending : ∀ s q, P s → P (s.withPending q))
    (hline : ∀ (s : State) c, P s → P { s with line := c }) (hrequest : ∀ s t, RequestEffect s t → P s → P t)
    (hevent : ∀ s t, EventEffect s t → P s → P t) {s t : State} (h : P s) (hs : step s = .next t) : P t := by
  rcases hq : s.pending with _ | ⟨i, rest⟩
  · rw [step_nil hq] at hs
    cases hs
    exact h
  · rw [step_cons hq] at hs
    have hp := hpending s rest h
    rcases hr : requestOf i with _ | ⟨code, r⟩
    · obtain ⟨u, c, hu, rfl⟩ := exec_event hr hs
      exact hline u c (hevent _ u hu hp)
    · cases hk : isKnownKind code with
      | true =>
        rw [exec_request hr hk] at hs
        cases hs
        obtain ⟨c, d, h | h⟩ := (s.withPending rest).serve_cases code r (actOf code)
        · exact h ▸ hline _ c hp
        · exact h ▸ hline _ d (hrequest _ _ (requestEffect_actOf code r.body _) (hline _ c hp))
      | false =>
        rw [exec_unknown hr hk] at hs
        cases hs
        obtain ⟨c, h⟩ := (s.withPending rest).unknownKind_cases code r
        exact h ▸ hline _ c hp

/-- Settles O1: the step reads the front of the queue. -/
theorem stepRunsFrontCommand : Obligations.StepRunsFrontCommand :=
  ⟨fun _ _ _ h => step_cons h, fun _ h => step_nil h⟩

end Sys2Proof.Machine

/-! The small changes that events and transitions are made of, and the composite operations as sequences of them. A fact
about a composite operation that each small change keeps is then proved by one induction. -/

namespace Sys2Proof.Machine

/-- The pattern ids that a lane's generator and checker are configured with stay. -/
def LaneState.KeepsIds (x y : LaneState) : Prop :=
  y.gen.pattern = x.gen.pattern ∧ y.chk.config.pattern = x.chk.config.pattern

/-- One small change, in an event about the lanes of `L` that may set the flags of `F`. The arbiter's grants reach any
lane with a full slot. -/
inductive Micro (L : Lane → Prop) (F : Lane → HistoryFlag → Prop) (s : State) : State → Prop
  | lane (l : Lane) (f : LaneState → LaneState) (hl : L l) (hf : ∀ x : LaneState, x.KeepsIds (f x)) :
      Micro L F s (s.modLane l f)
  | flag (l : Lane) (f : HistoryFlag) (hl : L l) (hf : f = .captureMissed ∨ F l f) : Micro L F s (s.setFlag l f)
  | notice (n : Notice) (hl : ∀ l, n.lane = some l → L l) : Micro L F s (s.queueNotice n)
  | fill (l : Lane) (cand : Candidate) (hl : L l) (hc : cand.lane = l) (he : s.log.slotFull l = false) :
      Micro L F s (s.fillSlot l cand)
  | grant (l : Lane) (hp : s.log.port = .free) (hf : s.log.slotFull l = true) : Micro L F s (s.grantTo l)
  | enter (l : Lane) (policy : FullPolicy) (cand : Candidate) (hp : s.log.port = .writing l policy)
      (hc : s.log.lanes[l].slot = some cand) : Micro L F s (s.withLog (s.log.enter l policy cand))
  | margin (m : Margin) (ns : List Notice) (hn : ∀ n ∈ ns, n.lane = none) :
      Micro L F s (({ s with margin := m } : State).queueNotices ns)

/-- A sequence of small changes. -/
abbrev Touches (L : Lane → Prop) (F : Lane → HistoryFlag → Prop) : State → State → Prop :=
  Relation.ReflTransGen (Micro L F)

section
variable {L L' : Lane → Prop} {F F' : Lane → HistoryFlag → Prop}

theorem Micro.mono {s t : State} (hL : ∀ l, L l → L' l) (hF : ∀ l f, F l f → F' l f) (h : Micro L F s t) :
    Micro L' F' s t := by
  cases h with
  | lane l f hl hf => exact .lane l f (hL l hl) hf
  | flag l f hl hf => exact .flag l f (hL l hl) (hf.imp_right (hF l f))
  | notice n hl => exact .notice n fun l h => hL l (hl l h)
  | fill l cand hl hc he => exact .fill l cand (hL l hl) hc he
  | grant l hp hf => exact .grant l hp hf
  | enter l policy cand hp hc => exact .enter l policy cand hp hc
  | margin m ns hn => exact .margin m ns hn

theorem Touches.mono {s t : State} (hL : ∀ l, L l → L' l) (hF : ∀ l f, F l f → F' l f) (h : Touches L F s t) :
    Touches L' F' s t :=
  Relation.ReflTransGen.mono (fun _ _ => Micro.mono hL hF) _ _ h

theorem Touches.foldl {β : Type} (f : State → β → State) (xs : List β) (h : ∀ s, ∀ x ∈ xs, Touches L F s (f s x))
    (s : State) : Touches L F s (xs.foldl f s) := by
  induction xs generalizing s with
  | nil => exact .refl
  | cons x xs ih =>
    exact (h s x (List.mem_cons_self ..)).trans (ih (fun s y hy => h s y (List.mem_cons_of_mem _ hy)) _)

theorem touches_modLane {l : Lane} (f : LaneState → LaneState) (s : State) (hl : L l)
    (hf : ∀ x : LaneState, x.KeepsIds (f x)) : Touches L F s (s.modLane l f) := .single (.lane l f hl hf)

theorem touches_modGate {l : Lane} (f : Gate → Gate) (s : State) (hl : L l) : Touches L F s (s.modGate l f) :=
  touches_modLane _ s hl fun _ => ⟨rfl, rfl⟩

theorem touches_setFlag {l : Lane} {f : HistoryFlag} (s : State) (hl : L l) (hf : F l f) :
    Touches L F s (s.setFlag l f) := .single (.flag l f hl (.inr hf))

theorem touches_notice {n : Notice} (s : State) (hl : ∀ l, n.lane = some l → L l) : Touches L F s (s.queueNotice n) :=
  .single (.notice n hl)

/-! ### Lane updates that keep the configured ids -/

theorem keepsIds_finishGate (l : Lane) (r : EndReason) (now : Nat) (x : LaneState) :
    x.KeepsIds (x.finishGate l r now) := ⟨rfl, rfl⟩

theorem keepsIds_pauseGate (x : LaneState) : x.KeepsIds x.pauseGate := ⟨rfl, rfl⟩

theorem keepsIds_closeBurst (x : LaneState) : x.KeepsIds x.closeBurst := ⟨rfl, rfl⟩

theorem keepsIds_enter (p : Phase) (r : Reason) (x : LaneState) : x.KeepsIds (x.enter p r) := ⟨rfl, rfl⟩

theorem keepsIds_sd (level : Bool) (x : LaneState) : x.KeepsIds { x with sd := level } := ⟨rfl, rfl⟩

theorem keepsIds_afterHunt (h : Hunted) (x : LaneState) : x.KeepsIds (x.afterHunt h) := ⟨rfl, rfl⟩

theorem keepsIds_flipPolarity (x : LaneState) : x.KeepsIds x.flipPolarity := ⟨rfl, rfl⟩

theorem keepsIds_takeInput (rest : List Bool) (p : Phase) (x : LaneState) : x.KeepsIds (x.takeInput rest p) := ⟨rfl, rfl⟩

theorem keepsIds_takeTally (t : Tally) (x : LaneState) : x.KeepsIds (x.takeTally t) := ⟨rfl, rfl⟩

theorem keepsIds_tickRunning (x : LaneState) : x.KeepsIds x.tickRunning := by
  unfold LaneState.tickRunning
  dsimp only
  split <;> exact ⟨rfl, rfl⟩

/-! ### Gates -/

theorem touches_endGate {l : Lane} (r : EndReason) (s : State) (hl : L l) : Touches L F s (s.endGate l r) :=
  (touches_modLane _ s hl (keepsIds_finishGate l r s.uptime)).trans
    (touches_notice (n := .gate l r) _ fun _ h => Option.some.inj h ▸ hl)

theorem touches_saturateGate {l : Lane} (s : State) (hl : L l) (hf : F l .saturated) : Touches L F s (s.saturateGate l) :=
  (touches_setFlag s hl hf).trans (touches_endGate _ _ hl)

theorem touches_lockLoss {l : Lane} (held : Bool) (s : State) (hl : L l) (hf : F l .saturated) :
    Touches L F s (s.lockLoss l held) := by
  have hloss : Touches L F s (s.modGate l Gate.addLoss) := touches_modGate _ s hl
  have hpause : Touches L F s ((s.modGate l Gate.addLoss).modLane l LaneState.pauseGate) :=
    hloss.trans (touches_modLane _ _ hl keepsIds_pauseGate)
  unfold State.lockLoss
  split
  · exact touches_saturateGate s hl hf
  · split
    · exact hpause
    · split
      · exact hloss
      · exact hpause
      · exact hloss.trans (touches_endGate _ _ hl)

theorem touches_gateLaneOff {l : Lane} (s : State) (hl : L l) : Touches L F s (s.gateLaneOff l) := by
  unfold State.gateLaneOff
  split
  · exact touches_endGate _ s hl
  · exact .refl

theorem touches_gateTransition {l : Lane} (left entered : CheckerState) (r : Reason) (s : State) (hl : L l)
    (hf : F l .saturated) : Touches L F s (s.gateTransition l left entered r) := by
  unfold State.gateTransition
  split
  · exact touches_modGate _ s hl
  · have hclose : Touches L F s (if left = .locked then s.modLane l LaneState.closeBurst else s) := by
      split
      · exact touches_modLane _ s hl keepsIds_closeBurst
      · exact .refl
    refine hclose.trans ?_
    generalize (if left = .locked then s.modLane l LaneState.closeBurst else s) = s'
    dsimp only
    split
    · exact touches_gateLaneOff s' hl
    · split
      · split
        · exact touches_lockLoss _ s' hl hf
        · split
          · exact touches_modLane _ s' hl keepsIds_pauseGate
          · exact .refl
      · exact .refl

theorem touches_testLimits {l : Lane} (s : State) (hl : L l) : Touches L F s (s.testLimits l) := by
  unfold State.testLimits
  dsimp only
  split
  · exact touches_endGate _ s hl
  · split
    · exact touches_endGate _ s hl
    · exact .refl

theorem touches_gateExpiry {l : Lane} (s : State) (hl : L l) (hf : F l .saturated) :
    Touches L F s (s.gateExpiry l) := by
  unfold State.gateExpiry
  split
  · exact .refl
  · unfold State.expireArmed
    dsimp only
    split
    · exact (touches_modGate _ s hl).trans (touches_endGate _ _ hl)
    · exact touches_modGate _ s hl
  · unfold State.expireRunning
    dsimp only
    split
    · exact touches_saturateGate s hl hf
    · refine (touches_modLane _ s hl keepsIds_tickRunning).trans ?_
      split
      · exact touches_endGate _ _ hl
      · split
        · exact touches_endGate _ _ hl
        · exact .refl
  · unfold State.expirePaused
    split
    · exact touches_saturateGate s hl hf
    · exact touches_modGate _ s hl
  · exact .refl

theorem touches_stopGate {l : Lane} (s : State) (hl : L l) : Touches L F s (s.stopGate l) := by
  unfold State.stopGate
  split
  · exact touches_endGate _ s hl
  · exact .refl

/-! ### Capture log -/

theorem touches_missCandidate {l : Lane} (s : State) (hl : L l) : Touches L F s (s.missCandidate l) :=
  (touches_modGate _ s hl).trans (.single (.flag l _ hl (.inl rfl)))

theorem touches_offerLock {l : Lane} {cand : Candidate} (s : State) (hl : L l) (hc : cand.lane = l) :
    Touches L F s (s.offerLock l cand) := by
  unfold State.offerLock
  split
  · exact touches_missCandidate s hl
  · next he => exact .single (.fill l cand hl hc (Bool.eq_false_iff.2 he))

theorem touches_offerTally {l : Lane} {cand : Candidate} (s : State) (hl : L l) (hc : cand.lane = l) :
    Touches L F s (s.offerTally l cand) := by
  unfold State.offerTally
  split
  · exact .single (.flag l _ hl (.inl rfl))
  · next he => exact .single (.fill l cand hl hc (Bool.eq_false_iff.2 he))

/-- The arbiter grants a lane whose slot is full. -/
theorem slotFull_of_choose {c : CaptureLog} {l : Lane} (h : c.choose = some l) : c.slotFull l = true := by
  unfold CaptureLog.choose at h
  split at h
  · exact List.find?_some h
  · exact List.find?_some h
  · split at h
    · next hf => cases h; exact hf
    · exact List.find?_some h

theorem touches_grantRounds (n : Nat) (s : State) : Touches L F s (s.grantRounds n) := by
  induction n generalizing s with
  | zero => exact .refl
  | succ n ih =>
    rw [State.grantRounds]
    split
    · next l hp hc => exact .head (.grant l hp (slotFull_of_choose hc)) (ih _)
    · exact .refl

theorem touches_grant (s : State) : Touches L F s s.grant := touches_grantRounds 8 s

theorem touches_writeCompletion (s : State) : Touches L F s s.writeCompletion := by
  unfold State.writeCompletion
  split
  · exact .refl
  · next l policy hp =>
    split
    · exact .refl
    · next cand hc =>
      have henter : Touches L F s (s.withLog (s.log.enter l policy cand)) := .single (.enter l policy cand hp hc)
      dsimp only
      split
      · exact (henter.trans (touches_notice _ fun _ h => by cases h)).trans (touches_grant _)
      · exact henter.trans (touches_grant _)

/-! ### Margin unit -/

theorem lane_spotNotice (p : Point) (v : Verdict) : (p.spotNotice v).lane = none := rfl

theorem lane_finishNotices {v : Verdict} {m : Margin} {n : Notice} (h : n ∈ m.finishNotices v) : n.lane = none := by
  unfold Margin.finishNotices at h
  split at h
  · cases h
  · rw [List.mem_singleton.1 h, lane_spotNotice]
  · split at h
    · rw [List.mem_singleton.1 h]; rfl
    · cases h
  · rw [List.mem_singleton.1 h, lane_spotNotice]
  · rw [List.mem_singleton.1 h, lane_spotNotice]

theorem touches_finishPoint (v : Verdict) (s : State) : Touches L F s (s.finishPoint v) :=
  .single (.margin _ _ fun _ => lane_finishNotices)

theorem touches_setPoint (p : Point) (s : State) : Touches L F s (s.setPoint p) :=
  .single (.margin { s.margin with state := s.margin.state.withPoint p } [] fun _ h => by cases h)

theorem touches_marginTransition (l : Lane) (left entered : CheckerState) (s : State) :
    Touches L F s (s.marginTransition l left entered) := by
  unfold State.marginTransition
  split
  · split
    · unfold State.pointTransition
      split
      · split
        · exact touches_setPoint _ s
        · exact .refl
      · split
        · exact touches_setPoint _ s
        · split
          · exact touches_finishPoint _ s
          · exact .refl
      · split
        · exact touches_finishPoint _ s
        · exact .refl
    · exact .refl
  · exact .refl

theorem touches_dwellWord (l : Lane) (n : Nat) (s : State) : Touches L F s (s.dwellWord l n) := by
  unfold State.dwellWord
  split
  · exact .refl
  · split
    · split
      · exact touches_setPoint _ s
      · dsimp only
        split
        · exact (touches_setPoint _ s).trans (touches_finishPoint ..)
        · exact touches_setPoint _ s
      · exact .refl
    · exact .refl

theorem touches_settleExpiry (midWord : Bool) (s : State) : Touches L F s (s.settleExpiry midWord) := by
  unfold State.settleExpiry
  split
  · exact .refl
  · split
    · dsimp only
      split
      · exact touches_finishPoint _ s
      · split
        · exact touches_setPoint _ s
        · split
          · exact touches_finishPoint _ s
          · exact touches_setPoint _ s
    · exact .refl

theorem touches_lockWaitExpiry (s : State) : Touches L F s s.lockWaitExpiry := by
  unfold State.lockWaitExpiry
  split
  · exact .refl
  · split
    · exact touches_finishPoint _ s
    · exact .refl

/-! ### Checkers -/

theorem touches_exitCandidate {m : Move} (s : State) (hl : L m.lane) : Touches L F s (s.exitCandidate m) := by
  unfold State.exitCandidate
  dsimp only
  split
  · exact touches_offerLock s hl rfl
  · exact .refl

theorem touches_entryCandidate {m : Move} (s : State) (hl : L m.lane) : Touches L F s (s.entryCandidate m) := by
  unfold State.entryCandidate
  dsimp only
  split
  · exact (touches_offerLock s hl rfl).trans (touches_grant _)
  · exact .refl

theorem touches_setReasonFlag {l : Lane} {r : Reason} (s : State) (hl : L l) (hf : ∀ f, r.flag = some f → F l f) :
    Touches L F s (s.setReasonFlag l r) := by
  unfold State.setReasonFlag
  split
  · next f h => exact touches_setFlag s hl (hf f h)
  · exact .refl

/-- The flags that a transition of a checker may set beside CAPTURE_MISSED: its reason's, and SATURATED. -/
def Move.mayFlag (m : Move) (l : Lane) (f : HistoryFlag) : Prop :=
  m.lane = l ∧ (f = .saturated ∨ m.reason.flag = some f)

theorem touches_applyMove (s : State) (m : Move) : Touches (· = m.lane) m.mayFlag s (s.applyMove m) := by
  have hflag : m.mayFlag m.lane .saturated := ⟨rfl, .inl rfl⟩
  have henter : Touches (· = m.lane) m.mayFlag s (s.modLane m.lane (LaneState.enter m.phase m.reason)) :=
    touches_modLane _ s rfl (keepsIds_enter _ _)
  have hreason := henter.trans (touches_setReasonFlag (r := m.reason) _ rfl fun f h => ⟨rfl, .inr h⟩)
  have hgate := hreason.trans (touches_gateTransition (s.lane m.lane).chkState m.phase.state m.reason _ rfl hflag)
  have hentry := hgate.trans (touches_entryCandidate (m := m) _ rfl)
  exact (hentry.trans (touches_marginTransition ..)).trans (touches_notice _ fun _ h => (Option.some.inj h).symm)

/-- A checker transition touches the lanes of its moves. -/
theorem touches_transition (ms : List Move) (s : State) :
    Touches (fun l => ∃ m ∈ ms, m.lane = l) (fun l f => ∃ m ∈ ms, m.mayFlag l f) s (s.transition ms) := by
  have hexits := Touches.foldl (L := fun l => ∃ m ∈ ms, m.lane = l) (F := fun l f => ∃ m ∈ ms, m.mayFlag l f)
    (fun s m => s.exitCandidate m) ms (fun s m hm => touches_exitCandidate s ⟨m, hm, rfl⟩) s
  refine (hexits.trans (touches_grant _)).trans (Touches.foldl State.applyMove ms (fun s m hm => ?_) _)
  exact (touches_applyMove s m).mono (fun l h => ⟨m, hm, h.symm⟩) fun l f h => ⟨m, hm, h⟩

theorem touches_transition_one {l : Lane} (p : Phase) (r : Reason) (s : State) (hl : L l) (hf : F l .saturated)
    (hr : ∀ f, r.flag = some f → F l f) : Touches L F s (s.transition [{ lane := l, phase := p, reason := r }]) := by
  refine (touches_transition _ s).mono (fun k ⟨m, hm, hk⟩ => ?_) fun k f ⟨m, hm, hk, h⟩ => ?_
  · obtain rfl := List.mem_singleton.1 hm
    exact hk ▸ hl
  · obtain rfl := List.mem_singleton.1 hm
    subst hk
    rcases h with rfl | h
    · exact hf
    · exact hr f h

theorem lane_of_signalMove {l : Lane} {x : LaneState} {m : Move} (h : x.signalMove l = some m) : m.lane = l := by
  unfold LaneState.signalMove at h
  split at h <;> cases h <;> rfl

theorem flag_of_signalMove {l : Lane} {x : LaneState} {m : Move} {f : HistoryFlag} (h : x.signalMove l = some m)
    (hf : m.reason.flag = some f) : f = .losSeen := by
  unfold LaneState.signalMove at h
  split at h <;> cases h <;> cases hf <;> rfl

theorem touches_signalLevel {l : Lane} (level : Bool) (s : State) (hl : L l) (hf : F l .saturated) (hs : F l .losSeen) :
    Touches L F s (s.signalLevel l level) := by
  unfold State.signalLevel
  split
  · exact .refl
  · have hsd : Touches L F s (s.modLane l fun x => { x with sd := level }) :=
      touches_modLane _ s hl (keepsIds_sd level)
    dsimp only
    split
    · exact hsd
    · refine hsd.trans ((touches_transition _ _).mono (fun k ⟨m, hm, hk⟩ => ?_) fun k f ⟨m, hm, hk, h⟩ => ?_)
      · exact hk ▸ lane_of_signalMove (Option.mem_toList.1 hm) ▸ hl
      · have hml := lane_of_signalMove (Option.mem_toList.1 hm)
        obtain rfl : l = k := hml.symm.trans hk
        rcases h with rfl | h
        · exact hf
        · exact flag_of_signalMove (Option.mem_toList.1 hm) h ▸ hs

theorem touches_seedLoaded {l : Lane} (rx : Reception) (s : State) (hl : L l) (hf : F l .saturated) :
    Touches L F s (s.seedLoaded l rx) := by
  unfold State.seedLoaded
  dsimp only
  split
  · split
    · exact (touches_modLane _ s hl (keepsIds_afterHunt _)).trans
        (touches_transition_one _ _ _ hl hf fun f h => by cases h)
    · exact touches_modLane _ s hl (keepsIds_afterHunt _)
  · exact .refl

theorem touches_flipPolarity {l : Lane} (s : State) (hl : L l) : Touches L F s (s.modLane l LaneState.flipPolarity) :=
  touches_modLane _ s hl keepsIds_flipPolarity

theorem touches_anchorMatch {l : Lane} (rx : Reception) (s : State) (hl : L l) (hf : F l .saturated) :
    Touches L F s (s.anchorMatch l rx) := by
  unfold State.anchorMatch
  dsimp only
  split
  · split
    · refine Relation.ReflTransGen.trans ?_ (touches_transition_one _ _ _ hl hf fun f h => by cases h)
      split
      · exact (touches_modLane _ s hl (keepsIds_afterHunt _)).trans (touches_flipPolarity _ hl)
      · exact touches_modLane _ s hl (keepsIds_afterHunt _)
    · exact touches_modLane _ s hl (keepsIds_afterHunt _)
  · exact .refl

theorem touches_verifyWord {l : Lane} (rx : Reception) (s : State) (hl : L l) (hf : F l .saturated)
    (hv : F l .verifyFailed) : Touches L F s (s.verifyWord l rx) := by
  unfold State.verifyWord
  dsimp only
  split
  · have htake (rest : List Bool) (p : Phase) : Touches L F s (s.modLane l (LaneState.takeInput rest p)) :=
      touches_modLane _ s hl (keepsIds_takeInput rest p)
    split
    · exact htake _ _
    · exact (htake _ _).trans (touches_transition_one _ _ _ hl hf fun f h => by cases h)
    · exact (htake _ _).trans (touches_transition_one _ _ _ hl hf fun f h => by cases h; exact hv)
    · exact ((htake _ _).trans (touches_flipPolarity _ hl)).trans
        (touches_transition_one _ _ _ hl hf fun f h => by cases h)
  · exact .refl

theorem touches_acceptTally {l : Lane} {t : Tally} (s : State) (hl : L l) (ht : ∀ c, t.candidate = some c → c.lane = l) :
    Touches L F s (s.acceptTally l t) := by
  unfold State.acceptTally
  dsimp only
  refine Relation.ReflTransGen.trans (touches_modLane _ s hl (keepsIds_takeTally t)) ?_
  split
  · next c hc =>
    exact ((touches_offerTally _ hl (ht c hc)).trans (touches_grant _)).trans (touches_testLimits _ hl)
  · exact touches_testLimits _ hl

/-- A tally's candidate is of its word result's lane (R72). -/
theorem lane_of_tallyCandidate {x : LaneState} {cap : CaptureLane} {wr : WordResult} {last : BitVec 15}
    {walk : BurstWalk} {c : Candidate} (h : tallyCandidate x cap wr last walk = some c) : c.lane = wr.lane := by
  unfold tallyCandidate at h
  split at h
  · cases h
  · split at h <;> cases h <;> rfl

theorem touches_account {l : Lane} (last : BitVec 15) {wr : WordResult} (s : State) (hl : L l) (hf : F l .saturated)
    (hw : wr.lane = l) : Touches L F s (s.account l last wr) := by
  unfold State.account
  dsimp only
  split
  · split
    · exact touches_acceptTally s hl fun c hc => hw ▸ lane_of_tallyCandidate hc
    · exact touches_saturateGate s hl hf
  · exact .refl

theorem touches_declareLoss {l : Lane} (written : Bool) (s : State) (hl : L l) (hf : F l .saturated)
    (hk : F l .lockLost) : Touches L F s (s.declareLoss l written) := by
  have hwrite : Touches L F s (if written then s.writeCompletion else s) := by
    split
    · exact touches_writeCompletion s
    · exact .refl
  exact hwrite.trans (touches_transition_one _ _ _ hl hf fun f h => by cases h; exact hk)

theorem touches_lockedWord {l : Lane} (rx : Reception) (above : List Bool) (written : Bool) (s : State) (hl : L l)
    (hf : F l .saturated) (hk : F l .lockLost) : Touches L F s (s.lockedWord l rx above written) := by
  unfold State.lockedWord
  dsimp only
  split
  · have htake (rest : List Bool) (p : Phase) : Touches L F s (s.modLane l (LaneState.takeInput rest p)) :=
      touches_modLane _ s hl (keepsIds_takeInput rest p)
    split
    · exact (((htake _ _).trans (touches_account _ _ hl hf (by rfl))).trans (touches_dwellWord ..)).trans
        (touches_declareLoss _ _ hl hf hk)
    · exact ((htake _ _).trans (touches_account _ _ hl hf (by rfl))).trans (touches_dwellWord ..)
  · exact .refl

end

/-! ### What every sequence of small changes keeps -/

section
variable {L : Lane → Prop} {F : Lane → HistoryFlag → Prop} {s t : State}

/-- A relation that is reflexive and transitive holds along a sequence of small changes when it holds at each. -/
theorem Touches.keeps {R : State → State → Prop} (refl : ∀ s, R s s) (trans : ∀ s t u, R s t → R t u → R s u)
    (step : ∀ s t, Micro L F s t → R s t) (h : Touches L F s t) : R s t := by
  induction h with
  | refl => exact refl _
  | tail _ hm ih => exact trans _ _ _ ih (step _ _ hm)

theorem Micro.sameBase (h : Micro L F s t) : SameBase s t := by
  cases h with
  | lane l f => exact sameBase_modLane l f s
  | flag l f => exact sameBase_setFlag l f s
  | notice n => exact sameBase_queueNotice n s
  | fill l cand => exact sameBase_modCapture ..
  | grant l => exact sameBase_grantTo l s
  | enter => exact sameBase_withLog ..
  | margin => exact ⟨rfl, rfl, rfl, rfl, rfl, rfl⟩

theorem Touches.sameBase (h : Touches L F s t) : SameBase s t :=
  h.keeps SameBase.refl (fun _ _ _ => SameBase.trans) fun _ _ => Micro.sameBase

/-! #### Lanes -/

theorem LaneState.SameButMissed.refl (x : LaneState) : x.SameButMissed x := ⟨x.gate.counters.missed, rfl⟩

theorem LaneState.SameButMissed.trans {x y z : LaneState} (h : x.SameButMissed y) (h' : y.SameButMissed z) :
    x.SameButMissed z := by
  obtain ⟨n, rfl⟩ := h
  obtain ⟨m, rfl⟩ := h'
  exact ⟨m, rfl⟩

theorem sameButMissed_addMissed (x : LaneState) : x.SameButMissed { x with gate := x.gate.addMissed } := by
  unfold Gate.addMissed
  split
  · exact ⟨_, rfl⟩
  · exact .refl x

theorem State.missCandidate_lane (l k : Lane) (s : State) :
    (s.missCandidate l).lane k = if l = k then { s.lane k with gate := (s.lane k).gate.addMissed } else s.lane k := by
  rw [State.missCandidate, State.setFlag_lane, State.modGate_lane]

/-- A discard touches of the lanes only the captures missed of the lane granted. -/
theorem State.discard_lane (l k : Lane) (s : State) :
    (s.discard l).lane k = if l = k then { s.lane k with gate := (s.lane k).gate.addMissed } else s.lane k := by
  unfold State.discard
  dsimp only
  split <;> exact State.missCandidate_lane l k _

theorem State.grantTo_lane (l k : Lane) (s : State) :
    (s.grantTo l).lane k = if l = k ∧ s.log.full = .stop ∧ Config.logCapacity ≤ s.log.records.length then
      { s.lane k with gate := (s.lane k).gate.addMissed } else s.lane k := by
  unfold State.grantTo
  by_cases h : s.log.full = .stop ∧ Config.logCapacity ≤ s.log.records.length
  · rw [if_pos h, State.discard_lane]
    simp only [h, and_true]
    rfl
  · rw [if_neg h, if_neg fun h' => h h'.2]
    rfl

theorem sameButMissed_grantTo (l k : Lane) (s : State) : (s.lane k).SameButMissed ((s.grantTo l).lane k) := by
  rw [State.grantTo_lane]
  split
  · exact sameButMissed_addMissed _
  · exact .refl _

theorem Micro.otherLane (h : Micro L F s t) {k : Lane} (hk : ¬L k) : (s.lane k).SameButMissed (t.lane k) := by
  cases h with
  | lane l f hl =>
    rw [State.modLane_lane_ne (fun h : l = k => hk (h ▸ hl))]
    exact .refl _
  | grant l => exact sameButMissed_grantTo l k s
  | _ => exact .refl _

/-- Beyond its lanes, an event leaves of each lane everything but captures missed. -/
theorem Touches.otherLane (h : Touches L F s t) {k : Lane} (hk : ¬L k) : (s.lane k).SameButMissed (t.lane k) :=
  h.keeps (R := fun s t => (s.lane k).SameButMissed (t.lane k)) (fun _ => .refl _) (fun _ _ _ => .trans)
    fun _ _ h => h.otherLane hk

theorem LaneState.KeepsIds.refl (x : LaneState) : x.KeepsIds x := ⟨rfl, rfl⟩

theorem LaneState.KeepsIds.trans {x y z : LaneState} (h : x.KeepsIds y) (h' : y.KeepsIds z) : x.KeepsIds z :=
  ⟨h'.1.trans h.1, h'.2.trans h.2⟩

theorem LaneState.SameButMissed.keepsIds {x y : LaneState} (h : x.SameButMissed y) : x.KeepsIds y := by
  obtain ⟨n, rfl⟩ := h
  exact ⟨rfl, rfl⟩

theorem keepsIds_modLane {l : Lane} {f : LaneState → LaneState} (hf : ∀ x : LaneState, x.KeepsIds (f x)) (s : State)
    (k : Lane) : (s.lane k).KeepsIds ((s.modLane l f).lane k) := by
  rw [State.modLane_lane]
  split
  · exact hf _
  · exact .refl _

theorem Micro.keepsIds (h : Micro L F s t) (k : Lane) : (s.lane k).KeepsIds (t.lane k) := by
  cases h with
  | lane l f hl hf => exact keepsIds_modLane hf s k
  | grant l => exact (sameButMissed_grantTo l k s).keepsIds
  | _ => exact .refl _

theorem Touches.keepsIds (h : Touches L F s t) (k : Lane) : (s.lane k).KeepsIds (t.lane k) :=
  h.keeps (R := fun s t => (s.lane k).KeepsIds (t.lane k)) (fun _ => .refl _) (fun _ _ _ => .trans)
    fun _ _ h => h.keepsIds k

/-! #### History flags -/

theorem getLsbD_mask (f g : HistoryFlag) : f.mask.getLsbD g.bit = decide (g = f) := by
  cases f <;> cases g <;> rfl

theorem State.setFlag_flagSet (l k : Lane) (f g : HistoryFlag) (s : State) :
    (s.setFlag l f).flagSet k g = (s.flagSet k g || decide (l = k ∧ g = f)) := by
  unfold State.flagSet State.setFlag
  simp only [Fin.getElem_fin, Vector.getElem_set, Fin.val_inj]
  by_cases h : l = k
  · subst h
    simp [getLsbD_mask]
  · simp [h]

theorem State.missCandidate_flagSet (l k : Lane) (g : HistoryFlag) (s : State) :
    (s.missCandidate l).flagSet k g = (s.flagSet k g || decide (l = k ∧ g = .captureMissed)) :=
  State.setFlag_flagSet l k _ g _

theorem State.discard_flagSet (l k : Lane) (g : HistoryFlag) (s : State) :
    (s.discard l).flagSet k g = (s.flagSet k g || decide (l = k ∧ g = .captureMissed)) := by
  unfold State.discard
  dsimp only
  split <;> exact State.missCandidate_flagSet l k g _

theorem State.grantTo_flagSet (l k : Lane) (g : HistoryFlag) (s : State) :
    (s.grantTo l).flagSet k g = (s.flagSet k g ||
      decide (l = k ∧ g = .captureMissed ∧ s.log.full = .stop ∧ Config.logCapacity ≤ s.log.records.length)) := by
  unfold State.grantTo
  by_cases h : s.log.full = .stop ∧ Config.logCapacity ≤ s.log.records.length
  · rw [if_pos h, State.discard_flagSet]
    simp only [h, and_true]
    rfl
  · rw [if_neg h, decide_eq_false fun h' => h h'.2.2, Bool.or_false]
    rfl

theorem Micro.flagSet (h : Micro L F s t) {k : Lane} {g : HistoryFlag} (hg : g ≠ .captureMissed) (hk : ¬(L k ∧ F k g)) :
    t.flagSet k g = s.flagSet k g := by
  cases h with
  | flag l f hl hf =>
    rw [State.setFlag_flagSet, decide_eq_false, Bool.or_false]
    rintro ⟨rfl, rfl⟩
    exact hk ⟨hl, hf.resolve_left hg⟩
  | grant l => simp [State.grantTo_flagSet, hg]
  | _ => rfl

/-- Only the flags that an event may set change, CAPTURE_MISSED aside. -/
theorem Touches.flagSet (h : Touches L F s t) {k : Lane} {g : HistoryFlag} (hg : g ≠ .captureMissed)
    (hk : ¬(L k ∧ F k g)) : t.flagSet k g = s.flagSet k g :=
  h.keeps (R := fun s t => t.flagSet k g = s.flagSet k g) (fun _ => rfl) (fun _ _ _ h h' => h'.trans h)
    fun _ _ h => h.flagSet hg hk

theorem Micro.flagSet_mono (h : Micro L F s t) {k : Lane} {g : HistoryFlag} (hs : s.flagSet k g = true) :
    t.flagSet k g = true := by
  cases h with
  | flag l f => rw [State.setFlag_flagSet, hs]; rfl
  | grant l => rw [State.grantTo_flagSet, hs]; rfl
  | _ => exact hs

/-- No event clears a history flag. -/
theorem Touches.flagSet_mono (h : Touches L F s t) {k : Lane} {g : HistoryFlag} (hs : s.flagSet k g = true) :
    t.flagSet k g = true :=
  h.keeps (R := fun s t => s.flagSet k g = true → t.flagSet k g = true) (fun _ h => h) (fun _ _ _ h h' x => h' (h x))
    (fun _ _ h => h.flagSet_mono) hs

/-- What an event about the lanes of `L` leaves of the others. -/
theorem Touches.otherLanesKept (h : Touches L F s t) : s.OtherLanesKept t L :=
  fun _ hk => ⟨h.otherLane hk, fun _ hf => h.flagSet hf fun h => hk h.1⟩

end

end Sys2Proof.Machine
/-! The control line through a step: what requests and events queue, and the line's invariant (O57). -/

namespace Sys2Proof.Machine

/-! ### Requests that transitions are made of -/

theorem keepsIds_applySettings (power : LanePower) (rate : Fin 4) (loopback : Bool) (x : LaneState) :
    x.KeepsIds (x.applySettings power rate loopback) := by
  refine ⟨?_, rfl⟩
  unfold LaneState.applySettings Generator.start Generator.stop Generator.reload
  dsimp only
  split_ifs <;> rfl

theorem settingsMove_lane {l : Lane} {x y : LaneState} {m : Move} (h : settingsMove l x y = some m) : m.lane = l := by
  unfold settingsMove at h
  split_ifs at h
  · cases h; rfl
  · cases h; rfl
  · cases h; rfl
  · exact lane_of_signalMove h

theorem settingsMove_flag {l : Lane} {x y : LaneState} {m : Move} {f : HistoryFlag} (h : settingsMove l x y = some m)
    (hf : m.reason.flag = some f) : f = .losSeen := by
  unfold settingsMove at h
  split_ifs at h
  · cases h; cases hf
  · cases h; cases hf
  · cases h; cases hf
  · exact flag_of_signalMove h hf

/-- A transition of moves whose lanes are among `L`, whose reasons set flags of `F`. -/
theorem touches_transition_of {L : Lane → Prop} {F : Lane → HistoryFlag → Prop} {ms : List Move} (s : State)
    (hl : ∀ m ∈ ms, L m.lane) (hsat : ∀ l, L l → F l .saturated)
    (hf : ∀ m ∈ ms, ∀ f, m.reason.flag = some f → F m.lane f) : Touches L F s (s.transition ms) := by
  refine (touches_transition ms s).mono (fun l ⟨m, hm, h⟩ => h ▸ hl m hm) fun l f ⟨m, hm, h, hflag⟩ => ?_
  subst h
  rcases hflag with rfl | hflag
  · exact hsat _ (hl m hm)
  · exact hf m hm f hflag

/-- LANE_SET touches the named lanes, and of their flags LOS_SEEN and SATURATED. -/
theorem touches_applyLaneSet (b : LaneSet) (power : LanePower) (rate : Fin 4) (loopback : Bool) (s : State) :
    Touches (· ∈ lanesOf b) (fun _ f => f = .saturated ∨ f = .losSeen) s (s.applyLaneSet b power rate loopback) := by
  have hset := Touches.foldl (L := (· ∈ lanesOf b)) (F := fun _ f => f = .saturated ∨ f = .losSeen)
    (fun s l => s.modLane l (LaneState.applySettings power rate loopback)) (lanesOf b)
    (fun s l hl => touches_modLane _ s hl (keepsIds_applySettings power rate loopback)) s
  refine hset.trans (touches_transition_of _ (fun m hm => ?_) (fun _ _ => .inl rfl) fun m hm f hf => .inr ?_)
  · obtain ⟨l, hl, h⟩ := List.mem_filterMap.1 hm
    exact settingsMove_lane h ▸ hl
  · obtain ⟨l, -, h⟩ := List.mem_filterMap.1 hm
    exact settingsMove_flag h hf

theorem mem_holdMoves {s : State} {b : LaneSet} {m : Move} (h : m ∈ s.holdMoves b) :
    ∃ l ∈ lanesOf b, (s.lane l).chkState ≠ .held ∧ m = { lane := l, phase := .held, reason := .held } := by
  obtain ⟨l, hl, rfl⟩ := List.mem_map.1 h
  obtain ⟨hl, hs⟩ := List.mem_filter.1 hl
  exact ⟨l, hl, by simpa using hs, rfl⟩

/-- CHK_HOLD touches the named lanes, and of their flags SATURATED. -/
theorem touches_hold (b : LaneSet) (s : State) :
    Touches (· ∈ lanesOf b) (fun _ f => f = .saturated) s (s.transition (s.holdMoves b)) := by
  refine touches_transition_of _ (fun m hm => ?_) (fun _ _ => rfl) fun m hm f hf => ?_
  · obtain ⟨l, hl, -, rfl⟩ := mem_holdMoves hm
    exact hl
  · obtain ⟨l, hl, -, rfl⟩ := mem_holdMoves hm
    cases hf

/-- CHK_RELEASE touches the named lanes, and of their flags SATURATED at most. -/
theorem touches_release (b : LaneSet) (s : State) :
    Touches (· ∈ lanesOf b) (fun _ f => f = .saturated) s (s.transition (s.releaseMoves b)) := by
  refine touches_transition_of _ (fun m hm => ?_) (fun _ _ => rfl) fun m hm f hf => ?_
  · obtain ⟨l, hl, rfl⟩ := List.mem_map.1 hm
    exact hl
  · obtain ⟨l, hl, rfl⟩ := List.mem_map.1 hm
    cases hf

/-- GATE_STOP touches the named lanes. -/
theorem touches_gateStop (b : LaneSet) (s : State) :
    Touches (· ∈ lanesOf b) (fun _ _ => False) s ((lanesOf b).foldl (fun s l => s.stopGate l) s) :=
  Touches.foldl _ _ (fun s _ hl => touches_stopGate s hl) s

/-! ### What reaches the line -/

/-- The line `d` is the line `c` after notices, each satisfying `P`, have been queued. -/
def ControlLine.Queued (P : Notice → Prop) (c d : ControlLine) : Prop :=
  ∃ ns : List Notice, (∀ n ∈ ns, P n) ∧ d = ns.foldl (fun c n => c.queueNotice n) c

section
variable {P Q : Notice → Prop} {c d e : ControlLine}

theorem ControlLine.Queued.refl (c : ControlLine) : c.Queued P c := by
  refine ⟨[], ?_, rfl⟩
  intro _ h
  cases h

theorem ControlLine.queued_one {n : Notice} (h : P n) (c : ControlLine) : c.Queued P (c.queueNotice n) :=
  ⟨[n], fun _ hm => List.mem_singleton.1 hm ▸ h, rfl⟩

theorem ControlLine.Queued.trans (h : c.Queued P d) (h' : d.Queued P e) : c.Queued P e := by
  obtain ⟨ns, hns, rfl⟩ := h
  obtain ⟨ms, hms, rfl⟩ := h'
  exact ⟨ns ++ ms, fun n hn => (List.mem_append.1 hn).elim (hns n) (hms n), List.foldl_append.symm⟩

theorem ControlLine.Queued.mono (h : c.Queued P d) (hPQ : ∀ n, P n → Q n) : c.Queued Q d := by
  obtain ⟨ns, hns, rfl⟩ := h
  exact ⟨ns, fun n hn => hPQ n (hns n hn), rfl⟩

/-- What queueing notices leaves: everything but the outbox. -/
theorem ControlLine.Queued.eq (h : c.Queued P d) : d = { c with outbox := d.outbox } := by
  obtain ⟨ns, -, rfl⟩ := h
  exact foldl_keeps (fun a b : ControlLine => b = { a with outbox := b.outbox }) (fun _ => rfl)
    (fun a b c hab hbc => by rw [hbc, hab]) (fun c n => c.queueNotice n) (fun _ _ => rfl) ns c

theorem ControlLine.Queued.replies (h : c.Queued P d) : d.replies = c.replies := by rw [h.eq]

/-- A property of the line that queueing one notice keeps is kept. -/
theorem ControlLine.Queued.keeps {R : ControlLine → Prop} (h : c.Queued P d)
    (hR : ∀ c n, P n → R c → R (c.queueNotice n)) (hc : R c) : R d := by
  obtain ⟨ns, hns, rfl⟩ := h
  induction ns generalizing c with
  | nil => exact hc
  | cons n ns ih =>
    exact ih (hR c n (hns n (List.mem_cons_self ..)) hc) fun m hm => hns m (List.mem_cons_of_mem _ hm)

end

section
variable {L : Lane → Prop} {F : Lane → HistoryFlag → Prop} {s t : State}

/-- A notice that an event about the lanes of `L` may queue: one of its lanes, or the ALARM of a candidate discarded. -/
def noticeOf (L : Lane → Prop) (n : Notice) : Prop := ∀ l, n.lane = some l → L l ∨ n.kind = .alarm

theorem queued_setFlag (l : Lane) (f : HistoryFlag) (s : State) : s.line.Queued (noticeOf L) (s.setFlag l f).line := by
  unfold State.setFlag
  dsimp only
  split
  · exact .refl _
  · exact ControlLine.queued_one (fun _ _ => .inr rfl) _

theorem queued_grantTo (l : Lane) (s : State) : s.line.Queued (noticeOf L) (s.grantTo l).line := by
  unfold State.grantTo
  split
  · unfold State.discard
    dsimp only
    split
    · exact queued_setFlag ..
    · exact (queued_setFlag ..).trans (ControlLine.queued_one (fun _ h => by cases h) _)
  · exact .refl _

theorem Micro.queued (h : Micro L F s t) : s.line.Queued (noticeOf L) t.line := by
  cases h with
  | lane | fill | enter => exact .refl _
  | flag l f => exact queued_setFlag l f s
  | notice n hl => exact ControlLine.queued_one (fun l h => .inl (hl l h)) _
  | grant l => exact queued_grantTo l s
  | margin m ns hn =>
    refine ⟨ns, fun n hmem l h => ?_, rfl⟩
    rw [hn n hmem] at h
    cases h

theorem Touches.queued (h : Touches L F s t) : s.line.Queued (noticeOf L) t.line :=
  h.keeps (R := fun s t => s.line.Queued (noticeOf L) t.line) (fun _ => .refl _) (fun _ _ _ => .trans)
    fun _ _ => Micro.queued

end

theorem foldl_line {β : Type} {f : State → β → State} (h : ∀ s x, (f s x).line = s.line) (xs : List β) (s : State) :
    (xs.foldl f s).line = s.line :=
  foldl_keeps (fun s t : State => t.line = s.line) (fun _ => rfl) (fun _ _ _ h h' => h'.trans h) f h xs s

theorem State.onLanes_line (b : LaneSet) (f : LaneState → LaneState) (s : State) : (s.onLanes b f).line = s.line :=
  foldl_line (f := fun s l => s.modLane l f) (fun _ _ => rfl) _ s

/-- What a request's act does to the line: it queues notices, accepts a reset, or sets the mask. -/
theorem RequestEffect.line {s t : State} (h : RequestEffect s t) :
    s.line.Queued (fun _ => True) t.line ∨ t.line = { s.line with resetDue := true } ∨
      ∃ set, t.line = { s.line with enabled := set, outbox := s.line.outbox.filter fun n => n.enabledIn set } := by
  have same {u : State} (h : u.line = s.line) : s.line.Queued (fun _ => True) u.line := h ▸ .refl _
  have of_touches {L : Lane → Prop} {F : Lane → HistoryFlag → Prop} {u : State} (h : Touches L F s u) :
      s.line.Queued (fun _ => True) u.line := h.queued.mono fun _ _ => trivial
  cases h with
  | resetDue => exact .inr (.inl rfl)
  | mask set => exact .inr (.inr ⟨set, rfl⟩)
  | laneSet => exact .inl (of_touches (touches_applyLaneSet ..))
  | chkHold => exact .inl (of_touches (touches_hold ..))
  | chkRelease => exact .inl (of_touches (touches_release ..))
  | gateStop => exact .inl (of_touches (touches_gateStop ..))
  | sweepStop => exact .inl ⟨_, fun _ _ => trivial, rfl⟩
  | genSet | genInsert | chkSet => exact .inl (same (State.onLanes_line ..))
  | gateStart => exact .inl (same (foldl_line (f := fun s l => s.startGate _ l) (fun _ _ => rfl) _ s))
  | captureSet => exact .inl (same (foldl_line (f := fun s l => s.modCapture l _) (fun _ _ => rfl) _ s))
  | _ => exact .inl (.refl _)

/-- Any lane, any flag: for facts that hold wherever an event reaches. -/
abbrev anyLane (_ : Lane) : Prop := True

abbrev anyFlag (_ : Lane) (_ : HistoryFlag) : Prop := True

/-- Every event that is no reset, no uptime tick and no generator word is a sequence of small changes. -/
theorem EventEffect.touches {s t : State} (h : EventEffect s t) :
    (∃ st, t = s.powerOnReset st ∨ t = s.lineReset st) ∨ t = s.softResetNow ∨ t = s.uptimeTick ∨
      (∃ l, t = s.modLane l (LaneState.generatorWord s.store)) ∨ Touches anyLane anyFlag s t := by
  have go {u : State} (h : Touches anyLane anyFlag s u) : (∃ st, u = s.powerOnReset st ∨ u = s.lineReset st) ∨
      u = s.softResetNow ∨ u = s.uptimeTick ∨ (∃ l, u = s.modLane l (LaneState.generatorWord s.store)) ∨
      Touches anyLane anyFlag s u := .inr (.inr (.inr (.inr h)))
  cases h with
  | powerOn st => exact .inl ⟨st, .inl rfl⟩
  | lineReset st => exact .inl ⟨st, .inr rfl⟩
  | softReset => exact .inr (.inl rfl)
  | uptime => exact .inr (.inr (.inl rfl))
  | generatorWord l => exact .inr (.inr (.inr (.inl ⟨l, rfl⟩)))
  | nothing => exact go .refl
  | signal l level => exact go (touches_signalLevel level s trivial trivial trivial)
  | seed l rx => exact go (touches_seedLoaded rx s trivial trivial)
  | anchor l rx => exact go (touches_anchorMatch rx s trivial trivial)
  | verify l rx => exact go (touches_verifyWord rx s trivial trivial trivial)
  | word l rx above written => exact go (touches_lockedWord rx above written s trivial trivial trivial)
  | write => exact go (touches_writeCompletion s)
  | gateTimer l => exact go (touches_gateExpiry s trivial trivial)
  | settle midWord => exact go (touches_settleExpiry midWord s)
  | lockWait => exact go (touches_lockWaitExpiry s)

/-- What an event does to the line before a frame may begin: a reset empties it, any other event queues notices. -/
theorem EventEffect.line {s t : State} (h : EventEffect s t) :
    t.line = .initial ∨ s.line.Queued (fun _ => True) t.line := by
  obtain ⟨st, rfl | rfl⟩ | rfl | rfl | ⟨l, rfl⟩ | h := h.touches
  · exact .inl rfl
  · exact .inl rfl
  · exact .inl rfl
  · exact .inr (.refl _)
  · exact .inr (.refl _)
  · exact .inr (h.queued.mono fun _ _ => trivial)

/-! ### The line's invariant (R161 to R164) -/

/-- The line's invariant but for its clause about a free line, which beginning a frame restores. -/
def ControlLine.Loose (c : ControlLine) : Prop :=
  c.inbound.length ≤ Config.inboundCapacity ∧ c.replies.length ≤ Config.replyCapacity ∧ c.noticeCount < 256 ∧
  c.outbox.Pairwise (fun m n => m.sameKey n = false) ∧ (∀ n ∈ c.outbox, n.enabledIn c.enabled = true) ∧
  ∀ i, c.sending = some (.reply i) → ∃ r rest, c.replies = r :: rest ∧ i < r.segments

/-- At a free line nothing waits, but for notices while a soft reset is due. -/
def ControlLine.Busy (c : ControlLine) : Prop :=
  c.sending = none → c.replies = [] ∧ (c.outbox = [] ∨ c.resetDue = true)

theorem ControlLine.inv_iff (c : ControlLine) : c.Inv ↔ c.Loose ∧ c.Busy := by
  unfold ControlLine.Inv ControlLine.Loose ControlLine.Busy
  constructor
  · rintro ⟨h1, h2, h3, h4, h5, h6, h7⟩
    exact ⟨⟨h1, h2, h3, h4, h5, h7⟩, h6⟩
  · rintro ⟨⟨h1, h2, h3, h4, h5, h7⟩, h6⟩
    exact ⟨h1, h2, h3, h4, h5, h6, h7⟩

theorem ControlLine.Inv.loose {c : ControlLine} (h : c.Inv) : c.Loose := (c.inv_iff.1 h).1

theorem ControlLine.loose_queueNotice (n : Notice) {c : ControlLine} (h : c.Loose) : (c.queueNotice n).Loose := by
  obtain ⟨hin, hrep, hcount, hpair, hon, hsend⟩ := h
  unfold ControlLine.queueNotice
  split
  · next hn =>
    refine ⟨hin, hrep, hcount, pairwise_outboxPut hpair n, fun m hm => ?_, hsend⟩
    rcases mem_outboxPut hm with rfl | hm
    · exact hn
    · exact hon m hm
  · exact ⟨hin, hrep, hcount, hpair, hon, hsend⟩

/-- Beginning a frame brings the free line's clause. -/
theorem ControlLine.inv_pump {c : ControlLine} (h : c.Loose) : c.pump.Inv := by
  obtain ⟨hin, hrep, hcount, hpair, hon, hsend⟩ := h
  rw [ControlLine.inv_iff]
  obtain ⟨hp, hbusy⟩ | ⟨hfree, hne, hp⟩ | ⟨hfree, hnil, hdue, n, rest, hout, hp⟩ := c.pump_cases
  · exact hp.symm ▸ ⟨⟨hin, hrep, hcount, hpair, hon, hsend⟩, fun h => hbusy.resolve_left (not_not.2 h)⟩
  · obtain ⟨r, rest, hr⟩ := List.exists_cons_of_ne_nil hne
    rw [hp]
    refine ⟨⟨hin, hrep, hcount, hpair, hon, fun i hi => ⟨r, rest, hr, ?_⟩⟩, fun h => by cases h⟩
    cases hi
    exact segments_pos r
  · rw [hout] at hpair hon
    rw [hp]
    refine ⟨⟨hin, hrep, Nat.mod_lt _ (by decide), hpair.of_cons, fun m hm => hon m (List.mem_cons_of_mem _ hm), ?_⟩, ?_⟩
    · exact fun i hi => by cases hi
    · exact fun h => by cases h

theorem ControlLine.inv_offer {c : ControlLine} (q : Request) (h : c.Inv) : (c.offer q).Inv := by
  obtain ⟨hin, hrest⟩ := h
  refine ⟨?_, hrest⟩
  unfold ControlLine.offer
  dsimp only
  split
  · next hlt => rw [List.length_append]; exact hlt
  · exact hin

theorem ControlLine.inv_arrive {c : ControlLine} (q : Request) (h : c.Inv) : (c.arrive q).Inv := by
  unfold ControlLine.arrive
  split
  · exact h
  · exact ControlLine.inv_offer q h

/-- A request leaves the inbound queue. -/
theorem State.loose_popRequest {s : State} (h : s.line.Inv) : s.popRequest.line.Loose := by
  obtain ⟨hin, hrest⟩ := h.loose
  refine ⟨?_, hrest⟩
  exact (List.length_tail ▸ Nat.sub_le _ _).trans hin

/-- A reply joins the queue where there is room. -/
theorem State.loose_queueReply {s : State} (r : Reply) (h : s.line.Loose)
    (hroom : s.line.replies.length < Config.replyCapacity) : (s.queueReply r).line.Loose := by
  obtain ⟨hin, -, hcount, hpair, hon, hsend⟩ := h
  refine ⟨hin, ?_, hcount, hpair, hon, fun i hi => ?_⟩
  · rw [State.queueReply_replies, List.length_append]
    exact hroom
  · obtain ⟨q, rest, hq, hseg⟩ := hsend i hi
    exact ⟨q, rest ++ [r], by rw [State.queueReply_replies, hq]; rfl, hseg⟩

/-- A request's act keeps the line within its limits, and the replies that wait. -/
theorem RequestEffect.loose {s t : State} (h : RequestEffect s t) (hs : s.line.Loose) :
    t.line.Loose ∧ t.line.replies = s.line.replies := by
  rcases h.line with hq | hdue | ⟨set, hmask⟩
  · exact ⟨hq.keeps (fun _ n _ => ControlLine.loose_queueNotice n) hs, hq.replies⟩
  · rw [hdue]
    exact ⟨hs, rfl⟩
  · obtain ⟨hin, hrep, hcount, hpair, -, hsend⟩ := hs
    rw [hmask]
    exact ⟨⟨hin, hrep, hcount, hpair.filter _, fun n hn => (List.mem_filter.1 hn).2, hsend⟩, rfl⟩

/-- A request either waits or finds room for its reply: executing keeps the line's invariant if the body keeps its limits
wherever a reply has room, or none is due. -/
theorem State.inv_execute {q : Request} {body : State → State} {s : State} (hs : s.line.Inv)
    (hbody : ∀ u : State, u.line.Loose → (q.broadcast = true ∨ u.line.replies.length < Config.replyCapacity) →
      (body u).line.Loose) : (s.execute q body).line.Inv := by
  have harrive : (s.line.arrive q).Inv := ControlLine.inv_arrive q hs
  unfold State.execute
  dsimp only
  split
  · next hready =>
    simp only [ControlLine.ready, Bool.and_eq_true, Bool.or_eq_true, decide_eq_true_eq] at hready
    exact ControlLine.inv_pump (hbody _ (State.loose_popRequest (s := { s with line := s.line.arrive q }) harrive)
      hready.2)
  · exact harrive

theorem State.inv_serve (kind : BitVec 6) (r : Req) {act : List Byte → State → State × Answer}
    (hact : ∀ body s, RequestEffect s (act body s).1) {s : State} (hs : s.line.Inv) : (s.serve kind r act).line.Inv := by
  refine State.inv_execute hs fun u hu hroom => ?_
  obtain ⟨hloose, hreplies⟩ := (hact (requestFor kind r).body u).loose hu
  unfold State.perform
  split_ifs with hb
  · exact hloose
  · exact hu
  · exact State.loose_queueReply _ hloose (hreplies ▸ hroom.resolve_left hb)
  · exact State.loose_queueReply _ hu (hroom.resolve_left hb)

theorem State.inv_unknownKind (code : BitVec 6) (r : Req) {s : State} (hs : s.line.Inv) :
    (s.unknownKind code r).line.Inv := by
  unfold State.unknownKind
  split
  · exact hs
  · refine State.inv_execute hs fun u hu hroom => ?_
    split
    · exact hu
    · next hb => exact State.loose_queueReply _ hu (hroom.resolve_left hb)

theorem ControlLine.loose_frameEnd {c : ControlLine} (h : c.Loose) : c.frameEnd.Loose := by
  obtain ⟨hin, hrep, hcount, hpair, hon, hsend⟩ := h
  unfold ControlLine.frameEnd
  split
  · exact ⟨hin, hrep, hcount, hpair, hon, hsend⟩
  · exact ⟨hin, hrep, hcount, hpair, hon, fun i hi => by cases hi⟩
  · exact ⟨hin, hrep, hcount, hpair, hon, fun i hi => by cases hi⟩
  · next i r rest hs hr =>
    split
    · next hlt => exact ⟨hin, hrep, hcount, hpair, hon, fun j hj => ⟨r, rest, hr, by cases hj; exact hlt⟩⟩
    · rw [hr, List.length_cons] at hrep
      exact ⟨hin, Nat.le_of_succ_le hrep, hcount, hpair, hon, fun j hj => by cases hj⟩

theorem ControlLine.inv_initial : ControlLine.initial.Inv := by
  refine ⟨by decide, by decide, by decide, .nil, ?_, fun _ => ⟨rfl, .inl rfl⟩, ?_⟩
  · intro _ h
    cases h
  · intro _ h
    cases h

theorem State.inv_frameReceived (chars : List Character) {s : State} (hs : s.line.Inv) :
    (s.frameReceived chars).line.Inv :=
  List.foldlRecOn _ _ (motive := ControlLine.Inv) hs fun _ hc q _ => ControlLine.inv_offer q hc

/-- An event after which a frame may begin keeps the line's invariant. -/
theorem EventEffect.inv_pump {s t : State} (h : EventEffect s t) (hs : s.line.Inv) : t.pump.line.Inv := by
  refine ControlLine.inv_pump ?_
  rcases h.line with hi | hq
  · exact hi ▸ ControlLine.inv_initial.loose
  · exact hq.keeps (fun _ n _ => ControlLine.loose_queueNotice n) hs.loose

theorem exec_event_keepsLine {i : Instr} {s t : State} (hi : requestOf i = none) (h : exec i s = .next t)
    (hs : s.line.Inv) : t.line.Inv := by
  cases i
  case powerOnReset => cases h; exact ControlLine.inv_initial
  case lineReset => cases h; exact ControlLine.inv_initial
  case softReset =>
    cases h
    unfold State.softReset
    split
    · exact ControlLine.inv_initial
    · exact hs
  case frameReceived chars => cases h; exact State.inv_frameReceived chars hs
  case interByteGap => cases h; exact hs
  case frameSent => cases h; exact ControlLine.inv_pump (ControlLine.loose_frameEnd hs.loose)
  case unknownKind code r => cases h; exact State.inv_unknownKind code r hs
  case uptimeTick => cases h; exact hs
  case generatorWordStart => cases h; exact hs
  case signalRise l => cases h; exact (EventEffect.signal l true).inv_pump hs
  case signalFall l => cases h; exact (EventEffect.signal l false).inv_pump hs
  case seedLoaded l rx => cases h; exact (EventEffect.seed l rx).inv_pump hs
  case anchorMatch l rx => cases h; exact (EventEffect.anchor l rx).inv_pump hs
  case verifyWordEnd l rx => cases h; exact (EventEffect.verify l rx).inv_pump hs
  case wordResult l rx beside => cases h; exact (EventEffect.word l rx beside.above beside.written).inv_pump hs
  case writeCompletion => cases h; exact EventEffect.write.inv_pump hs
  case gateTimerExpiry l => cases h; exact (EventEffect.gateTimer l).inv_pump hs
  case settleExpiry m => cases h; exact (EventEffect.settle m).inv_pump hs
  case lockWaitExpiry => cases h; exact EventEffect.lockWait.inv_pump hs
  all_goals cases hi

/-- Settles O57: what executes finds room for its reply, notices take their places, and beginning a frame at a free line
leaves nothing waiting there. -/
theorem stepKeepsControlLine : Obligations.StepKeepsControlLine := by
  intro s t hs hstep
  rcases hq : s.pending with _ | ⟨i, rest⟩
  · rw [step_nil hq] at hstep
    cases hstep
    exact hs
  · rw [step_cons hq] at hstep
    rcases hr : requestOf i with _ | ⟨code, r⟩
    · exact exec_event_keepsLine (s := s.withPending rest) hr hstep hs
    · cases hk : isKnownKind code with
      | true =>
        rw [exec_request hr hk] at hstep
        cases hstep
        exact State.inv_serve (s := s.withPending rest) code r (requestEffect_actOf code) hs
      | false =>
        rw [exec_unknown hr hk] at hstep
        cases hstep
        exact State.inv_unknownKind (s := s.withPending rest) code r hs

end Sys2Proof.Machine

/-! The capture log through a step: the arbiter settles, and the log's invariant (O58). -/

namespace Sys2Proof.Machine

/-! ### The log's invariant but for the slots at a free port -/

/-- The capture log's invariant but for its clause that the slots are empty at a free port, which the arbiter brings. -/
def CaptureLog.Loose (c : CaptureLog) : Prop :=
  c.records.length ≤ Config.logCapacity ∧ c.nextSequence < 2 ^ 32 ∧ CaptureLog.Numbered c.records c.nextSequence ∧
  (c.fullMark = true → c.records.length = Config.logCapacity) ∧
  1 ≤ c.watermark ∧ c.watermark ≤ Config.logCapacity ∧
  (∀ l : Lane, c.lanes[l].quotaCount ≤ 65535 ∧ ∀ cand, c.lanes[l].slot = some cand → cand.lane = l) ∧
  ∀ l p, c.port = .writing l p → c.lanes[l].slot.isSome = true ∧ (p = .stop → c.records.length < Config.logCapacity)

theorem CaptureLog.settled_iff (c : CaptureLog) : c.Settled ↔ (c.port = .free → ∀ l : Lane, c.lanes[l].slot = none) :=
  imp_iff_not_or.symm

theorem CaptureLog.inv_iff (c : CaptureLog) : c.Inv ↔ c.Loose ∧ c.Settled := by
  rw [CaptureLog.settled_iff]
  unfold CaptureLog.Inv CaptureLog.Loose
  constructor
  · rintro ⟨h1, h2, h3, h4, h5, h6, h7, h8, h9⟩
    exact ⟨⟨h1, h2, h3, h4, h5, h6, h7, h9⟩, h8⟩
  · rintro ⟨⟨h1, h2, h3, h4, h5, h6, h7, h9⟩, h8⟩
    exact ⟨h1, h2, h3, h4, h5, h6, h7, h8, h9⟩

theorem CaptureLog.set_lane (c : CaptureLog) (l k : Lane) (x : CaptureLane) :
    (c.lanes.set l x)[k] = if l = k then x else c.lanes[k] := by
  simp only [Fin.getElem_fin, Vector.getElem_set, Fin.val_inj]

/-- Dropping records from the oldest end keeps the numbering (R151). -/
theorem CaptureLog.Numbered.drop {records : List Record} {next : Nat} (h : CaptureLog.Numbered records next) (n : Nat) :
    CaptureLog.Numbered (records.drop n) next := by
  intro i hi
  rw [List.length_drop] at hi
  have := h (n + i) (by omega)
  rwa [List.getElem_drop, List.length_drop, show records.length - n - i = records.length - (n + i) by omega]

/-- A record with the next sequence number goes on the numbering (R151). -/
theorem CaptureLog.Numbered.append {records : List Record} {next : Nat} (h : CaptureLog.Numbered records next)
    (hnext : next < 2 ^ 32) (cand : Candidate) :
    CaptureLog.Numbered (records ++ [{ sequence := next, candidate := cand }]) ((next + 1) % 2 ^ 32) := by
  intro i hi
  rw [List.length_append, List.length_singleton] at hi ⊢
  rcases Nat.lt_succ_iff_lt_or_eq.1 hi with hlt | rfl
  · obtain ⟨hseq, hmax⟩ := h i hlt
    rw [List.getElem_append_left hlt]
    refine ⟨?_, hmax⟩
    omega
  · rw [List.getElem_append_right (Nat.le_refl _)]
    simp only [Nat.sub_self, List.getElem_cons_zero]
    refine ⟨by omega, hnext⟩

/-! ### Grants (R148 to R150) -/

/-- A grant at a full log under STOP discards the candidate and leaves the full mark set; any other begins a write. -/
theorem State.grantTo_log (l : Lane) (s : State) :
    (s.grantTo l).log =
      if s.log.full = .stop ∧ Config.logCapacity ≤ s.log.records.length then
        { s.log with
          lastGranted := l, fullMark := true, lanes := s.log.lanes.set l { s.log.lanes[l] with slot := none } }
      else { s.log with lastGranted := l, port := .writing l s.log.full } := by
  unfold State.grantTo
  split
  · unfold State.discard
    dsimp only
    split
    · next hmark =>
      have hmark' : s.log.fullMark = true := hmark
      rw [← hmark']
      rfl
    · rfl
  · rfl

theorem CaptureLog.loose_grantTo {s : State} {l : Lane} (h : s.log.Loose) (hp : s.log.port = .free)
    (hf : s.log.slotFull l = true) : (s.grantTo l).log.Loose := by
  obtain ⟨hlen, hnext, hnum, hmark, hw, hw', hlanes, -⟩ := h
  rw [State.grantTo_log]
  split
  · next hfull =>
    refine ⟨hlen, hnext, hnum, fun _ => Nat.le_antisymm hlen hfull.2, hw, hw', fun k => ?_, ?_⟩
    · rw [CaptureLog.set_lane]
      split
      · next h =>
        subst h
        refine ⟨(hlanes l).1, ?_⟩
        intro _ h
        cases h
      · exact hlanes k
    · intro k p hk
      rw [hp] at hk
      cases hk
  · next hroom =>
    refine ⟨hlen, hnext, hnum, hmark, hw, hw', hlanes, fun k p hk => ?_⟩
    obtain ⟨rfl, rfl⟩ := Port.writing.inj hk
    exact ⟨hf, fun hstop => Nat.lt_of_not_le fun hle => hroom ⟨hstop, hle⟩⟩

theorem CaptureLog.loose_fill {s : State} {l : Lane} {cand : Candidate} (h : s.log.Loose) (hc : cand.lane = l) :
    (s.fillSlot l cand).log.Loose := by
  obtain ⟨hlen, hnext, hnum, hmark, hw, hw', hlanes, hport⟩ := h
  refine ⟨hlen, hnext, hnum, hmark, hw, hw', fun k => ?_, fun k p hk => ?_⟩
  · rw [State.fillSlot, State.modCapture_captureLane]
    split
    · next h =>
      subst h
      exact ⟨(hlanes l).1, fun d hd => Option.some.inj hd ▸ hc⟩
    · exact hlanes k
  · rw [State.fillSlot, State.modCapture_captureLane]
    obtain ⟨hfull, hroom⟩ := hport k p hk
    split
    · exact ⟨rfl, hroom⟩
    · exact ⟨hfull, hroom⟩

/-- The log's count after a completed write. -/
theorem CaptureLog.length_enter (l : Lane) (policy : FullPolicy) (cand : Candidate) (c : CaptureLog) :
    (c.enter l policy cand).records.length =
      if policy = .ring ∧ Config.logCapacity ≤ c.records.length then c.records.length else c.records.length + 1 := by
  unfold CaptureLog.enter
  dsimp only
  rw [List.length_append]
  split
  · next h =>
    have : 0 < Config.logCapacity := by decide
    rw [List.length_drop, List.length_singleton]
    omega
  · rfl

theorem CaptureLog.loose_enter {c : CaptureLog} {l : Lane} {policy : FullPolicy} {cand : Candidate} (h : c.Loose)
    (hp : c.port = .writing l policy) : (c.enter l policy cand).Loose := by
  obtain ⟨hlen, hnext, hnum, hmark, hw, hw', hlanes, hport⟩ := h
  have hroom : policy = .stop → c.records.length < Config.logCapacity := (hport l policy hp).2
  have hlen' := c.length_enter l policy cand
  refine ⟨?_, Nat.mod_lt _ (by decide), ?_, fun hm => ?_, hw, hw', fun k => ?_, ?_⟩
  · rw [hlen']
    split
    · exact hlen
    · next h =>
      cases policy with
      | stop => exact hroom rfl
      | ring => exact Nat.lt_of_not_le fun hle => h ⟨rfl, hle⟩
  · unfold CaptureLog.enter
    dsimp only
    split
    · exact (hnum.drop 1).append hnext cand
    · exact hnum.append hnext cand
  · have hfull : c.records.length = Config.logCapacity := hmark hm
    rw [hlen', if_pos]
    · exact hfull
    · refine ⟨?_, Nat.le_of_eq hfull.symm⟩
      cases policy with
      | stop => exact absurd (hroom rfl) (by omega)
      | ring => rfl
  · unfold CaptureLog.enter
    rw [CaptureLog.set_lane]
    split
    · refine ⟨Nat.min_le_left _ _, ?_⟩
      intro _ h
      cases h
    · exact hlanes k
  · intro _ _ h
    cases h

section
variable {L : Lane → Prop} {F : Lane → HistoryFlag → Prop} {s t : State}

theorem Micro.loose (h : Micro L F s t) (hs : s.log.Loose) : t.log.Loose := by
  cases h with
  | fill l cand hl hc he => exact CaptureLog.loose_fill hs hc
  | grant l hp hf => exact CaptureLog.loose_grantTo hs hp hf
  | enter l policy cand hp hc => exact CaptureLog.loose_enter hs hp
  | _ => exact hs

theorem Touches.loose (h : Touches L F s t) (hs : s.log.Loose) : t.log.Loose :=
  h.keeps (R := fun s t => s.log.Loose → t.log.Loose) (fun _ h => h) (fun _ _ _ h h' x => h' (h x))
    (fun _ _ => Micro.loose) hs

end

/-! ### The arbiter settles -/

theorem mem_rotateOrder (last l : Lane) : l ∈ rotateOrder last := by revert last l; decide

theorem CaptureLog.slot_eq_none {c : CaptureLog} {l : Lane} (h : ¬c.slotFull l = true) : c.lanes[l].slot = none :=
  Option.not_isSome_iff_eq_none.1 h

/-- The arbiter finds no lane only when every slot is empty. -/
theorem CaptureLog.empty_of_choose {c : CaptureLog} (h : c.choose = none) (l : Lane) : c.lanes[l].slot = none := by
  have hrotate (hr : c.rotateChoice = none) : c.lanes[l].slot = none :=
    CaptureLog.slot_eq_none (List.find?_eq_none.1 hr l (mem_rotateOrder _ l))
  unfold CaptureLog.choose at h
  split at h
  · exact hrotate h
  · exact CaptureLog.slot_eq_none (List.find?_eq_none.1 h l (mem_laneList l))
  · split at h
    · cases h
    · exact hrotate h

/-- The lanes with a full slot. -/
def CaptureLog.fullLanes (c : CaptureLog) : Finset Lane := Finset.univ.filter fun l => c.slotFull l = true

theorem CaptureLog.mem_fullLanes {c : CaptureLog} {l : Lane} : l ∈ c.fullLanes ↔ c.slotFull l = true := by
  simp [CaptureLog.fullLanes]

/-- A grant begins a write, or leaves one full slot fewer. -/
theorem fullLanes_grantTo {s : State} {l : Lane} (hf : s.log.slotFull l = true) :
    (s.grantTo l).log.port ≠ .free ∨ (s.grantTo l).log.fullLanes.card < s.log.fullLanes.card := by
  rw [State.grantTo_log]
  split
  · right
    refine Finset.card_lt_card ((Finset.ssubset_iff_of_subset fun k hk => ?_).2 ⟨l, CaptureLog.mem_fullLanes.2 hf, ?_⟩)
    · rw [CaptureLog.mem_fullLanes, CaptureLog.slotFull, CaptureLog.set_lane] at hk
      split at hk
      · cases hk
      · exact CaptureLog.mem_fullLanes.2 hk
    · rw [CaptureLog.mem_fullLanes, CaptureLog.slotFull, CaptureLog.set_lane, if_pos rfl]
      exact Bool.false_ne_true
  · left
    intro h
    cases h

theorem settled_grantRounds (n : Nat) (s : State) (hn : s.log.fullLanes.card ≤ n) :
    (s.grantRounds n).log.Settled := by
  induction n generalizing s with
  | zero =>
    refine .inr fun l => CaptureLog.slot_eq_none fun h => ?_
    have hnone := Finset.card_eq_zero.1 (Nat.le_zero.1 hn)
    exact Finset.notMem_empty l (hnone ▸ CaptureLog.mem_fullLanes.2 h)
  | succ n ih =>
    rw [State.grantRounds]
    split
    · next l hp hc =>
      rcases fullLanes_grantTo (slotFull_of_choose hc) with hport | hlt
      · have hstay : (s.grantTo l).grantRounds n = s.grantTo l := by
          cases n with
          | zero => rfl
          | succ n =>
            rw [State.grantRounds]
            split
            · next hfree _ => exact absurd hfree hport
            · rfl
        rw [hstay]
        exact .inl hport
      · exact ih _ (by omega)
    · next hno =>
      cases hp : s.log.port with
      | writing l p =>
        left
        rw [hp]
        intro h
        cases h
      | free =>
        cases hc : s.log.choose with
        | none => exact .inr (CaptureLog.empty_of_choose hc)
        | some l => exact absurd hc (hno l hp)

/-- The arbiter acts until no grant is open to it (R148). -/
theorem settled_grant (s : State) : s.grant.log.Settled :=
  settled_grantRounds 8 s (Finset.card_le_univ _)

theorem State.grant_of_writing {s : State} (h : s.log.port ≠ .free) : s.grant = s := by
  rw [State.grant, State.grantRounds]
  split
  · next hp _ => exact absurd hp h
  · rfl

/-! ### What leaves the log -/

theorem State.gateLaneOff_log (l : Lane) (s : State) : (s.gateLaneOff l).log = s.log := by
  unfold State.gateLaneOff
  split <;> rfl

theorem State.lockLoss_log (l : Lane) (held : Bool) (s : State) : (s.lockLoss l held).log = s.log := by
  unfold State.lockLoss
  split
  · rfl
  · split
    · rfl
    · split <;> rfl

theorem State.gateTransition_log (l : Lane) (left entered : CheckerState) (r : Reason) (s : State) :
    (s.gateTransition l left entered r).log = s.log := by
  have hclose : (if left = .locked then s.modLane l LaneState.closeBurst else s).log = s.log := by split <;> rfl
  unfold State.gateTransition
  dsimp only
  split_ifs
  all_goals simp only [State.modGate_log, State.gateLaneOff_log, State.lockLoss_log, State.modLane_log]

theorem State.setReasonFlag_log (l : Lane) (r : Reason) (s : State) : (s.setReasonFlag l r).log = s.log := by
  unfold State.setReasonFlag
  split <;> rfl

theorem State.finishPoint_log (v : Verdict) (s : State) : (s.finishPoint v).log = s.log := rfl

theorem State.marginTransition_log (l : Lane) (left entered : CheckerState) (s : State) :
    (s.marginTransition l left entered).log = s.log := by
  unfold State.marginTransition State.pointTransition
  split
  · split
    · split
      all_goals split_ifs <;> rfl
    · rfl
  · rfl

theorem State.dwellWord_log (l : Lane) (n : Nat) (s : State) : (s.dwellWord l n).log = s.log := by
  unfold State.dwellWord
  split
  · rfl
  · split
    · split
      · rfl
      · dsimp only
        split <;> rfl
      · rfl
    · rfl

theorem State.testLimits_log (l : Lane) (s : State) : (s.testLimits l).log = s.log := by
  unfold State.testLimits
  dsimp only
  split_ifs <;> rfl

theorem State.gateExpiry_log (l : Lane) (s : State) : (s.gateExpiry l).log = s.log := by
  unfold State.gateExpiry State.expireArmed State.expireRunning State.expirePaused
  dsimp only
  split
  · rfl
  · split <;> rfl
  · split_ifs <;> rfl
  · split <;> rfl
  · rfl

theorem State.settleExpiry_log (midWord : Bool) (s : State) : (s.settleExpiry midWord).log = s.log := by
  unfold State.settleExpiry
  split
  · rfl
  · split
    · dsimp only
      split_ifs <;> rfl
    · rfl

theorem State.lockWaitExpiry_log (s : State) : s.lockWaitExpiry.log = s.log := by
  unfold State.lockWaitExpiry
  split
  · rfl
  · split <;> rfl

/-! ### What settles it, or keeps it settled -/

theorem settled_entryCandidate {m : Move} {s : State} (h : s.log.Settled) : (s.entryCandidate m).log.Settled := by
  unfold State.entryCandidate
  dsimp only
  split
  · exact settled_grant _
  · exact h

theorem settled_applyMove {m : Move} {s : State} (h : s.log.Settled) : (s.applyMove m).log.Settled := by
  unfold State.applyMove
  dsimp only
  rw [State.queueNotice_log, State.marginTransition_log]
  refine settled_entryCandidate ?_
  rwa [State.gateTransition_log, State.setReasonFlag_log, State.modLane_log]

/-- Checker transitions leave no grant open. -/
theorem settled_transition (ms : List Move) (s : State) : (s.transition ms).log.Settled :=
  List.foldlRecOn ms State.applyMove (motive := fun s : State => s.log.Settled) (settled_grant _)
    fun _ hs _ _ => settled_applyMove hs

theorem settled_signalLevel {s : State} (l : Lane) (level : Bool) (h : s.log.Settled) :
    (s.signalLevel l level).log.Settled := by
  unfold State.signalLevel
  dsimp only
  split
  · exact h
  · split
    · exact h
    · exact settled_transition ..

theorem settled_seedLoaded {s : State} (l : Lane) (rx : Reception) (h : s.log.Settled) :
    (s.seedLoaded l rx).log.Settled := by
  unfold State.seedLoaded
  dsimp only
  split
  · split
    · exact settled_transition ..
    · exact h
  · exact h

theorem settled_anchorMatch {s : State} (l : Lane) (rx : Reception) (h : s.log.Settled) :
    (s.anchorMatch l rx).log.Settled := by
  unfold State.anchorMatch
  dsimp only
  split
  · split
    · exact settled_transition ..
    · exact h
  · exact h

theorem settled_verifyWord {s : State} (l : Lane) (rx : Reception) (h : s.log.Settled) :
    (s.verifyWord l rx).log.Settled := by
  unfold State.verifyWord
  dsimp only
  split
  · split
    · exact h
    · exact settled_transition ..
    · exact settled_transition ..
    · exact settled_transition ..
  · exact h

theorem settled_account {s : State} (l : Lane) (last : BitVec 15) (wr : WordResult) (h : s.log.Settled) :
    (s.account l last wr).log.Settled := by
  unfold State.account State.acceptTally
  dsimp only
  split
  · split
    · split
      · rw [State.testLimits_log]
        exact settled_grant _
      · rwa [State.testLimits_log]
    · exact h
  · exact h

theorem settled_lockedWord {s : State} (l : Lane) (rx : Reception) (above : List Bool) (written : Bool)
    (h : s.log.Settled) : (s.lockedWord l rx above written).log.Settled := by
  unfold State.lockedWord
  dsimp only
  split
  · split
    · exact settled_transition ..
    · rw [State.dwellWord_log]
      exact settled_account _ _ _ h
  · exact h

theorem settled_writeCompletion {s : State} (h : s.log.Settled) : s.writeCompletion.log.Settled := by
  unfold State.writeCompletion
  dsimp only
  split
  · exact h
  · split
    · exact h
    · split <;> exact settled_grant _

theorem CaptureLog.settled_initial : CaptureLog.initial.Settled := by
  right
  decide

/-- An event leaves no grant open if none was. -/
theorem EventEffect.settled {s t : State} (h : EventEffect s t) (hs : s.log.Settled) : t.log.Settled := by
  cases h with
  | powerOn | lineReset | softReset => exact CaptureLog.settled_initial
  | nothing | uptime | generatorWord => exact hs
  | signal l level => exact settled_signalLevel l level hs
  | seed l rx => exact settled_seedLoaded l rx hs
  | anchor l rx => exact settled_anchorMatch l rx hs
  | verify l rx => exact settled_verifyWord l rx hs
  | word l rx above written => exact settled_lockedWord l rx above written hs
  | write => exact settled_writeCompletion hs
  | gateTimer l => rwa [State.gateExpiry_log]
  | settle midWord => rwa [State.settleExpiry_log]
  | lockWait => rwa [State.lockWaitExpiry_log]

theorem CaptureLog.loose_initial : CaptureLog.initial.Loose := by
  refine ⟨by decide, by decide, ?_, ?_, by decide, by decide, fun l => ⟨?_, ?_⟩, ?_⟩
  · intro i hi
    cases hi
  · intro h
    cases h
  · revert l
    decide
  · have hempty : CaptureLog.initial.lanes[l].slot = none := by revert l; decide
    rw [hempty]
    intro _ h
    cases h
  · intro _ _ h
    cases h

theorem EventEffect.logInv {s t : State} (h : EventEffect s t) (hs : s.log.Inv) : t.log.Inv := by
  obtain ⟨hloose, hsettled⟩ := s.log.inv_iff.1 hs
  refine t.log.inv_iff.2 ⟨?_, h.settled hsettled⟩
  obtain ⟨st, rfl | rfl⟩ | rfl | rfl | ⟨l, rfl⟩ | h := h.touches
  · exact CaptureLog.loose_initial
  · exact CaptureLog.loose_initial
  · exact CaptureLog.loose_initial
  · exact hloose
  · exact hloose
  · exact h.loose hloose

/-! ### Requests -/

/-- A change of a lane's settings or quota count, its slot untouched, keeps the log's invariant. -/
theorem CaptureLog.inv_modCapture {s : State} {l : Lane} {f : CaptureLane → CaptureLane}
    (hslot : ∀ c, (f c).slot = c.slot) (hcount : ∀ c, c.quotaCount ≤ 65535 → (f c).quotaCount ≤ 65535)
    (hs : s.log.Inv) : (s.modCapture l f).log.Inv := by
  obtain ⟨hlen, hnext, hnum, hmark, hw, hw', hlanes, hfree, hport⟩ := hs
  have hsame (k : Lane) : (s.modCapture l f).log.lanes[k].slot = s.log.lanes[k].slot := by
    rw [State.modCapture_captureLane]
    split
    · exact hslot _
    · rfl
  refine ⟨hlen, hnext, hnum, hmark, hw, hw', fun k => ⟨?_, ?_⟩, fun hp k => ?_, fun k p hp => ?_⟩
  · rw [State.modCapture_captureLane]
    split
    · exact hcount _ (hlanes k).1
    · exact (hlanes k).1
  · rw [hsame]
    exact (hlanes k).2
  · rw [hsame]
    exact hfree hp k
  · rw [hsame]
    exact hport k p hp

theorem CaptureLog.inv_logRead {c : CaptureLog} (n : Nat) (h : c.Inv) :
    CaptureLog.Inv { c with
      records := c.records.drop n
      fullMark := c.fullMark && Config.logCapacity ≤ (c.records.drop n).length } := by
  obtain ⟨hlen, hnext, hnum, hmark, hw, hw', hlanes, hfree, hport⟩ := h
  have hshort : (c.records.drop n).length ≤ c.records.length := by
    rw [List.length_drop]
    exact Nat.sub_le _ _
  refine ⟨hshort.trans hlen, hnext, hnum.drop n, fun hm => ?_, hw, hw', hlanes, hfree, fun k p hp => ?_⟩
  · have hge := of_decide_eq_true (Bool.and_eq_true_iff.1 hm).2
    exact Nat.le_antisymm (hshort.trans hlen) hge
  · exact ⟨(hport k p hp).1, fun hstop => hshort.trans_lt ((hport k p hp).2 hstop)⟩

theorem CaptureLog.inv_logClear {c : CaptureLog} (h : c.Inv) :
    CaptureLog.Inv { c with records := [], fullMark := false } := by
  obtain ⟨hlen, hnext, hnum, hmark, hw, hw', hlanes, hfree, hport⟩ := h
  refine ⟨Nat.zero_le _, hnext, fun i hi => absurd hi (Nat.not_lt_zero i), fun hm => absurd hm Bool.false_ne_true, hw, hw',
    hlanes, hfree, fun k p hp => ⟨(hport k p hp).1, fun _ => Nat.zero_lt_succ _⟩⟩

theorem clampNat_bounds {lo hi : Nat} (h : lo ≤ hi) (n : Nat) : lo ≤ clampNat lo hi n ∧ clampNat lo hi n ≤ hi := by
  unfold clampNat
  omega

theorem CaptureLog.inv_logSet {c : CaptureLog} (arb : ArbPolicy) (full : FullPolicy) (w : Nat) (h : c.Inv) :
    CaptureLog.Inv { c with arb := arb, full := full, watermark := clampNat 1 512 w } := by
  obtain ⟨hlen, hnext, hnum, hmark, hw, hw', hlanes, hfree, hport⟩ := h
  obtain ⟨hlo, hhi⟩ := clampNat_bounds (lo := 1) (hi := 512) (by decide) w
  exact ⟨hlen, hnext, hnum, hmark, hlo, hhi, hlanes, hfree, hport⟩

theorem foldl_log {β : Type} {f : State → β → State} (h : ∀ s x, (f s x).log = s.log) (xs : List β) (s : State) :
    (xs.foldl f s).log = s.log :=
  foldl_keeps (fun s t : State => t.log = s.log) (fun _ => rfl) (fun _ _ _ h h' => h'.trans h) f h xs s

theorem State.onLanes_log (b : LaneSet) (f : LaneState → LaneState) (s : State) : (s.onLanes b f).log = s.log :=
  foldl_log (f := fun s l => s.modLane l f) (fun _ _ => rfl) _ s

theorem State.stopGate_log (l : Lane) (s : State) : (s.stopGate l).log = s.log := by
  unfold State.stopGate
  split <;> rfl

theorem foldl_logInv {β : Type} {f : State → β → State} (h : ∀ s x, s.log.Inv → (f s x).log.Inv) (xs : List β)
    {s : State} (hs : s.log.Inv) : (xs.foldl f s).log.Inv :=
  List.foldlRecOn xs f (motive := fun s : State => s.log.Inv) hs fun _ hs x _ => h _ x hs

theorem RequestEffect.logInv {s t : State} (h : RequestEffect s t) (hs : s.log.Inv) : t.log.Inv := by
  have hloose := (s.log.inv_iff.1 hs).1
  cases h with
  | laneSet => exact (CaptureLog.inv_iff _).2 ⟨(touches_applyLaneSet ..).loose hloose, settled_transition ..⟩
  | chkHold => exact (CaptureLog.inv_iff _).2 ⟨(touches_hold ..).loose hloose, settled_transition ..⟩
  | chkRelease => exact (CaptureLog.inv_iff _).2 ⟨(touches_release ..).loose hloose, settled_transition ..⟩
  | gateStop => rwa [foldl_log (f := fun s l => s.stopGate l) fun s l => State.stopGate_log l s]
  | gateStart b args =>
    exact foldl_logInv (f := fun s l => s.startGate args l)
      (fun _ _ hs => CaptureLog.inv_modCapture (fun _ => rfl) (fun _ _ => Nat.zero_le _) hs) _ hs
  | captureSet b mode quota =>
    exact foldl_logInv (f := fun s l => s.modCapture l fun c => { c with mode := mode, quota := quota })
      (fun _ _ hs => CaptureLog.inv_modCapture (fun _ => rfl) (fun _ h => h) hs) _ hs
  | genSet | genInsert | chkSet => rwa [State.onLanes_log]
  | logRead n => exact CaptureLog.inv_logRead n hs
  | logClear => exact CaptureLog.inv_logClear hs
  | logSet arb full w => exact CaptureLog.inv_logSet arb full w hs
  | _ => exact hs

/-- Settles O58: every candidate offered is followed by the arbiter's grants, and only a completed write and the log's own
requests change the records. -/
theorem stepKeepsCaptureLog : Obligations.StepKeepsCaptureLog := fun _ _ hs hstep =>
  step_keeps (P := fun s => s.log.Inv) (fun _ _ h => h) (fun _ _ h => h) (fun _ _ h hs => h.logInv hs)
    (fun _ _ h hs => h.logInv hs) hs hstep

end Sys2Proof.Machine

/-! The margin unit through a step: what reaches it, and its invariant (O60). -/

namespace Sys2Proof.Machine

/-! ### What leaves the margin unit -/

theorem State.endGate_margin (l : Lane) (r : EndReason) (s : State) : (s.endGate l r).margin = s.margin := rfl

theorem State.gateLaneOff_margin (l : Lane) (s : State) : (s.gateLaneOff l).margin = s.margin := by
  unfold State.gateLaneOff
  split <;> rfl

theorem State.lockLoss_margin (l : Lane) (held : Bool) (s : State) : (s.lockLoss l held).margin = s.margin := by
  unfold State.lockLoss
  split
  · rfl
  · split
    · rfl
    · split <;> rfl

theorem State.gateTransition_margin (l : Lane) (left entered : CheckerState) (r : Reason) (s : State) :
    (s.gateTransition l left entered r).margin = s.margin := by
  have hclose : (if left = .locked then s.modLane l LaneState.closeBurst else s).margin = s.margin := by split <;> rfl
  unfold State.gateTransition
  dsimp only
  split_ifs
  all_goals simp only [State.modGate_margin, State.gateLaneOff_margin, State.lockLoss_margin, State.modLane_margin]

theorem State.setReasonFlag_margin (l : Lane) (r : Reason) (s : State) : (s.setReasonFlag l r).margin = s.margin := by
  unfold State.setReasonFlag
  split <;> rfl

theorem State.grantTo_margin (l : Lane) (s : State) : (s.grantTo l).margin = s.margin := by
  unfold State.grantTo State.discard
  dsimp only
  split_ifs <;> rfl

theorem State.grantRounds_margin (n : Nat) (s : State) : (s.grantRounds n).margin = s.margin := by
  induction n generalizing s with
  | zero => rfl
  | succ n ih =>
    rw [State.grantRounds]
    split
    · rw [ih, State.grantTo_margin]
    · rfl

theorem State.grant_margin (s : State) : s.grant.margin = s.margin := State.grantRounds_margin 8 s

theorem State.offerLock_margin (l : Lane) (c : Candidate) (s : State) : (s.offerLock l c).margin = s.margin := by
  unfold State.offerLock
  split <;> rfl

theorem State.offerTally_margin (l : Lane) (c : Candidate) (s : State) : (s.offerTally l c).margin = s.margin := by
  unfold State.offerTally
  split <;> rfl

theorem State.exitCandidate_margin (m : Move) (s : State) : (s.exitCandidate m).margin = s.margin := by
  unfold State.exitCandidate
  dsimp only
  split
  · exact State.offerLock_margin ..
  · rfl

theorem State.entryCandidate_margin (m : Move) (s : State) : (s.entryCandidate m).margin = s.margin := by
  unfold State.entryCandidate
  dsimp only
  split
  · rw [State.grant_margin, State.offerLock_margin]
  · rfl

theorem State.testLimits_margin (l : Lane) (s : State) : (s.testLimits l).margin = s.margin := by
  unfold State.testLimits
  dsimp only
  split_ifs <;> rfl

theorem State.account_margin (l : Lane) (last : BitVec 15) (wr : WordResult) (s : State) :
    (s.account l last wr).margin = s.margin := by
  unfold State.account State.acceptTally
  dsimp only
  split
  · split
    · split
      · rw [State.testLimits_margin, State.grant_margin, State.offerTally_margin, State.modLane_margin]
      · rw [State.testLimits_margin, State.modLane_margin]
    · rfl
  · rfl

theorem State.writeCompletion_margin (s : State) : s.writeCompletion.margin = s.margin := by
  unfold State.writeCompletion
  dsimp only
  split
  · rfl
  · split
    · rfl
    · split <;> rw [State.grant_margin] <;> rfl

theorem State.gateExpiry_margin (l : Lane) (s : State) : (s.gateExpiry l).margin = s.margin := by
  unfold State.gateExpiry State.expireArmed State.expireRunning State.expirePaused
  dsimp only
  split
  · rfl
  · split <;> rfl
  · split_ifs <;> rfl
  · split <;> rfl
  · rfl

theorem foldl_margin {β : Type} {f : State → β → State} (h : ∀ s x, (f s x).margin = s.margin) (xs : List β)
    (s : State) : (xs.foldl f s).margin = s.margin :=
  foldl_keeps (fun s t : State => t.margin = s.margin) (fun _ => rfl) (fun _ _ _ h h' => h'.trans h) f h xs s

theorem State.onLanes_margin (b : LaneSet) (f : LaneState → LaneState) (s : State) :
    (s.onLanes b f).margin = s.margin := foldl_margin (f := fun s l => s.modLane l f) (fun _ _ => rfl) _ s

theorem State.stopGate_margin (l : Lane) (s : State) : (s.stopGate l).margin = s.margin := by
  unfold State.stopGate
  split <;> rfl

/-- What a transition's exits and grants leave: the margin unit meets only the moves. -/
theorem State.exits_margin (ms : List Move) (s : State) :
    (ms.foldl (fun s m => s.exitCandidate m) s).grant.margin = s.margin := by
  rw [State.grant_margin, foldl_margin (f := fun s m => s.exitCandidate m) fun s m => State.exitCandidate_margin m s]

/-! ### What reaches the margin unit -/

/-- What the margin unit does with a transition depends on nothing outside it. -/
theorem marginTransition_margin_congr {s u : State} (h : s.margin = u.margin) (l : Lane) (left entered : CheckerState) :
    (s.marginTransition l left entered).margin = (u.marginTransition l left entered).margin := by
  unfold State.marginTransition State.pointTransition State.finishPoint State.setPoint
  rw [h]
  split
  · split
    · split
      · split_ifs
        · rfl
        · exact h
      · split_ifs
        · rfl
        · rfl
        · exact h
      · split_ifs
        · rfl
        · exact h
    · exact h
  · exact h

/-- Of a transition, the margin unit meets the state left and the state entered. -/
theorem State.applyMove_margin (m : Move) (s : State) :
    (s.applyMove m).margin = (s.marginTransition m.lane (s.lane m.lane).chkState m.phase.state).margin := by
  unfold State.applyMove
  dsimp only
  rw [State.queueNotice_margin]
  refine marginTransition_margin_congr ?_ _ _ _
  rw [State.entryCandidate_margin, State.gateTransition_margin, State.setReasonFlag_margin, State.modLane_margin]

/-! ### Ranges -/

/-- The stored plan and the tables are in range. -/
def Margin.StoreInRange (m : Margin) : Prop :=
  m.plan.InRange ∧ ∀ l : Lane, 1 ≤ m.tables[l].count ∧ m.tables[l].count ≤ 64

/-- The plans and sweeps that a margin state holds are in range, whatever the point. -/
def MarginState.SweepInRange : MarginState → Prop
  | .idle => True
  | .spot _ => True
  | .sweep _ sw => sw.InRange
  | .forcedSpot _ sw => sw.InRange
  | .spotThenSweep _ w => w.InRange

theorem MarginState.InRange.sweepInRange {st : MarginState} (h : st.InRange) : st.SweepInRange := by
  cases st with
  | idle => trivial
  | spot p => trivial
  | sweep p sw => exact h.2.1
  | forcedSpot p sw => exact h.2
  | spotThenSweep p w => exact h.2

theorem MarginState.sweepInRange_withPoint (q : Point) {st : MarginState} (h : st.SweepInRange) :
    (st.withPoint q).SweepInRange := by
  cases st <;> exact h

theorem MarginState.withPoint_ne_idle {st : MarginState} {p : Point} (q : Point) (h : st.point = some p) :
    st.withPoint q ≠ .idle := by
  cases st with
  | idle => cases h
  | _ => exact nofun

/-- The settings of a point that begins: those of R130. -/
def PointSettings.InRange (ps : PointSettings) : Prop :=
  -32 ≤ ps.offset ∧ ps.offset ≤ 31 ∧ ps.lockWait ≤ 1000 ∧ ps.dwell % 32 = 0 ∧ 0 < ps.dwell ∧ ps.dwell < 2 ^ 32

theorem Point.begin_inRange {ps : PointSettings} (h : ps.InRange) : (Point.begin ps).InRange := by
  obtain ⟨hlo, hhi, hwait, hmult, hpos, hmax⟩ := h
  exact ⟨hlo, hhi, hwait, hmult, hmax, rfl, hpos, Nat.le_refl _⟩

/-- Every point of a plan in range lies from -32 to 31. -/
theorem Plan.pointOn_inRange {p : Plan} {i : Nat} (h : p.InRange) (hi : i < p.count) (l : Lane) :
    (p.pointOn l i).InRange := by
  obtain ⟨-, hstart, -, -, -, -, hlast, hdwell, hmax, hmult, hwait⟩ := h
  have hle : (i : Int) * p.step ≤ ((p.count - 1 : Nat) : Int) * p.step :=
    Int.mul_le_mul_of_nonneg_right (by omega) (by omega)
  have hnonneg : (0 : Int) ≤ (i : Int) * p.step := by positivity
  refine ⟨?_, ?_, hwait, hmult, by unfold Plan.pointOn; dsimp only; omega, hmax⟩
  · show -32 ≤ p.start + (i : Int) * p.step
    omega
  · show p.start + (i : Int) * p.step ≤ 31
    omega

theorem Plan.firstLane_mem {p : Plan} (h : p.lanes ≠ 0) : p.firstLane ∈ lanesOf p.lanes := by
  unfold Plan.firstLane
  rcases hl : lanesOf p.lanes with _ | ⟨l, rest⟩
  · refine absurd (BitVec.eq_of_getLsbD_eq fun i hi => ?_) h
    have hno : (⟨i, hi⟩ : Lane) ∉ lanesOf p.lanes := by
      rw [hl]
      exact List.not_mem_nil
    rw [mem_lanesOf] at hno
    simpa using hno
  · exact List.mem_cons_self ..

theorem Sweep.firstPoint_inRange {p : Plan} (h : p.InRange) (pass : Nat) :
    Sweep.InRange { plan := p, lane := p.firstLane, index := 0, pass := pass } :=
  ⟨h, Plan.firstLane_mem h.1, h.2.2.2.2.1⟩

theorem Sweep.next_inRange {sw : Sweep} {l : Lane} {i : Nat} (h : sw.InRange)
    (hn : sw.plan.next sw.lane sw.index = some (l, i)) : Sweep.InRange { sw with lane := l, index := i } := by
  obtain ⟨hplan, hlane, -⟩ := h
  unfold Plan.next at hn
  split at hn
  · next hlt =>
    cases hn
    exact ⟨hplan, hlane, hlt⟩
  · obtain ⟨m, hm, hmi⟩ := Option.map_eq_some_iff.1 hn
    cases hmi
    exact ⟨hplan, List.mem_of_find?_eq_some hm, hplan.2.2.2.2.1⟩

/-! ### Tables -/

theorem Margin.storeInRange_setTable {m : Margin} {l : Lane} {t : PointTable} (h : m.StoreInRange)
    (ht : 1 ≤ t.count ∧ t.count ≤ 64) : Margin.StoreInRange { m with tables := m.tables.set l t } := by
  refine ⟨h.1, fun k => ?_⟩
  simp only [Fin.getElem_fin, Vector.getElem_set]
  split
  · exact ht
  · exact h.2 k

theorem Margin.storeInRange_rebuild {m : Margin} {p : Plan} (pass : Nat) (l : Lane) (h : m.StoreInRange)
    (hp : p.InRange) : (m.rebuild p pass l).StoreInRange :=
  Margin.storeInRange_setTable h ⟨hp.2.2.2.2.1, hp.2.2.2.2.2.1⟩

theorem PointTable.count_write (i bits errors : Nat) (v : Verdict) (t : PointTable) :
    (t.write i bits errors v).count = t.count := by
  unfold PointTable.write
  split <;> rfl

theorem Margin.storeInRange_recordPoint {m : Margin} (p : Point) (sw : Sweep) (v : Verdict) (h : m.StoreInRange) :
    (m.recordPoint p sw v).StoreInRange :=
  Margin.storeInRange_setTable (m := m) h (by rw [PointTable.count_write]; exact h.2 sw.lane)

/-! ### Beginning and finishing points -/

theorem Margin.inv_idle {m : Margin} (h : m.StoreInRange) : m.idle.Inv := ⟨rfl, trivial, h.1, h.2⟩

theorem Margin.inv_beginSweepPoint {m : Margin} {sw : Sweep} (fresh : Bool) (h : m.StoreInRange) (hsw : sw.InRange) :
    (m.beginSweepPoint sw fresh).Inv := by
  have hpoint := Point.begin_inRange (Plan.pointOn_inRange hsw.1 hsw.2.2 sw.lane)
  have hstore : (if fresh && sw.index == 0 then m.rebuild sw.plan sw.pass sw.lane else m).StoreInRange := by
    split
    · exact Margin.storeInRange_rebuild _ _ h hsw.1
    · exact h
  exact ⟨rfl, ⟨hpoint, hsw, rfl⟩, hstore.1, hstore.2⟩

theorem Margin.inv_beginPass {m : Margin} {p : Plan} (h : m.StoreInRange) (hp : p.InRange) : (m.beginPass p).Inv :=
  Margin.inv_beginSweepPoint (m := { m with passCounter := nextPass m.passCounter }) true h
    (Sweep.firstPoint_inRange hp _)

theorem Margin.inv_afterPoint {m : Margin} {sw : Sweep} (h : m.StoreInRange) (hsw : sw.InRange) :
    (m.afterPoint sw).Inv := by
  unfold Margin.afterPoint
  split
  · next l i hn => exact Margin.inv_beginSweepPoint true h (Sweep.next_inRange hsw hn)
  · split
    · exact Margin.inv_beginPass h hsw.1
    · exact Margin.inv_idle h

/-- Whatever the point, its finish leaves the unit in order. -/
theorem Margin.inv_finish {m : Margin} (v : Verdict) (h : m.StoreInRange) (hs : m.state.SweepInRange)
    (hidle : m.state = .idle → m.Inv) : (m.finish v).Inv := by
  unfold Margin.finish
  split
  · next hi => exact hidle hi
  · next p _ => exact Margin.inv_idle (m := { m with spot := some (p.spotRecord v) }) h
  · next p sw hst =>
    rw [hst] at hs
    exact Margin.inv_afterPoint (Margin.storeInRange_recordPoint p sw v h) hs
  · next p sw hst =>
    rw [hst] at hs
    exact Margin.inv_beginSweepPoint (m := { m with spot := some (p.spotRecord v) }) false h hs
  · next p w hst =>
    rw [hst] at hs
    exact Margin.inv_beginPass (m := { m with spot := some (p.spotRecord v) }) h hs

theorem Margin.Inv.storeInRange {m : Margin} (h : m.Inv) : m.StoreInRange := h.2.2

theorem Margin.Inv.finish {m : Margin} (v : Verdict) (h : m.Inv) : (m.finish v).Inv :=
  Margin.inv_finish v h.storeInRange h.2.1.sweepInRange fun _ => h

theorem MarginState.point_inRange {st : MarginState} {p : Point} (h : st.InRange) (hp : st.point = some p) :
    p.InRange := by
  cases st with
  | idle => cases hp
  | spot q => cases hp; exact h
  | sweep q sw => cases hp; exact h.1
  | forcedSpot q sw => cases hp; exact h.1
  | spotThenSweep q w => cases hp; exact h.1

/-- The point in progress may change its phase and counts within its range. -/
theorem Margin.Inv.withPoint {m : Margin} {p q : Point} (h : m.Inv) (hp : m.state.point = some p)
    (hset : q.settings = p.settings) (hq : q.InRange) : Margin.Inv { m with state := m.state.withPoint q } := by
  obtain ⟨hsampler, hstate, hstore⟩ := h
  rw [hp] at hsampler
  refine ⟨?_, ?_, hstore⟩
  · rw [hsampler]
    cases hst : m.state <;> rw [hst] at hp <;> cases hp <;> exact congrArg (fun ps => some (PointSettings.place ps)) hset.symm
  · cases hst : m.state with
    | idle => trivial
    | spot r => exact hq
    | sweep r sw =>
      rw [hst] at hp hstate
      cases hp
      exact ⟨hq, hstate.2.1, hset.trans hstate.2.2⟩
    | forcedSpot r sw =>
      rw [hst] at hstate
      exact ⟨hq, hstate.2⟩
    | spotThenSweep r w =>
      rw [hst] at hstate
      exact ⟨hq, hstate.2⟩

/-! ### Events -/

/-- A change of phase leaves the point in range. -/
theorem Margin.Inv.withPhase {m : Margin} {p : Point} (h : m.Inv) (hp : m.state.point = some p) (ph : PointPhase) :
    Margin.Inv { m with state := m.state.withPoint { p with phase := ph } } :=
  h.withPoint hp rfl (show Point.InRange p from MarginState.point_inRange h.2.1 hp)

theorem marginInv_marginTransition {s : State} (l : Lane) (left entered : CheckerState) (h : s.margin.Inv) :
    (s.marginTransition l left entered).margin.Inv := by
  unfold State.marginTransition
  split
  · next p hp =>
    split
    · unfold State.pointTransition
      split
      · split
        · exact h.withPhase hp _
        · exact h
      · split
        · exact h.withPhase hp _
        · split
          · exact h.finish .noLock
          · exact h
      · split
        · exact h.finish .noLock
        · exact h
    · exact h
  · exact h

theorem marginInv_transition {s : State} (ms : List Move) (h : s.margin.Inv) : (s.transition ms).margin.Inv := by
  refine List.foldlRecOn ms State.applyMove (motive := fun s : State => s.margin.Inv) ?_ fun s hs m _ => ?_
  · rwa [State.exits_margin]
  · rw [State.applyMove_margin]
    exact marginInv_marginTransition _ _ _ hs

theorem popCount_le (w : Word) : popCount w ≤ 32 := by
  have h (xs : List Nat) (n : Nat) : xs.foldl (fun n i => if w.getLsbD i then n + 1 else n) n ≤ n + xs.length := by
    induction xs generalizing n with
    | nil => exact Nat.le_refl n
    | cons x xs ih =>
      rw [List.foldl_cons, List.length_cons]
      split
      · exact (ih (n + 1)).trans (by omega)
      · exact (ih n).trans (by omega)
  exact (h (List.range 32) 0).trans (by decide)

/-- A point that has no verdict yet has not reached its dwell (R126). -/
theorem Point.bits_lt_of_no_verdict {q : Point} (h : q.verdict = none) : q.bits < q.settings.dwell := by
  unfold Point.verdict at h
  split at h
  · split at h
    · cases h
    · omega
  · split at h
    · cases h
    · split at h
      · cases h
      · omega

theorem marginInv_dwellWord {s : State} (l : Lane) {n : Nat} (hn : n ≤ 32) (h : s.margin.Inv) :
    (s.dwellWord l n).margin.Inv := by
  unfold State.dwellWord
  split
  · exact h
  · next p hp =>
    split
    · split
      · exact h.withPhase hp _
      · dsimp only
        split
        · exact Margin.inv_finish _ h.storeInRange (MarginState.sweepInRange_withPoint _ h.2.1.sweepInRange)
            fun hi => absurd hi (MarginState.withPoint_ne_idle _ hp)
        · next hv =>
          obtain ⟨hlo, hhi, hwait, hmult, hmax, hbits, hlt, herr⟩ := MarginState.point_inRange h.2.1 hp
          refine h.withPoint hp rfl ⟨hlo, hhi, hwait, hmult, hmax, ?_, Point.bits_lt_of_no_verdict hv, ?_⟩
          · show (p.bits + 32) % 32 = 0
            omega
          · show p.errors + n ≤ p.bits + 32
            omega
      · exact h
    · exact h

theorem marginInv_settleExpiry {s : State} (midWord : Bool) (h : s.margin.Inv) : (s.settleExpiry midWord).margin.Inv := by
  unfold State.settleExpiry
  split
  · exact h
  · next p hp =>
    split
    · dsimp only
      split
      · exact h.finish .noLock
      · split
        · exact h.withPhase hp _
        · split
          · exact h.finish .noLock
          · exact h.withPhase hp _
    · exact h

theorem marginInv_lockWaitExpiry {s : State} (h : s.margin.Inv) : s.lockWaitExpiry.margin.Inv := by
  unfold State.lockWaitExpiry
  split
  · exact h
  · split
    · exact h.finish .noLock
    · exact h

theorem marginInv_signalLevel {s : State} (l : Lane) (level : Bool) (h : s.margin.Inv) :
    (s.signalLevel l level).margin.Inv := by
  unfold State.signalLevel
  dsimp only
  split
  · exact h
  · split
    · exact h
    · exact marginInv_transition _ h

theorem marginInv_seedLoaded {s : State} (l : Lane) (rx : Reception) (h : s.margin.Inv) :
    (s.seedLoaded l rx).margin.Inv := by
  unfold State.seedLoaded
  dsimp only
  split
  · split
    · exact marginInv_transition _ h
    · exact h
  · exact h

theorem marginInv_anchorMatch {s : State} (l : Lane) (rx : Reception) (h : s.margin.Inv) :
    (s.anchorMatch l rx).margin.Inv := by
  unfold State.anchorMatch
  dsimp only
  split
  · split
    · refine marginInv_transition _ ?_
      split <;> exact h
    · exact h
  · exact h

theorem marginInv_verifyWord {s : State} (l : Lane) (rx : Reception) (h : s.margin.Inv) :
    (s.verifyWord l rx).margin.Inv := by
  unfold State.verifyWord
  dsimp only
  split
  · split
    · exact h
    · exact marginInv_transition _ h
    · exact marginInv_transition _ h
    · exact marginInv_transition _ h
  · exact h

/-- A locked word reaches the margin unit once it has been taken and accounted. -/
theorem marginInv_word {s : State} (l : Lane) (last : BitVec 15) (wr : WordResult) (w : Word) {f : LaneState → LaneState}
    (h : s.margin.Inv) : (((s.modLane l f).account l last wr).dwellWord l (popCount w)).margin.Inv :=
  marginInv_dwellWord l (popCount_le w) (by rwa [State.account_margin, State.modLane_margin])

theorem marginInv_declareLoss {s : State} (l : Lane) (written : Bool) (h : s.margin.Inv) :
    (s.declareLoss l written).margin.Inv := by
  refine marginInv_transition _ ?_
  split
  · rwa [State.writeCompletion_margin]
  · exact h

theorem marginInv_lockedWord {s : State} (l : Lane) (rx : Reception) (above : List Bool) (written : Bool)
    (h : s.margin.Inv) : (s.lockedWord l rx above written).margin.Inv := by
  unfold State.lockedWord
  dsimp only
  split
  · split
    · exact marginInv_declareLoss l written (marginInv_word l _ _ _ h)
    · exact marginInv_word l _ _ _ h
  · exact h

theorem Plan.initial_inRange : Plan.initial.InRange := by
  unfold Plan.InRange
  decide

theorem Margin.inv_initial : Margin.initial.Inv := by
  refine ⟨rfl, trivial, Plan.initial_inRange, fun l => ?_⟩
  simp [Margin.initial, PointTable.initial]

theorem EventEffect.marginInv {s t : State} (h : EventEffect s t) (hs : s.margin.Inv) : t.margin.Inv := by
  cases h with
  | powerOn | lineReset | softReset => exact Margin.inv_initial
  | nothing | uptime | generatorWord => exact hs
  | signal l level => exact marginInv_signalLevel l level hs
  | seed l rx => exact marginInv_seedLoaded l rx hs
  | anchor l rx => exact marginInv_anchorMatch l rx hs
  | verify l rx => exact marginInv_verifyWord l rx hs
  | word l rx above written => exact marginInv_lockedWord l rx above written hs
  | write => rwa [State.writeCompletion_margin]
  | gateTimer l => rwa [State.gateExpiry_margin]
  | settle midWord => exact marginInv_settleExpiry midWord hs
  | lockWait => exact marginInv_lockWaitExpiry hs

/-! ### Requests -/

theorem appliedDwell_inRange (n : Nat) :
    64 ≤ appliedDwell n ∧ appliedDwell n < 2 ^ 32 ∧ appliedDwell n % 32 = 0 := by
  unfold appliedDwell clampNat roundUp32
  omega

theorem clampInt_bounds {lo hi : Int} (h : lo ≤ hi) (n : Int) : lo ≤ clampInt lo hi n ∧ clampInt lo hi n ≤ hi := by
  unfold clampInt
  omega

/-- The applied count keeps every point of the list at most 31 (R130). -/
theorem appliedCount_inRange {start : Int} {step : Nat} (count : Nat) (hstart : start ≤ 31) :
    1 ≤ appliedCount start step count ∧ appliedCount start step count ≤ 64 ∧
      start + ((appliedCount start step count - 1 : Nat) : Int) * (step : Int) ≤ 31 := by
  obtain ⟨hlo, hhi⟩ := clampNat_bounds (lo := 1) (hi := 64) (by decide) count
  have hroom : ((31 - start).toNat / step) * step ≤ (31 - start).toNat := Nat.div_mul_le_self _ _
  have hmin : appliedCount start step count = min (clampNat 1 64 count) ((31 - start).toNat / step + 1) := rfl
  generalize (31 - start).toNat / step = steps at hroom hmin
  have hle : (appliedCount start step count - 1) * step ≤ steps * step := Nat.mul_le_mul_right _ (by omega)
  have hcast : ((appliedCount start step count - 1 : Nat) : Int) * (step : Int) ≤ 31 - start := by
    have : (((appliedCount start step count - 1) * step : Nat) : Int) ≤ ((31 - start).toNat : Int) :=
      Int.ofNat_le.2 (hle.trans hroom)
    rw [Int.natCast_mul, Int.toNat_of_nonneg (by omega)] at this
    exact this
  exact ⟨by omega, by omega, by omega⟩

theorem Plan.applied_inRange {p : Plan} (h : p.lanes ≠ 0) : p.applied.InRange := by
  obtain ⟨hlo, hhi⟩ := clampInt_bounds (lo := -32) (hi := 31) (by decide) p.start
  obtain ⟨hstep, hstep'⟩ := clampNat_bounds (lo := 1) (hi := 16) (by decide) p.step
  obtain ⟨hcount, hcount', hlast⟩ := appliedCount_inRange (step := clampNat 1 16 p.step) p.count hhi
  obtain ⟨hdwell, hdwell', hmult⟩ := appliedDwell_inRange p.dwell
  exact ⟨h, hlo, hstep, hstep', hcount, hcount', hlast, hdwell, hdwell', hmult, (clampNat_bounds (by decide) _).2⟩

theorem PointSettings.applied_inRange (ps : PointSettings) : ps.applied.InRange := by
  obtain ⟨hlo, hhi⟩ := clampInt_bounds (lo := -32) (hi := 31) (by decide) ps.offset
  obtain ⟨hdwell, hdwell', hmult⟩ := appliedDwell_inRange ps.dwell
  exact ⟨hlo, hhi, (clampNat_bounds (by decide) _).2, hmult, Nat.lt_of_lt_of_le (by decide) hdwell, hdwell'⟩

theorem Margin.inv_spotStart {m : Margin} {ps : PointSettings} (h : m.Inv) (hps : ps.InRange) : (m.spotStart ps).Inv := by
  have hpoint := Point.begin_inRange hps
  obtain ⟨-, hstate, hplan, htables⟩ := h
  unfold Margin.spotStart
  split
  · exact ⟨rfl, hpoint, hplan, htables⟩
  · exact ⟨rfl, hpoint, hplan, htables⟩
  · next p sw hst =>
    rw [hst] at hstate
    exact ⟨rfl, ⟨hpoint, hstate.2.1⟩, hplan, htables⟩
  · next p sw hst =>
    rw [hst] at hstate
    exact ⟨rfl, ⟨hpoint, hstate.2⟩, hplan, htables⟩
  · next p w hst =>
    rw [hst] at hstate
    exact ⟨rfl, ⟨hpoint, hstate.2⟩, hplan, htables⟩

theorem Margin.inv_sweepStart {m : Margin} (h : m.Inv) : m.sweepStart.Inv := by
  obtain ⟨hsampler, hstate, hplan, htables⟩ := h
  unfold Margin.sweepStart
  split
  · exact Margin.inv_beginPass ⟨hplan, htables⟩ hplan
  · next p hst =>
    rw [hst] at hstate hsampler
    exact ⟨hsampler, ⟨hstate, hplan⟩, hplan, htables⟩
  · next p sw hst =>
    refine Margin.inv_beginSweepPoint false ?_ (Sweep.firstPoint_inRange hplan _)
    exact List.foldlRecOn _ _ (motive := Margin.StoreInRange) ⟨hplan, htables⟩ fun n hn l _ =>
      Margin.storeInRange_rebuild _ l hn hplan
  · next p sw hst =>
    rw [hst] at hstate hsampler
    exact ⟨hsampler, ⟨hstate.1, hplan⟩, hplan, htables⟩
  · next p w hst =>
    rw [hst] at hstate hsampler
    exact ⟨hsampler, ⟨hstate.1, hplan⟩, hplan, htables⟩

theorem RequestEffect.marginInv {s t : State} (h : RequestEffect s t) (hs : s.margin.Inv) : t.margin.Inv := by
  cases h with
  | laneSet =>
    refine marginInv_transition _ ?_
    rwa [State.onLanes_margin]
  | chkHold | chkRelease => exact marginInv_transition _ hs
  | gateStop => rwa [foldl_margin (f := fun s l => s.stopGate l) fun s l => State.stopGate_margin l s]
  | gateStart => rwa [foldl_margin (f := fun s l => s.startGate _ l) fun _ _ => rfl]
  | captureSet => rwa [foldl_margin (f := fun s l => s.modCapture l _) fun _ _ => rfl]
  | genSet | genInsert | chkSet => rwa [State.onLanes_margin]
  | plan p hp => exact ⟨hs.1, hs.2.1, Plan.applied_inRange hp, hs.2.2.2⟩
  | sweepStart => exact Margin.inv_sweepStart hs
  | sweepStop => exact Margin.inv_idle hs.storeInRange
  | spotStart ps => exact Margin.inv_spotStart hs (PointSettings.applied_inRange ps)
  | _ => exact hs

/-- Settles O60: a point begins from settings in range with the sampler at its place, goes on within its range, and its
finish begins the next place of its plan or leaves the sampler at home. -/
theorem stepKeepsMarginUnit : Obligations.StepKeepsMarginUnit := fun _ _ hs hstep =>
  step_keeps (P := fun s => s.margin.Inv) (fun _ _ h => h) (fun _ _ h => h) (fun _ _ h hs => h.marginInv hs)
    (fun _ _ h hs => h.marginInv hs) hs hstep

end Sys2Proof.Machine

/-! The pattern store through a step, and the lanes that do not exist (O56). -/

namespace Sys2Proof.Machine

/-! ### Regions (R5 to R8) -/

theorem Store.region_of_ids {st : Store} {id : Nat} {r : Region} (h : st.region id = some r) : 16 ≤ id ∧ id < 32 := by
  unfold Store.region at h
  split at h
  · assumption
  · cases h

theorem Store.region_setRegion (st : Store) (id k : Nat) (r : Option Region) :
    (st.setRegion id r).region k = if k = id ∧ 16 ≤ id ∧ id < 32 then r else st.region k := by
  unfold Store.setRegion
  by_cases hid : 16 ≤ id ∧ id < 32
  · rw [dif_pos hid]
    by_cases hk : 16 ≤ k ∧ k < 32
    · simp only [Store.region, dif_pos hk, Vector.getElem_set]
      by_cases h : k = id
      · simp [h, hid]
      · rw [if_neg (by omega), if_neg fun h' => h h'.1]
    · simp only [Store.region, dif_neg hk]
      rw [if_neg (by omega)]
  · rw [dif_neg hid, if_neg fun h => hid h.2]

theorem Store.memory_setRegion (st : Store) (id : Nat) (r : Option Region) : (st.setRegion id r).memory = st.memory := by
  unfold Store.setRegion
  split <;> rfl

theorem Region.meets_comm (a b : Region) : a.meets b = b.meets a := Bool.and_comm _ _

/-- A region that clashes with none meets no other defined region (R7). -/
theorem Store.apart_of_clashes {st : Store} {id k : Nat} {r other : Region} (h : st.clashes id r = false) (hk : k ≠ id)
    (hother : st.region k = some other) : r.meets other = false := by
  obtain ⟨hlo, hhi⟩ := Store.region_of_ids hother
  have hk' : k - 16 + 16 = k := by omega
  have := List.any_eq_false.1 h (k - 16) (List.mem_range.2 (by omega))
  simpa [hk', hk, hother] using this

/-- The store's own part of the invariant: canonical memory, regions in range and apart. -/
def Store.Inv (st : Store) : Prop :=
  Memory.wf st.memory ∧ (∀ id r, st.region id = some r → r.InRange) ∧
  ∀ i j a b, i ≠ j → st.region i = some a → st.region j = some b → a.meets b = false

/-- Every configured pattern id names a pattern. -/
def State.NamesPatterns (s : State) : Prop :=
  ∀ l, s.store.checkPattern (s.lane l).gen.pattern = none ∧ s.store.checkPattern (s.lane l).chk.config.pattern = none

theorem State.storeInv_iff (s : State) : s.StoreInv ↔ s.store.Inv ∧ s.NamesPatterns := by
  unfold State.StoreInv Store.Inv State.NamesPatterns
  constructor
  · rintro ⟨h1, h2, h3, h4⟩
    exact ⟨⟨h1, h2, h3⟩, h4⟩
  · rintro ⟨⟨h1, h2, h3⟩, h4⟩
    exact ⟨h1, h2, h3, h4⟩

theorem Store.inv_define {st : Store} {id : Nat} {r : Region} (h : st.Inv) (hr : r.InRange)
    (hfree : st.clashes id r = false) : (st.setRegion id (some r)).Inv := by
  obtain ⟨hwf, hrange, hapart⟩ := h
  refine ⟨by rwa [Store.memory_setRegion], fun k q hq => ?_, fun i j a b hij ha hb => ?_⟩
  · rw [Store.region_setRegion] at hq
    split at hq
    · cases hq
      exact hr
    · exact hrange k q hq
  · rw [Store.region_setRegion] at ha hb
    split at ha
    · next hi =>
      cases ha
      rw [if_neg fun hj => hij (hi.1.trans hj.1.symm)] at hb
      exact Store.apart_of_clashes hfree (fun h => hij (hi.1.trans h.symm)) hb
    · split at hb
      · next hj =>
        cases hb
        rw [Region.meets_comm]
        exact Store.apart_of_clashes hfree (fun h => hij (h.trans hj.1.symm)) ha
      · exact hapart i j a b hij ha hb

theorem Store.inv_delete {st : Store} (id : Nat) (h : st.Inv) : (st.setRegion id none).Inv := by
  obtain ⟨hwf, hrange, hapart⟩ := h
  have hold {k : Nat} {q : Region} (hq : (st.setRegion id none).region k = some q) : st.region k = some q := by
    rw [Store.region_setRegion] at hq
    split at hq
    · cases hq
    · exact hq
  exact ⟨by rwa [Store.memory_setRegion], fun k q hq => hrange k q (hold hq),
    fun i j a b hij ha hb => hapart i j a b hij (hold ha) (hold hb)⟩

/-- The bytes of a region's extent lie within the memory (R5). -/
theorem Region.extent_le {r : Region} (h : r.InRange) : 8 * r.base + r.bytes ≤ Config.memoryBytes := by
  obtain ⟨hmin, -, hlast⟩ := h
  unfold Region.last Region.words at hlast
  unfold Region.bytes Region.words
  have : Config.memoryBytes = 32768 := rfl
  omega

theorem Store.inv_write {st : Store} {id off : Nat} {data : List Byte} {r : Region} (h : st.Inv)
    (hr : st.region id = some r) (hfit : off + data.length ≤ r.bytes) :
    Store.Inv { st with memory := writeBytes st.memory (8 * r.base + off) data } := by
  obtain ⟨hwf, hrange, hapart⟩ := h
  refine ⟨wf_writeBytes hwf ?_, hrange, hapart⟩
  have := Region.extent_le (hrange id r hr)
  omega

theorem Store.inv_initial : Store.initial.Inv := by
  have hnone (id : Nat) : Store.initial.region id = none := by
    unfold Store.region Store.initial
    split
    · exact Vector.getElem_replicate _
    · rfl
  refine ⟨wf_reset, ?_, ?_⟩
  · intro id r h
    rw [hnone] at h
    cases h
  · intro i j a b _ h
    rw [hnone] at h
    cases h

theorem Store.region_lineReset (st : Store) (id : Nat) : st.lineReset.region id = none := by
  unfold Store.region Store.lineReset
  split
  · exact Vector.getElem_replicate _
  · rfl

theorem Store.inv_lineReset {st : Store} (h : st.Inv) : st.lineReset.Inv := by
  refine ⟨h.1, ?_, ?_⟩
  · intro id r h
    rw [Store.region_lineReset] at h
    cases h
  · intro i j a b _ h
    rw [Store.region_lineReset] at h
    cases h

/-! ### Configured ids (R6) -/

theorem laneSetWhere_eq_zero {p : Lane → Bool} (h : laneSetWhere p = 0) (l : Lane) : p l = false := by
  rw [← getLsbD_laneSetWhere p l, h]
  exact BitVec.getLsbD_zero

/-- No configuration names an id that is not referenced (R6). -/
theorem State.ne_of_not_referenced {s : State} {id : Nat} (h : s.referenced id = false) (l : Lane) :
    (s.lane l).gen.pattern ≠ id ∧ (s.lane l).chk.config.pattern ≠ id := by
  obtain ⟨hg, hc⟩ := Bool.or_eq_false_iff.1 h
  have hgen := laneSetWhere_eq_zero (p := fun l => (s.lane l).gen.pattern == id) (bne_eq_false_iff_eq.1 hg) l
  have hchk := laneSetWhere_eq_zero (p := fun l => (s.lane l).chk.config.pattern == id) (bne_eq_false_iff_eq.1 hc) l
  exact ⟨by simpa using hgen, by simpa using hchk⟩

/-- An id names a pattern as before where its region is as before, or now defined. -/
theorem Store.checkPattern_mono {st st' : Store} {id : Nat} (h : st.checkPattern id = none)
    (hr : (st.region id).isSome = true → (st'.region id).isSome = true) : st'.checkPattern id = none := by
  unfold Store.checkPattern at h ⊢
  split
  · rfl
  · next h1 =>
    rw [if_neg h1] at h
    split
    · next h2 =>
      rw [if_pos h2] at h
      split at h
      · next hsome => rw [if_pos (hr hsome)]
      · cases h
    · next h2 =>
      rw [if_neg h2] at h
      cases h

theorem State.namesPatterns_mono {s t : State} (h : s.NamesPatterns) (hids : ∀ l, (s.lane l).KeepsIds (t.lane l))
    (hr : ∀ l, ∀ id, id = (s.lane l).gen.pattern ∨ id = (s.lane l).chk.config.pattern →
      (s.store.region id).isSome = true → (t.store.region id).isSome = true) : t.NamesPatterns := by
  intro l
  obtain ⟨hgen, hchk⟩ := hids l
  rw [hgen, hchk]
  exact ⟨Store.checkPattern_mono (h l).1 (hr l _ (.inl rfl)), Store.checkPattern_mono (h l).2 (hr l _ (.inr rfl))⟩

/-- With the store as it was and every id kept, the invariant stays. -/
theorem State.storeInv_of_keeps {s t : State} (h : s.StoreInv) (hst : t.store = s.store)
    (hids : ∀ l, (s.lane l).KeepsIds (t.lane l)) : t.StoreInv := by
  obtain ⟨hstore, hnames⟩ := s.storeInv_iff.1 h
  exact t.storeInv_iff.2 ⟨hst.symm ▸ hstore,
    State.namesPatterns_mono hnames hids fun _ _ _ hr => by rwa [hst]⟩

theorem Touches.storeInv {L : Lane → Prop} {F : Lane → HistoryFlag → Prop} {s t : State} (h : Touches L F s t)
    (hs : s.StoreInv) : t.StoreInv := State.storeInv_of_keeps hs h.sameBase.store h.keepsIds

theorem State.onLanes_store (b : LaneSet) (f : LaneState → LaneState) (s : State) : (s.onLanes b f).store = s.store :=
  (sameBase_onLanes b f s).store

/-- A configuration of the named lanes with an id that names a pattern keeps the invariant. -/
theorem State.storeInv_onLanes {s : State} (b : LaneSet) {f : LaneState → LaneState} (h : s.StoreInv)
    (hf : ∀ x : LaneState,
      s.store.checkPattern x.gen.pattern = none → s.store.checkPattern x.chk.config.pattern = none →
      s.store.checkPattern (f x).gen.pattern = none ∧ s.store.checkPattern (f x).chk.config.pattern = none) :
    (s.onLanes b f).StoreInv := by
  obtain ⟨hstore, hnames⟩ := s.storeInv_iff.1 h
  rw [State.storeInv_iff, State.onLanes_store]
  refine ⟨hstore, fun l => ?_⟩
  rw [State.onLanes_store, State.onLanes_lane]
  split
  · exact hf _ (hnames l).1 (hnames l).2
  · exact hnames l

theorem Generator.configure_pattern (pattern : Nat) (pol : Polarity) (src : ShapingSource) (t : Triple)
    (g : Generator) : (g.configure pattern pol src t).pattern = pattern := by
  unfold Generator.configure
  dsimp only
  split <;> rfl

theorem keepsIds_foldl {β : Type} {f : State → β → State} (h : ∀ (s : State) x l, (s.lane l).KeepsIds ((f s x).lane l))
    (xs : List β) (s : State) (l : Lane) : (s.lane l).KeepsIds ((xs.foldl f s).lane l) :=
  foldl_keeps (fun s t : State => (s.lane l).KeepsIds (t.lane l)) (fun _ => .refl _) (fun _ _ _ => .trans) f
    (fun s x => h s x l) xs s

theorem foldl_store {β : Type} {f : State → β → State} (h : ∀ s x, (f s x).store = s.store) (xs : List β) (s : State) :
    (xs.foldl f s).store = s.store :=
  foldl_keeps (fun s t : State => t.store = s.store) (fun _ => rfl) (fun _ _ _ h h' => h'.trans h) f h xs s

theorem RequestEffect.storeInv {s t : State} (h : RequestEffect s t) (hs : s.StoreInv) : t.StoreInv := by
  obtain ⟨hstore, hnames⟩ := s.storeInv_iff.1 hs
  cases h with
  | define id r hr hfree href =>
    refine (State.storeInv_iff _).2 ⟨Store.inv_define hstore hr hfree,
      State.namesPatterns_mono hnames (fun _ => .refl _) fun l k _ hk => ?_⟩
    rw [Store.region_setRegion]
    split
    · rfl
    · exact hk
  | delete id href =>
    refine (State.storeInv_iff _).2 ⟨Store.inv_delete id hstore,
      State.namesPatterns_mono hnames (fun _ => .refl _) fun l k hkey hk => ?_⟩
    obtain ⟨hgen, hchk⟩ := State.ne_of_not_referenced href l
    rw [Store.region_setRegion, if_neg fun h => hkey.elim (fun hg => hgen (hg ▸ h.1)) fun hc => hchk (hc ▸ h.1)]
    exact hk
  | write id off data r hr hfit =>
    exact (State.storeInv_iff _).2 ⟨Store.inv_write hstore hr hfit,
      State.namesPatterns_mono hnames (fun _ => .refl _) fun _ _ _ hk => hk⟩
  | genSet b pattern pol src tr hb hp =>
    refine State.storeInv_onLanes b hs fun x hgen hchk => ⟨?_, hchk⟩
    rwa [Generator.configure_pattern]
  | chkSet b cfg hb hp => exact State.storeInv_onLanes b hs fun x hgen hchk => ⟨hgen, hp⟩
  | genInsert => exact State.storeInv_onLanes _ hs fun _ hgen hchk => ⟨hgen, hchk⟩
  | genRead l n =>
    refine State.storeInv_of_keeps hs rfl (keepsIds_modLane (fun _ => ?_) s)
    exact ⟨rfl, rfl⟩
  | laneSet => exact (touches_applyLaneSet ..).storeInv hs
  | chkHold => exact (touches_hold ..).storeInv hs
  | chkRelease => exact (touches_release ..).storeInv hs
  | gateStop => exact (touches_gateStop ..).storeInv hs
  | gateStart b args =>
    exact State.storeInv_of_keeps hs (foldl_store (f := fun s l => s.startGate args l) (fun _ _ => rfl) _ s)
      (keepsIds_foldl (f := fun s l => s.startGate args l)
        (fun s _ => keepsIds_modLane (f := LaneState.startGate args s.uptime) (fun _ => ⟨rfl, rfl⟩) s) _ s)
  | captureSet b mode quota =>
    exact State.storeInv_of_keeps hs (foldl_store (f := fun s l => s.modCapture l _) (fun _ _ => rfl) _ s)
      (keepsIds_foldl (f := fun s l => s.modCapture l _) (fun _ _ _ => .refl _) _ s)
  | _ => exact hs

theorem State.freshLanes_lane (s : State) (l : Lane) : s.freshLanes[l] = .initial (s.lane l).sd := by
  simp [State.freshLanes, State.lane]

/-- Pattern 7 is a fixed pattern, whatever the store. -/
theorem Store.checkPattern_seven (st : Store) : st.checkPattern 7 = none := rfl

/-- Fresh lanes name fixed patterns. -/
theorem State.namesPatterns_fresh {s t : State} (h : t.lanes = s.freshLanes) : t.NamesPatterns := by
  intro l
  have hl : t.lane l = .initial (s.lane l).sd := by rw [← State.freshLanes_lane, ← h]; rfl
  rw [hl]
  exact ⟨Store.checkPattern_seven _, Store.checkPattern_seven _⟩

theorem keepsIds_generatorWord (st : Store) (x : LaneState) : x.KeepsIds (x.generatorWord st) := by
  refine ⟨?_, rfl⟩
  unfold LaneState.generatorWord Generator.beginWord
  dsimp only
  split <;> rfl

theorem EventEffect.storeInv {s t : State} (h : EventEffect s t) (hs : s.StoreInv) : t.StoreInv := by
  obtain ⟨hstore, hnames⟩ := s.storeInv_iff.1 hs
  obtain ⟨st, rfl | rfl⟩ | rfl | rfl | ⟨l, rfl⟩ | h := h.touches
  · exact (State.storeInv_iff _).2 ⟨Store.inv_initial, State.namesPatterns_fresh (s := s) rfl⟩
  · exact (State.storeInv_iff _).2 ⟨Store.inv_lineReset hstore, State.namesPatterns_fresh (s := s) rfl⟩
  · exact (State.storeInv_iff _).2 ⟨hstore, State.namesPatterns_fresh (s := s) rfl⟩
  · exact hs
  · exact State.storeInv_of_keeps hs rfl (keepsIds_modLane (keepsIds_generatorWord s.store) s)
  · exact h.storeInv hs

/-! ### Lanes that do not exist (R159) -/

/-- The lane, its history and its capture settings stand at their reset values, but for the level of the SD pin. -/
def State.RestsAt (s : State) (l : Lane) : Prop :=
  s.lane l = .initial (s.lane l).sd ∧ s.history[l] = 0 ∧ s.log.lanes[l] = CaptureLog.initial.lanes[l]

theorem CaptureLog.initial_lane (l : Lane) :
    CaptureLog.initial.lanes[l] = { mode := .off, quota := 64, quotaCount := 0, slot := none } := by
  revert l
  decide

theorem State.RestsAt.slot {s : State} {l : Lane} (h : s.RestsAt l) : s.log.lanes[l].slot = none := by
  rw [h.2.2, CaptureLog.initial_lane]

/-- What keeps the lane, its history and its capture settings keeps it at rest. -/
theorem State.RestsAt.of_eq {s t : State} {l : Lane} (h : s.RestsAt l) (hl : t.lane l = s.lane l)
    (hh : t.history[l] = s.history[l]) (hc : t.log.lanes[l] = s.log.lanes[l]) : t.RestsAt l := by
  unfold State.RestsAt
  rw [hl, hh, hc]
  exact h

theorem State.setFlag_history_ne {l k : Lane} (h : l ≠ k) (f : HistoryFlag) (s : State) :
    (s.setFlag l f).history[k] = s.history[k] := by
  unfold State.setFlag
  simp only [Fin.getElem_fin, Vector.getElem_set, Fin.val_inj, if_neg h]

theorem State.grantTo_history_ne {l k : Lane} (h : l ≠ k) (s : State) : (s.grantTo l).history[k] = s.history[k] := by
  unfold State.grantTo State.discard State.missCandidate
  dsimp only
  split_ifs
  · exact State.setFlag_history_ne h _ _
  · exact State.setFlag_history_ne h _ _
  · rfl

theorem State.grantTo_captureLane_ne {l k : Lane} (h : l ≠ k) (s : State) :
    (s.grantTo l).log.lanes[k] = s.log.lanes[k] := by
  rw [State.grantTo_log]
  split
  · rw [CaptureLog.set_lane, if_neg h]
  · rfl

section
variable {L : Lane → Prop} {F : Lane → HistoryFlag → Prop} {s t : State} {l : Lane}

theorem Micro.restsAt (h : Micro L F s t) (hl : ¬L l) (hs : s.RestsAt l) : t.RestsAt l := by
  have hne {k : Lane} (hk : L k) : k ≠ l := fun h => hl (h ▸ hk)
  cases h with
  | lane k f hk => exact hs.of_eq (State.modLane_lane_ne (hne hk) f s) rfl rfl
  | flag k f hk => exact hs.of_eq rfl (State.setFlag_history_ne (hne hk) f s) rfl
  | notice n => exact hs
  | fill k cand hk =>
    refine hs.of_eq rfl rfl ?_
    rw [State.fillSlot, State.modCapture_captureLane, if_neg (hne hk)]
  | grant k hp hf =>
    have hkl : k ≠ l := fun h => by
      subst h
      rw [CaptureLog.slotFull, hs.slot] at hf
      cases hf
    refine hs.of_eq ?_ (State.grantTo_history_ne hkl s) (State.grantTo_captureLane_ne hkl s)
    rw [State.grantTo_lane, if_neg fun h => hkl h.1]
  | enter k policy cand hp hc =>
    have hkl : k ≠ l := fun h => by
      subst h
      rw [hs.slot] at hc
      cases hc
    refine hs.of_eq rfl rfl ?_
    unfold CaptureLog.enter
    rw [State.withLog_log, CaptureLog.set_lane, if_neg hkl]
  | margin => exact hs

/-- A lane at rest that an event is not about stays at rest. -/
theorem Touches.restsAt (h : Touches L F s t) (hl : ¬L l) (hs : s.RestsAt l) : t.RestsAt l :=
  h.keeps (R := fun s t => s.RestsAt l → t.RestsAt l) (fun _ h => h) (fun _ _ _ h h' x => h' (h x))
    (fun _ _ h => h.restsAt hl) hs

end

/-- A request may name existing lanes only. -/
theorem State.exists_of_named {s : State} {b : LaneSet} {l : Lane} (h : s.namesAbsent b = false) (hl : l ∈ lanesOf b) :
    s.Exists l := by
  rw [mem_lanesOf] at hl
  have hzero : b &&& ~~~strapLanes s.straps = 0 := by simpa [State.namesAbsent] using h
  have hbit : (b &&& ~~~strapLanes s.straps).getLsbD l.val = false := by
    rw [hzero]
    exact BitVec.getLsbD_zero
  rw [BitVec.getLsbD_and, hl, Bool.true_and, BitVec.getLsbD_not] at hbit
  have hstrap : (strapLanes s.straps).getLsbD l.val = true := by simpa [l.isLt] using hbit
  unfold State.Exists
  unfold strapLanes at hstrap
  unfold strapLaneCount
  split at hstrap
  · next h => rw [if_pos h]; exact l.isLt
  · next h =>
    rw [if_neg h]
    have hfour : ∀ l : Lane, (0x0F : LaneSet).getLsbD l.val = true → l.val < 4 := by decide
    exact hfour l hstrap

theorem Touches.absentInv {L : Lane → Prop} {F : Lane → HistoryFlag → Prop} {s t : State} (h : Touches L F s t)
    (hL : ∀ l, L l → s.Exists l) (hs : s.AbsentInv) : t.AbsentInv := by
  intro l hl
  rw [State.Exists, h.sameBase.straps] at hl
  exact h.restsAt (fun hLl => hl (hL l hLl)) (hs l hl)

/-- A request that changes named lanes only leaves the absent ones at rest. -/
theorem State.absentInv_of_named {s t : State} {b : LaneSet} (hs : s.AbsentInv) (hb : s.namesAbsent b = false)
    (hstraps : t.straps = s.straps)
    (h : ∀ l, l ∉ lanesOf b → t.lane l = s.lane l ∧ t.history[l] = s.history[l] ∧ t.log.lanes[l] = s.log.lanes[l]) :
    t.AbsentInv := by
  intro l hl
  rw [State.Exists, hstraps] at hl
  obtain ⟨hlane, hhist, hcap⟩ := h l fun hmem => hl (State.exists_of_named hb hmem)
  exact State.RestsAt.of_eq (hs l hl) hlane hhist hcap

theorem foldl_history {β : Type} {f : State → β → State} (h : ∀ s x, (f s x).history = s.history) (xs : List β)
    (s : State) : (xs.foldl f s).history = s.history :=
  foldl_keeps (fun s t : State => t.history = s.history) (fun _ => rfl) (fun _ _ _ h h' => h'.trans h) f h xs s

theorem State.absentInv_onLanes {s : State} {b : LaneSet} (f : LaneState → LaneState) (hs : s.AbsentInv)
    (hb : s.namesAbsent b = false) : (s.onLanes b f).AbsentInv := by
  refine State.absentInv_of_named hs hb (sameBase_onLanes b f s).straps fun l hl => ⟨?_, ?_, ?_⟩
  · rw [State.onLanes_lane, if_neg fun h => hl ((mem_lanesOf b l).2 h)]
  · rw [State.onLanes, foldl_history (f := fun s l => s.modLane l f) fun _ _ => rfl]
  · rw [State.onLanes_log]

/-- A fold of updates of single lanes reaches only the lanes of its list. -/
theorem foldl_other {α : Type} {f : State → Lane → State} (g : State → α) {k : Lane}
    (h : ∀ s l, l ≠ k → g (f s l) = g s) (ls : List Lane) (hk : k ∉ ls) (s : State) : g (ls.foldl f s) = g s :=
  List.foldlRecOn ls f (motive := fun t => g t = g s) rfl fun t ht l hl => (h t l fun he => hk (he ▸ hl)).trans ht

theorem clearHistory_zero {b : LaneSet} {flags : HistorySet} {h : Vector HistorySet 8} {l : Lane} (hl : h[l] = 0) :
    (clearHistory b flags h)[l] = 0 := by
  simp only [clearHistory, Fin.getElem_fin, Vector.getElem_ofFn] at hl ⊢
  split
  · rw [hl]
    exact BitVec.zero_and
  · exact hl

theorem RequestEffect.absentInv {s t : State} (h : RequestEffect s t) (hs : s.AbsentInv) : t.AbsentInv := by
  cases h with
  | clearHistory b flags => exact fun l hl => ⟨(hs l hl).1, clearHistory_zero (hs l hl).2.1, (hs l hl).2.2⟩
  | laneSet b power rate loopback hb =>
    exact (touches_applyLaneSet ..).absentInv (fun l hl => State.exists_of_named hb hl) hs
  | chkHold b hb => exact (touches_hold ..).absentInv (fun l hl => State.exists_of_named hb hl) hs
  | chkRelease b hb => exact (touches_release ..).absentInv (fun l hl => State.exists_of_named hb hl) hs
  | gateStop b hb => exact (touches_gateStop ..).absentInv (fun l hl => State.exists_of_named hb hl) hs
  | genSet b pattern pol src tr hb => exact State.absentInv_onLanes _ hs hb
  | genInsert b m hb => exact State.absentInv_onLanes _ hs hb
  | chkSet b cfg hb => exact State.absentInv_onLanes _ hs hb
  | genRead l n hl =>
    exact fun k hk => State.RestsAt.of_eq (hs k hk) (State.modLane_lane_ne (fun h : l = k => hk (show s.Exists k from h ▸ hl)) _ s) rfl rfl
  | gateStart b args hb =>
    refine State.absentInv_of_named hs hb ?_ fun k hk => ⟨?_, ?_, ?_⟩
    · exact foldl_keeps (fun s t : State => t.straps = s.straps) (fun _ => rfl) (fun _ _ _ h h' => h'.trans h)
        (fun s l => s.startGate args l) (fun _ _ => rfl) _ s
    · exact foldl_other (f := fun s l => s.startGate args l) (fun s => s.lane k)
        (fun s l h => State.modLane_lane_ne h _ s) _ hk s
    · exact foldl_other (f := fun s l => s.startGate args l) (fun s => s.history[k]) (fun _ _ _ => rfl) _ hk s
    · refine foldl_other (f := fun s l => s.startGate args l) (fun s => s.log.lanes[k]) (fun s l h => ?_) _ hk s
      rw [State.startGate, State.modCapture_captureLane, if_neg h]
      rfl
  | captureSet b mode quota hb =>
    refine State.absentInv_of_named hs hb ?_ fun k hk => ⟨?_, ?_, ?_⟩
    · exact foldl_keeps (fun s t : State => t.straps = s.straps) (fun _ => rfl) (fun _ _ _ h h' => h'.trans h)
        (fun s l => s.modCapture l _) (fun _ _ => rfl) _ s
    · exact foldl_other (f := fun s l => s.modCapture l _) (fun s => s.lane k) (fun _ _ _ => rfl) _ hk s
    · exact foldl_other (f := fun s l => s.modCapture l _) (fun s => s.history[k]) (fun _ _ _ => rfl) _ hk s
    · refine foldl_other (f := fun s l => s.modCapture l _) (fun s => s.log.lanes[k]) (fun s l h => ?_) _ hk s
      rw [State.modCapture_captureLane, if_neg h]
  | _ => exact hs

/-! #### Events on a lane at rest -/

/-- An event about one lane leaves absent lanes at rest if it leaves its own lane at rest wherever that is absent. -/
theorem Touches.absentInv_event {F : Lane → HistoryFlag → Prop} {s t : State} {l : Lane}
    (h : Touches (· = l) F s t) (hs : s.AbsentInv) (hl : ¬s.Exists l → t.AbsentInv) : t.AbsentInv := by
  by_cases he : s.Exists l
  · exact h.absentInv (fun k hk => hk ▸ he) hs
  · exact hl he

section
variable {s : State} {l : Lane}

/-- The lane's checker is OFF and its gate IDLE. -/
theorem State.RestsAt.idle (h : s.RestsAt l) :
    (s.lane l).chk.phase = .off ∧ (s.lane l).gate.state = .idle ∧ (s.lane l).loopback = false ∧
      (s.lane l).gen.run = none := by
  rw [h.1]
  exact ⟨rfl, rfl, rfl, rfl⟩

theorem seedLoaded_off (rx : Reception) (h : (s.lane l).chk.phase = .off) : s.seedLoaded l rx = s := by
  simp only [State.seedLoaded, h]

theorem anchorMatch_off (rx : Reception) (h : (s.lane l).chk.phase = .off) : s.anchorMatch l rx = s := by
  simp only [State.anchorMatch, h]

theorem verifyWord_off (rx : Reception) (h : (s.lane l).chk.phase = .off) : s.verifyWord l rx = s := by
  simp only [State.verifyWord, h]

theorem lockedWord_off (rx : Reception) (above : List Bool) (written : Bool) (h : (s.lane l).chk.phase = .off) :
    s.lockedWord l rx above written = s := by
  simp only [State.lockedWord, h]

theorem gateExpiry_idle (h : (s.lane l).gate.state = .idle) : s.gateExpiry l = s := by
  simp only [State.gateExpiry, h]

theorem signalMove_off {x : LaneState} (l : Lane) (h : x.chk.phase = .off) : x.signalMove l = none := by
  have hst : x.chkState = .off := by rw [LaneState.chkState, h]; rfl
  unfold LaneState.signalMove
  rw [hst]
  split <;> trivial

/-- A generator that is OFF and a checker that does not listen meet no word. -/
theorem generatorWord_off (st : Store) {x : LaneState} (h : x.gen.run = none) : x.generatorWord st = x := by
  have hgen : x.gen.beginWord st x.pam4 = x.gen := by rw [Generator.beginWord, h]
  unfold LaneState.generatorWord
  rw [hgen, h]
  simp

end

theorem State.modLane_id {s : State} {l : Lane} {f : LaneState → LaneState} (h : f (s.lane l) = s.lane l) :
    s.modLane l f = s := by
  refine State.ext_fields rfl rfl rfl rfl rfl (State.lanes_ext fun k => ?_) rfl rfl rfl rfl rfl
  rw [State.modLane_lane]
  split
  · next hk => rw [← hk, h]
  · rfl

/-- The SD pin of an absent lane takes a level, and nothing else of the lane changes. -/
theorem absentInv_signalLevel {s : State} {l : Lane} (level : Bool) (hs : s.AbsentInv) (hl : ¬s.Exists l) :
    (s.signalLevel l level).AbsentInv := by
  obtain ⟨hphase, -, hloop, -⟩ := State.RestsAt.idle (hs l hl)
  have hsd : (s.modLane l fun x => { x with sd := level }).AbsentInv := by
    intro k hk
    refine ⟨?_, (hs k hk).2⟩
    rw [State.modLane_lane]
    split
    · next h =>
      subst h
      rw [(hs l hl).1]
      rfl
    · exact (hs k hk).1
  unfold State.signalLevel
  dsimp only
  split
  · exact hs
  · rw [State.modLane_lane_self, signalMove_off l (x := { s.lane l with sd := level }) hphase]
    split
    · exact hsd
    · exact (touches_grant (L := fun _ => False) (F := fun _ _ => False) _).absentInv (fun _ h => h.elim) hsd

/-- Fresh lanes, with the log at its reset values, stand at rest where the history is clear. -/
theorem State.absentInv_fresh {s t : State} (hlanes : t.lanes = s.freshLanes) (hlog : t.log = .initial)
    (hh : ∀ l, ¬t.Exists l → t.history[l] = 0) : t.AbsentInv := by
  intro l hl
  have hlane : t.lane l = .initial (s.lane l).sd := by rw [← State.freshLanes_lane, ← hlanes]; rfl
  refine ⟨?_, hh l hl, by rw [hlog]⟩
  rw [hlane]
  rfl

theorem EventEffect.absentInv {s t : State} (h : EventEffect s t) (hs : s.AbsentInv) : t.AbsentInv := by
  have rest {l : Lane} (hl : ¬s.Exists l) : s.RestsAt l := hs l hl
  have none_of {F : Lane → HistoryFlag → Prop} {u : State} (h : Touches (fun _ => False) F s u) : u.AbsentInv :=
    h.absentInv (fun _ h => h.elim) hs
  cases h with
  | nothing | uptime => exact hs
  | powerOn | lineReset =>
    refine State.absentInv_fresh (s := s) rfl rfl fun l _ => ?_
    exact Vector.getElem_replicate _
  | softReset => exact State.absentInv_fresh (s := s) rfl rfl fun l hl => (hs l hl).2.1
  | generatorWord l =>
    by_cases hl : s.Exists l
    · exact fun k hk => State.RestsAt.of_eq (hs k hk) (State.modLane_lane_ne (fun h : l = k => hk (show s.Exists k from h ▸ hl)) _ s) rfl rfl
    · rwa [State.modLane_id (generatorWord_off s.store (rest hl).idle.2.2.2)]
  | signal l level =>
    exact (touches_signalLevel (L := (· = l)) (F := anyFlag) level s rfl trivial trivial).absentInv_event hs
      (absentInv_signalLevel level hs)
  | seed l rx =>
    refine (touches_seedLoaded (L := (· = l)) (F := anyFlag) rx s rfl trivial).absentInv_event hs fun hl => ?_
    rwa [seedLoaded_off rx (rest hl).idle.1]
  | anchor l rx =>
    refine (touches_anchorMatch (L := (· = l)) (F := anyFlag) rx s rfl trivial).absentInv_event hs fun hl => ?_
    rwa [anchorMatch_off rx (rest hl).idle.1]
  | verify l rx =>
    refine (touches_verifyWord (L := (· = l)) (F := anyFlag) rx s rfl trivial trivial).absentInv_event hs fun hl => ?_
    rwa [verifyWord_off rx (rest hl).idle.1]
  | word l rx above written =>
    refine (touches_lockedWord (L := (· = l)) (F := anyFlag) rx above written s rfl trivial trivial).absentInv_event hs fun hl => ?_
    rwa [lockedWord_off rx above written (rest hl).idle.1]
  | gateTimer l =>
    refine (touches_gateExpiry (L := (· = l)) (F := anyFlag) s rfl trivial).absentInv_event hs fun hl => ?_
    rwa [gateExpiry_idle (rest hl).idle.2.1]
  | write => exact none_of (F := anyFlag) (touches_writeCompletion s)
  | settle midWord => exact none_of (F := anyFlag) (touches_settleExpiry midWord s)
  | lockWait => exact none_of (F := anyFlag) (touches_lockWaitExpiry s)

/-- Settles O56: only the region requests, PATTERN_WRITE and the configurations reach the store's claim, each behind its
check; requests name existing lanes only, and an event on an absent lane finds its blocks off. -/
theorem stepKeepsStoreAndAbsentLanes : Obligations.StepKeepsStoreAndAbsentLanes :=
  ⟨fun _ _ hs hstep => step_keeps (P := State.StoreInv) (fun _ _ h => h) (fun _ _ h => h)
      (fun _ _ h hs => h.storeInv hs) (fun _ _ h hs => h.storeInv hs) hs hstep,
    fun _ _ hs hstep => step_keeps (P := State.AbsentInv) (fun _ _ h => h) (fun _ _ h => h)
      (fun _ _ h hs => h.absentInv hs) (fun _ _ h hs => h.absentInv hs) hs hstep⟩

end Sys2Proof.Machine

/-! One word's tally: the walk through its bits, the class of each errored bit, and the laws of the increments (O36). -/

namespace Sys2Proof.Machine

/-! ### Sums and counts -/

theorem sum_set_add {n : Nat} (v : Vector Nat n) (i : Fin n) (x : Nat) :
    (v.set i x).sum + v[i] = v.sum + x := by
  have hi : i.val < v.toList.length := by simp
  have hsplit : v.toList.sum = (v.toList.take i).sum + (v[i] + (v.toList.drop (i + 1)).sum) := by
    conv_lhs => rw [← List.take_append_drop i v.toList, List.sum_append, List.drop_eq_getElem_cons hi, List.sum_cons]
    rfl
  rw [← Vector.sum_toList, ← Vector.sum_toList, Vector.toList_set, List.sum_set, if_pos hi, hsplit]
  omega

theorem sum_increment {n : Nat} (v : Vector Nat n) (i : Fin n) : (v.set i (v[i] + 1)).sum = v.sum + 1 := by
  have := sum_set_add v i (v[i] + 1)
  omega

theorem sum_addBin (bins : Vector Nat 12) (k : Fin 12) : (addBin bins k).sum = bins.sum + 1 := sum_increment bins k

theorem getElem_addBin (bins : Vector Nat 12) (k b : Fin 12) :
    (addBin bins k)[b] = bins[b] + if b = k then 1 else 0 := by
  unfold addBin
  by_cases h : k = b
  · subst h
    simp
  · simp [Fin.val_inj, h, Ne.symm h]

/-- The number of indices below `n` that satisfy `p`. -/
def countBelow (n : Nat) (p : Nat → Bool) : Nat := ((List.range n).filter p).length

theorem toNat_eq_ite (b : Bool) : b.toNat = if b then 1 else 0 := by cases b <;> rfl

theorem countBelow_succ (n : Nat) (p : Nat → Bool) : countBelow (n + 1) p = countBelow n p + if p n then 1 else 0 := by
  rw [countBelow, List.range_succ, List.filter_append, List.length_append, List.filter_singleton, countBelow]
  cases p n <;> rfl

theorem countBelow_congr {n : Nat} {p q : Nat → Bool} (h : ∀ i, i < n → p i = q i) : countBelow n p = countBelow n q := by
  rw [countBelow, List.filter_congr fun i hi => h i (List.mem_range.1 hi), countBelow]

theorem countBelow_le (n : Nat) (p : Nat → Bool) : countBelow n p ≤ n :=
  (List.length_filter_le ..).trans_eq List.length_range

/-- Counting the entries that a partial function makes is counting the indices whose entry satisfies `p`. -/
theorem length_filter_filterMap {α : Type} (f : Nat → Option α) (p : α → Bool) (n : Nat) :
    (((List.range n).filterMap f).filter p).length = countBelow n fun i => (f i).any p := by
  rw [countBelow, ← List.countP_eq_length_filter, ← List.countP_eq_length_filter, List.countP_filterMap]
  refine List.countP_congr fun i _ => ?_
  cases f i <;> simp

/-- The first entry a partial function makes belongs to the first index that has one. -/
theorem filterMap_range_cons {α : Type} {f : Nat → Option α} {n : Nat} {a : α} {rest : List α}
    (h : (List.range n).filterMap f = a :: rest) : ∃ i, i < n ∧ f i = some a ∧ ∀ j, j < i → f j = none := by
  obtain ⟨l₁, i, l₂, hl, hnone, hi, -⟩ := List.filterMap_eq_cons_iff.1 h
  have hlen : l₁.length < (List.range n).length := by
    rw [hl, List.length_append, List.length_cons]
    omega
  have hget : (List.range n)[l₁.length] = i := by simp [hl]
  have hi' : l₁.length = i := by rw [← hget, List.getElem_range]
  refine ⟨i, ?_, hi, fun j hj => hnone j ?_⟩
  · rw [List.length_range] at hlen
    omega
  · have hj' : j < (List.range n).length := by omega
    have : (List.range n)[j] = l₁[j]'(by omega) := by
      simp only [hl]
      rw [List.getElem_append_left]
    rw [List.getElem_range] at this
    rw [this]
    exact List.getElem_mem _

/-! ### The walk (R64 to R66) -/

/-- The walk through the first `n` bits, where `err` says which are in error. -/
def walkTo (g : Nat) (t : Tracker) (err : Nat → Bool) : Nat → BurstWalk
  | 0 => { tracker := t, opened := 0, bins := Vector.replicate 12 0, first := none }
  | n + 1 => (walkTo g t err n).bit g n (err n)

theorem walkWord_eq (g : Nat) (t : Tracker) (errs : Word) : walkWord g t errs = walkTo g t errs.getMsbD 32 := by
  have h (n : Nat) : (List.range n).foldl (fun b i => b.bit g i (errs.getMsbD i))
      { tracker := t, opened := 0, bins := Vector.replicate 12 0, first := none } = walkTo g t errs.getMsbD n := by
    induction n with
    | zero => rfl
    | succ n ih => rw [List.range_succ, List.foldl_append, ih]; rfl
  exact h 32

section
variable (g : Nat) (t : Tracker) (err : Nat → Bool)

/-- The bit of index `i` opens a burst as the walk meets it. -/
def walkOpens (i : Nat) : Bool := err i && (walkTo g t err i).tracker == .closed

/-- A step of the walk, by the tracker and the bit. -/
theorem walkTo_succ (n : Nat) :
    walkTo g t err (n + 1) =
      match (walkTo g t err n).tracker, err n with
      | .closed, true => { walkTo g t err n with
          tracker := .opened 1 0, opened := (walkTo g t err n).opened + 1, first := (walkTo g t err n).first.or (some n) }
      | .closed, false => walkTo g t err n
      | .opened k _, true => { walkTo g t err n with tracker := .opened (min 1025 (k + 1)) 0 }
      | .opened k run, false =>
        if run < g then { walkTo g t err n with tracker := .opened k (run + 1) }
        else { walkTo g t err n with tracker := .closed, bins := addBin (walkTo g t err n).bins (burstBin k) } := rfl

/-- Bursts opened, and those open before, are bins filled, and those open after. -/
theorem walkTo_balance (n : Nat) :
    (walkTo g t err n).opened + t.openCount = (walkTo g t err n).bins.sum + (walkTo g t err n).tracker.openCount := by
  induction n with
  | zero =>
    have : (Vector.replicate 12 0 : Vector Nat 12).sum = 0 := by decide
    simp [walkTo, this]
  | succ n ih =>
    rw [walkTo_succ]
    rcases htr : (walkTo g t err n).tracker with _ | ⟨k, run⟩ <;> cases herr : err n <;> rw [htr] at ih <;> dsimp only
    · rwa [htr]
    · simp only [Tracker.openCount] at ih ⊢
      omega
    · split
      · exact ih
      · rw [sum_addBin]
        simp only [Tracker.openCount] at ih ⊢
        omega
    · exact ih

/-- The bursts opened are the bits that open one. -/
theorem walkTo_opened (n : Nat) : (walkTo g t err n).opened = countBelow n (walkOpens g t err) := by
  induction n with
  | zero => rfl
  | succ n ih =>
    rw [countBelow_succ, ← ih, walkTo_succ, walkOpens]
    rcases htr : (walkTo g t err n).tracker with _ | ⟨k, run⟩ <;> cases herr : err n <;> dsimp only
    · rfl
    · rfl
    · split <;> rfl
    · rfl

/-- The first burst opens at the first bit that opens one. -/
theorem walkTo_first (n : Nat) : (walkTo g t err n).first = (List.range n).find? (walkOpens g t err) := by
  induction n with
  | zero => rfl
  | succ n ih =>
    rw [List.range_succ, List.find?_append, ← ih, walkTo_succ, List.find?_singleton, walkOpens]
    rcases htr : (walkTo g t err n).tracker with _ | ⟨k, run⟩ <;> cases herr : err n <;> dsimp only
    · exact (Option.or_none ..).symm
    · rfl
    · split <;> exact (Option.or_none ..).symm
    · exact (Option.or_none ..).symm

/-- Each burst that closes goes into the bin of its errored bits. -/
theorem walkTo_bins (n : Nat) (b : Fin 12) :
    (walkTo g t err n).bins[b] = countBelow n fun i => (walkTo g t err (i + 1)).tracker == .closed &&
      match (walkTo g t err i).tracker with
      | .opened k _ => binTakes b k
      | .closed => false := by
  have hbin (k : Nat) : binTakes b k = decide (b = burstBin k) := Bool.eq_iff_iff.2 (by simp [binTakes_iff])
  induction n with
  | zero => simp [walkTo, countBelow]
  | succ n ih =>
    rw [countBelow_succ, ← ih]
    rw [walkTo_succ]
    rcases htr : (walkTo g t err n).tracker with _ | ⟨k, run⟩ <;> cases herr : err n <;> dsimp only
    · simp
    · simp
    · split
      · rfl
      · rw [getElem_addBin, hbin]
        simp
    · rfl

/-- What the tracker holds before the bit of index `n`: a burst whose last errored bit, or whose run before the word, is at
most `g` error-free bits back; or no burst, for want of one. -/
theorem walkTo_tracker (n : Nat) :
    (∀ k r, (walkTo g t err n).tracker = .opened k r → (r ≤ g ∨ n = 0) ∧
      ((∃ p, p < n ∧ err p = true ∧ p + 1 + r = n ∧ ∀ i, p < i → i < n → err i = false) ∨
       (∃ m run, t = .opened m run ∧ r = run + n ∧ ∀ i, i < n → err i = false))) ∧
    ((walkTo g t err n).tracker = .closed →
      (t = .closed ∧ ∀ i, i < n → err i = false) ∨ (∃ j, j + g < n ∧ ∀ i, j ≤ i → i < n → err i = false) ∨
      (∃ m run, t = .opened m run ∧ 0 < n ∧ g < run + n ∧ ∀ i, i < n → err i = false)) := by
  induction n with
  | zero =>
    refine ⟨fun k r h => ⟨.inr rfl, .inr ⟨k, r, h, rfl, ?_⟩⟩, fun h => .inl ⟨h, ?_⟩⟩
    · exact fun i hi => absurd hi (Nat.not_lt_zero i)
    · exact fun i hi => absurd hi (Nat.not_lt_zero i)
  | succ n ih =>
    obtain ⟨hopen, hclosed⟩ := ih
    have quiet {j : Nat} (herr : err n = false) (h : ∀ i, j ≤ i → i < n → err i = false) :
        ∀ i, j ≤ i → i < n + 1 → err i = false := fun i hj hi =>
      (Nat.lt_succ_iff_lt_or_eq.1 hi).elim (h i hj) fun he => he ▸ herr
    have quiet' (herr : err n = false) (h : ∀ i, i < n → err i = false) : ∀ i, i < n + 1 → err i = false := fun i hi =>
      quiet (j := 0) herr (fun i _ => h i) i (Nat.zero_le i) hi
    rw [walkTo_succ]
    rcases htr : (walkTo g t err n).tracker with _ | ⟨k, run⟩ <;> cases herr : err n <;> dsimp only
    · refine ⟨fun k r h => (by rw [htr] at h; cases h), fun _ => ?_⟩
      rcases hclosed htr with ⟨ht, h⟩ | ⟨j, hj, h⟩ | ⟨m, run, ht, hpos, hrun, h⟩
      · exact .inl ⟨ht, quiet' herr h⟩
      · exact .inr (.inl ⟨j, by omega, quiet herr h⟩)
      · exact .inr (.inr ⟨m, run, ht, by omega, by omega, quiet' herr h⟩)
    · refine ⟨fun k r h => ?_, fun h => by cases h⟩
      cases h
      exact ⟨.inl (Nat.zero_le g), .inl ⟨n, by omega, herr, rfl, fun i h1 h2 => by omega⟩⟩
    · obtain ⟨hr, hwhy⟩ := hopen k run htr
      split
      · next hlt =>
        refine ⟨fun k' r h => ?_, fun h => by cases h⟩
        cases h
        refine ⟨.inl hlt, ?_⟩
        rcases hwhy with ⟨p, hp, hperr, hrun, h⟩ | ⟨m, run', ht, hrun, h⟩
        · exact .inl ⟨p, by omega, hperr, by omega, quiet (j := p + 1) herr h⟩
        · exact .inr ⟨m, run', ht, by omega, quiet' herr h⟩
      · next hge =>
        refine ⟨fun k' r h => (by cases h), fun _ => ?_⟩
        rcases hwhy with ⟨p, hp, hperr, hrun, h⟩ | ⟨m, run', ht, hrun, h⟩
        · exact .inr (.inl ⟨p + 1, by omega, quiet (j := p + 1) herr h⟩)
        · exact .inr (.inr ⟨m, run', ht, by omega, by omega, quiet' herr h⟩)
    · refine ⟨fun k' r h => ?_, fun h => by cases h⟩
      cases h
      exact ⟨.inl (Nat.zero_le g), .inl ⟨n, by omega, herr, rfl, fun i h1 h2 => by omega⟩⟩

/-- The bits that open a burst as the walk meets them are those that R64 and R65 name. -/
theorem walkOpens_iff (i : Nat) : walkOpens g t err i = true ↔ t.OpensAt g err i := by
  obtain ⟨hopen, hclosed⟩ := walkTo_tracker g t err i
  unfold walkOpens Tracker.OpensAt
  rw [Bool.and_eq_true, beq_iff_eq]
  refine and_congr_right fun _ => ⟨hclosed, fun h => ?_⟩
  rcases htr : (walkTo g t err i).tracker with _ | ⟨k, run⟩
  · rfl
  · exfalso
    obtain ⟨hr, ⟨p, hp, hperr, hrun, hq⟩ | ⟨m, run', ht, hrun, hq⟩⟩ := hopen k run htr
    · have hno {P : Prop} (h : err p = false) : P := by rw [hperr] at h; cases h
      rcases h with ⟨-, h⟩ | ⟨j, hj, h⟩ | ⟨-, -, -, -, -, h⟩
      · exact hno (h p hp)
      · exact hno (h p (by omega) hp)
      · exact hno (h p hp)
    · rcases h with ⟨h, -⟩ | ⟨j, hj, -⟩ | ⟨m', run'', ht', hpos, hlt, -⟩
      · rw [ht] at h
        cases h
      · omega
      · rw [ht] at ht'
        cases ht'
        omega

end

/-! ### Contexts, filters and classes (R50, R63, R77, R79) -/

/-- Bit `b` of a bit's context is the expected bit `15 - b` places behind the first of its sixteen. -/
theorem getLsbD_contextWord (last : BitVec 15) (exp : Word) {i b : Nat} (hi : i < 32) (hb : b < 16) :
    (contextWord last exp i).getLsbD b = (last ++ exp).getMsbD (i + (15 - b)) := by
  rw [contextWord, BitVec.getLsbD_setWidth, BitVec.getLsbD_ushiftRight, BitVec.getMsbD_eq_getLsbD]
  have h1 : decide (b < 16) = true := decide_eq_true hb
  have h2 : decide (i + (15 - b) < 15 + 32) = true := decide_eq_true (by omega)
  have h3 : 31 - i + b = 15 + 32 - 1 - (i + (15 - b)) := by omega
  rw [h1, h2, h3, Bool.true_and]

theorem getMsbD_contextWord (last : BitVec 15) (exp : Word) {i k : Nat} (hi : i < 32) (hk : k < 16) :
    (contextWord last exp i).getMsbD k = (last ++ exp).getMsbD (i + k) := by
  have h1 : decide (k < 16) = true := decide_eq_true hk
  have h2 : 15 - (16 - 1 - k) = k := by omega
  rw [BitVec.getMsbD_eq_getLsbD, h1, Bool.true_and, getLsbD_contextWord last exp hi (by omega), h2]

theorem mem_filterList (k : Fin 16) : k ∈ filterList := by revert k; decide

theorem nodup_filterList : filterList.Nodup := by decide

/-- A filter matches a bit by its lane set, its direction set, and its value outside the mask (R77). -/
theorem matchesBit_iff (f : Filter) (l : Lane) (d : Direction) (ctx : BitVec 16) :
    f.matchesBit l d ctx = true ↔ f.lanes.getLsbD l.val = true ∧ f.directions.getLsbD d.bit = true ∧
      ∀ b, b < 16 → f.mask.getLsbD b = false → f.value.getLsbD b = ctx.getLsbD b := by
  unfold Filter.matchesBit
  rw [Bool.and_eq_true, Bool.and_eq_true, beq_iff_eq, and_assoc]
  refine and_congr_right fun _ => and_congr_right fun _ => ⟨fun h b hb hm => ?_, fun h => ?_⟩
  · have hbit : ((ctx ^^^ f.value) &&& ~~~f.mask).getLsbD b = false := by rw [h]; exact BitVec.getLsbD_zero
    rw [BitVec.getLsbD_and, BitVec.getLsbD_not, hm, decide_eq_true hb, BitVec.getLsbD_xor] at hbit
    exact (show ctx.getLsbD b = f.value.getLsbD b by simpa using hbit).symm
  · refine BitVec.eq_of_getLsbD_eq fun b hb => Eq.trans ?_ BitVec.getLsbD_zero.symm
    rw [BitVec.getLsbD_and, BitVec.getLsbD_not, BitVec.getLsbD_xor, decide_eq_true hb]
    cases hm : f.mask.getLsbD b with
    | true => simp
    | false => simp [h b hb hm]

theorem mem_matching {table : Vector (Option Filter) 16} {l : Lane} {d : Direction} {ctx : BitVec 16} {k : Fin 16} :
    k ∈ matching table l d ctx ↔ ∃ f, table[k] = some f ∧ f.matchesBit l d ctx = true := by
  unfold matching
  rw [List.mem_filter]
  simp only [mem_filterList, true_and]
  cases htable : table[k] with
  | none => exact ⟨fun h => (by cases h), fun ⟨f, h, _⟩ => (by cases h)⟩
  | some f => exact ⟨fun h => ⟨f, rfl, h⟩, fun ⟨f', h, hm⟩ => Option.some.inj h ▸ hm⟩

theorem nodup_matching (table : Vector (Option Filter) 16) (l : Lane) (d : Direction) (ctx : BitVec 16) :
    (matching table l d ctx).Nodup := nodup_filterList.filter _

/-- The class of an errored bit, by the filters that match it (R63, R79). -/
theorem classify_cases (table : Vector (Option Filter) 16) (l : Lane) (d : Direction) (ctx : BitVec 16) :
    (classify table l d ctx = .unmatched ↔ ∀ k, k ∉ matching table l d ctx) ∧
    (∀ k, classify table l d ctx = .filter k ↔ ∀ j, j ∈ matching table l d ctx ↔ j = k) ∧
    (classify table l d ctx = .overlap ↔
      ∃ j k, j ≠ k ∧ j ∈ matching table l d ctx ∧ k ∈ matching table l d ctx) := by
  have hnodup := nodup_matching table l d ctx
  unfold classify
  generalize matching table l d ctx = ks at hnodup
  rcases ks with _ | ⟨a, _ | ⟨b, rest⟩⟩
  · simp
  · refine ⟨by simp, fun k => ?_, by simp⟩
    simp only [FilterClass.filter.injEq, List.mem_singleton]
    exact ⟨fun h j => h ▸ Iff.rfl, fun h => (h a).1 rfl⟩
  · have hab : a ≠ b := fun h => (List.nodup_cons.1 hnodup).1 (h ▸ List.mem_cons_self ..)
    refine ⟨⟨fun h => (by cases h), fun h => absurd (List.mem_cons_self ..) (h a)⟩, fun k => ⟨fun h => (by cases h), ?_⟩,
      fun _ => ⟨a, b, hab, by simp, by simp⟩, fun _ => rfl⟩
    intro h
    exact absurd (((h a).1 (by simp)).trans ((h b).1 (by simp)).symm) hab

section
variable (table : Vector (Option Filter) 16) (l : Lane) (last : BitVec 15) (exp rcv : Word)

/-- The class of the bit of index `i` of a word, if it is in error. -/
def classAt (i : Nat) : FilterClass := classify table l (directionOf (exp.getMsbD i)) (contextWord last exp i)

theorem mem_matching_iff {i : Nat} (hi : i < 32) (k : Fin 16) :
    k ∈ matching table l (directionOf (exp.getMsbD i)) (contextWord last exp i) ↔
      FilterMatches table l last exp i k := by
  have hdir : (directionOf (exp.getMsbD i)).bit = if exp.getMsbD i then 0 else 1 := by
    cases exp.getMsbD i <;> rfl
  rw [mem_matching]
  refine exists_congr fun f => and_congr_right fun _ => ?_
  rw [matchesBit_iff, hdir]
  refine and_congr_right fun _ => and_congr_right fun _ => forall_congr' fun b => forall_congr' fun hb => ?_
  rw [getLsbD_contextWord last exp hi hb]

/-! ### The errored bits of a word (R49, R50) -/

/-- The bit of index `i` is in error. -/
def errsAt (i : Nat) : Bool := exp.getMsbD i != rcv.getMsbD i

theorem getMsbD_difference : (exp ^^^ rcv).getMsbD = errsAt exp rcv :=
  funext fun _ => BitVec.getMsbD_xor

theorem erroredBit_of_err {i : Nat} (h : errsAt exp rcv i = true) : erroredBit last exp rcv i =
    some { position := i + 1, direction := directionOf (exp.getMsbD i), context := contextWord last exp i } := by
  rw [erroredBit, if_neg (bne_iff_ne.1 h)]

theorem erroredBit_of_right {i : Nat} (h : errsAt exp rcv i = false) : erroredBit last exp rcv i = none := by
  rw [erroredBit, if_pos (bne_eq_false_iff_eq.1 h)]

theorem erroredBit_any (p : ErroredBit → Bool) (i : Nat) :
    (erroredBit last exp rcv i).any p = (errsAt exp rcv i &&
      p { position := i + 1, direction := directionOf (exp.getMsbD i), context := contextWord last exp i }) := by
  cases h : errsAt exp rcv i with
  | true => rw [erroredBit_of_err last exp rcv h]; rfl
  | false => rw [erroredBit_of_right last exp rcv h]; rfl

/-- The errored bits of a compared word. -/
def errorsOf : List ErroredBit := (List.range 32).filterMap (erroredBit last exp rcv)

/-- The errored bits that satisfy a test of direction and context, counted by their places. -/
theorem length_filter_errorsOf (p : ErroredBit → Bool) :
    ((errorsOf last exp rcv).filter p).length = countBelow 32 fun i => errsAt exp rcv i &&
      p { position := i + 1, direction := directionOf (exp.getMsbD i), context := contextWord last exp i } := by
  rw [errorsOf, length_filter_filterMap]
  exact countBelow_congr fun i _ => erroredBit_any last exp rcv p i

theorem length_errorsOf : (errorsOf last exp rcv).length = countBelow 32 (errsAt exp rcv) := by
  have h := length_filter_errorsOf last exp rcv fun _ => true
  rw [List.filter_true] at h
  rw [h]
  exact countBelow_congr fun i _ => Bool.and_true _

/-! ### Directions and classes counted (R61, R63) -/

/-- A count that each errored bit raises when it satisfies `p` rises by the bits that do. -/
theorem foldl_addBit {f : Counters → Nat} {p : ErroredBit → Bool}
    (h : ∀ c e, f (Counters.addBit table l c e) = f c + if p e then 1 else 0) (es : List ErroredBit) (c : Counters) :
    f (es.foldl (Counters.addBit table l) c) = f c + (es.filter p).length := by
  induction es generalizing c with
  | nil => rfl
  | cons e es ih =>
    rw [List.foldl_cons, ih, h, List.filter_cons]
    cases p e
    · rfl
    · simp only [if_true, List.length_cons]
      omega

/-- The classes of an errored bit and what each raises. -/
theorem addBit_filters (c : Counters) (e : ErroredBit) (k : Fin 16) :
    (Counters.addBit table l c e).filters[k] =
      c.filters[k] + if classify table l e.direction e.context == .filter k then 1 else 0 := by
  unfold Counters.addBit
  cases e.direction <;> dsimp only <;> split
  all_goals rename_i h
  all_goals simp only [h, Fin.getElem_fin, Vector.getElem_set, Fin.val_inj, beq_iff_eq, FilterClass.filter.injEq,
    reduceCtorEq, if_false, Nat.add_zero]
  all_goals split
  all_goals simp_all

theorem addBit_unmatched (c : Counters) (e : ErroredBit) :
    (Counters.addBit table l c e).unmatched =
      c.unmatched + if classify table l e.direction e.context == .unmatched then 1 else 0 := by
  unfold Counters.addBit
  cases e.direction <;> dsimp only <;> split
  all_goals rename_i h
  all_goals rw [h]
  all_goals rfl

theorem addBit_overlap (c : Counters) (e : ErroredBit) :
    (Counters.addBit table l c e).overlap =
      c.overlap + if classify table l e.direction e.context == .overlap then 1 else 0 := by
  unfold Counters.addBit
  cases e.direction <;> dsimp only <;> split
  all_goals rename_i h
  all_goals rw [h]
  all_goals rfl

/-- Every errored bit has one direction. -/
theorem addBit_directions (c : Counters) (e : ErroredBit) :
    (Counters.addBit table l c e).onesToZero + (Counters.addBit table l c e).zerosToOne =
      c.onesToZero + c.zerosToOne + if true then 1 else 0 := by
  unfold Counters.addBit
  cases e.direction <;> dsimp only <;> split <;> simp only [if_true] <;> omega

/-- Every errored bit has one class. -/
theorem addBit_classes (c : Counters) (e : ErroredBit) :
    (Counters.addBit table l c e).filters.sum + (Counters.addBit table l c e).unmatched +
        (Counters.addBit table l c e).overlap =
      c.filters.sum + c.unmatched + c.overlap + if true then 1 else 0 := by
  unfold Counters.addBit
  cases e.direction <;> dsimp only <;> split <;> simp only [if_true, sum_increment] <;> omega

end

/-! ### Symbols (R51, R62) -/

section
variable (pol : Polarity) (exp rcv : Word)

/-- The level distance of symbol `j` on the lane. -/
def symbolGap (j : Nat) : Nat := levelGap (laneLevel pol exp j) (laneLevel pol rcv j)

theorem levelGap_eq (a b : Nat) : levelGap a b = ((a : Int) - b).natAbs := by
  unfold levelGap
  split <;> omega

/-- A pair with one errored bit stands one level or three away, a pair with two errored bits two (R14, R51). -/
theorem symbolGap_weight (j : Nat) :
    (errsAt exp rcv (2 * j)).toNat + (errsAt exp rcv (2 * j + 1)).toNat =
      (symbolGap pol exp rcv j == 1).toNat + 2 * (symbolGap pol exp rcv j == 2).toNat +
        (symbolGap pol exp rcv j == 3).toNat ∧
    (errsAt exp rcv (2 * j) || errsAt exp rcv (2 * j + 1)).toNat =
      (symbolGap pol exp rcv j == 1).toNat + (symbolGap pol exp rcv j == 2).toNat +
        (symbolGap pol exp rcv j == 3).toNat := by
  unfold symbolGap laneLevel errsAt
  generalize exp.getMsbD (2 * j) = a
  generalize exp.getMsbD (2 * j + 1) = b
  generalize rcv.getMsbD (2 * j) = c
  generalize rcv.getMsbD (2 * j + 1) = d
  revert a b c d
  cases pol <;> decide

theorem symbolError_any {j : Nat} (hj : j < 16) (p : Nat → Bool) :
    (symbolError pol exp rcv j).any (fun y => p y.distance) =
      ((errsAt exp rcv (2 * j) || errsAt exp rcv (2 * j + 1)) && p (symbolGap pol exp rcv j)) := by
  have hgap : levelGap (symbolLevel (pol.word exp) j).val (symbolLevel (pol.word rcv) j).val =
      symbolGap pol exp rcv j := by
    rw [symbolGap, laneLevel_eq pol exp j hj, laneLevel_eq pol rcv j hj]
  unfold symbolError errsAt
  split
  · next h => simp [h.1, h.2]
  · next h =>
    rw [hgap]
    have herr : (exp.getMsbD (2 * j) != rcv.getMsbD (2 * j) || exp.getMsbD (2 * j + 1) != rcv.getMsbD (2 * j + 1)) =
        true := by
      rw [Bool.or_eq_true, bne_iff_ne, bne_iff_ne]
      exact not_and_or.1 h
    rw [herr]
    rfl

/-- A symbol at a distance is an errored one. -/
theorem symbolError_distance {j d : Nat} (hj : j < 16) (hd : d = 1 ∨ d = 2 ∨ d = 3) :
    (symbolError pol exp rcv j).any (fun y => y.distance == d) = (symbolGap pol exp rcv j == d) := by
  rw [symbolError_any pol exp rcv hj (· == d)]
  obtain ⟨-, h⟩ := symbolGap_weight pol exp rcv j
  cases herr : (errsAt exp rcv (2 * j) || errsAt exp rcv (2 * j + 1)) with
  | true => rfl
  | false =>
    rw [herr] at h
    rcases hd with rfl | rfl | rfl
    all_goals
      revert h
      cases symbolGap pol exp rcv j == 1 <;> cases symbolGap pol exp rcv j == 2 <;>
        cases symbolGap pol exp rcv j == 3 <;> decide

/-- The errored symbols of a compared word. -/
def symbolErrorsOf : List SymbolError := (List.range 16).filterMap (symbolError pol exp rcv)

theorem countDistance_symbolErrorsOf {d : Nat} (hd : d = 1 ∨ d = 2 ∨ d = 3) :
    countDistance (symbolErrorsOf pol exp rcv) d = countBelow 16 fun j => symbolGap pol exp rcv j == d := by
  rw [countDistance, symbolErrorsOf, length_filter_filterMap]
  exact countBelow_congr fun j hj => symbolError_distance pol exp rcv hj hd

theorem countDistance_eq_symbolsAt {d : Nat} (hd : d = 1 ∨ d = 2 ∨ d = 3) :
    countDistance (symbolErrorsOf pol exp rcv) d = symbolsAt pol exp rcv d := by
  rw [countDistance_symbolErrorsOf pol exp rcv hd]
  exact countBelow_congr fun j _ => by rw [symbolGap, levelGap_eq]

/-- The errored bits and symbols of the first `n` pairs, by level distance. -/
theorem countBelow_pairs (n : Nat) :
    countBelow (2 * n) (errsAt exp rcv) =
      (countBelow n fun j => symbolGap pol exp rcv j == 1) + 2 * (countBelow n fun j => symbolGap pol exp rcv j == 2) +
        countBelow n fun j => symbolGap pol exp rcv j == 3 := by
  induction n with
  | zero => rfl
  | succ n ih =>
    obtain ⟨h, -⟩ := symbolGap_weight pol exp rcv n
    simp only [toNat_eq_ite] at h
    rw [show 2 * (n + 1) = 2 * n + 1 + 1 by omega, countBelow_succ, countBelow_succ, ih, countBelow_succ, countBelow_succ,
      countBelow_succ]
    omega

theorem length_symbolErrorsOf :
    (symbolErrorsOf pol exp rcv).length =
      (countBelow 16 fun j => symbolGap pol exp rcv j == 1) + (countBelow 16 fun j => symbolGap pol exp rcv j == 2) +
        countBelow 16 fun j => symbolGap pol exp rcv j == 3 := by
  have hlen : (symbolErrorsOf pol exp rcv).length =
      countBelow 16 fun j => errsAt exp rcv (2 * j) || errsAt exp rcv (2 * j + 1) := by
    have h := length_filter_filterMap (symbolError pol exp rcv) (fun _ => true) 16
    rw [List.filter_true] at h
    rw [symbolErrorsOf, h]
    exact countBelow_congr fun j hj => (symbolError_any pol exp rcv hj fun _ => true).trans (Bool.and_true _)
  have hsum (n : Nat) : (countBelow n fun j => errsAt exp rcv (2 * j) || errsAt exp rcv (2 * j + 1)) =
      (countBelow n fun j => symbolGap pol exp rcv j == 1) + (countBelow n fun j => symbolGap pol exp rcv j == 2) +
        countBelow n fun j => symbolGap pol exp rcv j == 3 := by
    induction n with
    | zero => rfl
    | succ n ih =>
      obtain ⟨-, h⟩ := symbolGap_weight pol exp rcv n
      simp only [toNat_eq_ite] at h
      rw [countBelow_succ, ih, countBelow_succ, countBelow_succ, countBelow_succ]
      omega
  rw [hlen, hsum]

end

/-! ### The tally of a word (R59 to R63, R71 to R73) -/

section
variable (table : Vector (Option Filter) 16) (cap : CaptureLane) (x : LaneState) (l : Lane) (last : BitVec 15)
  (exp rcv : Word)

/-- The result of a word compared on the lane. -/
def resultOf : WordResult := buildResult l x.pam4 x.chk.config.polarity last exp rcv

/-- The tally of a word compared on the lane. -/
def tallyOf : Tally := buildTally table cap x last (resultOf x l last exp rcv)

/-- The walk through a word compared on the lane. -/
def walkOf : BurstWalk := walkTo x.chk.config.g x.acct.tracker (errsAt exp rcv) 32

theorem resultOf_bits : (resultOf x l last exp rcv).bits = errorsOf last exp rcv := rfl

theorem walkWord_resultOf :
    walkWord x.chk.config.g x.acct.tracker (exp ^^^ rcv) = walkOf x exp rcv := by
  rw [walkWord_eq, getMsbD_difference, walkOf]

theorem tallyOf_tracker : (tallyOf table cap x l last exp rcv).tracker = (walkOf x exp rcv).tracker :=
  congrArg BurstWalk.tracker (walkWord_resultOf x exp rcv)

theorem tallyOf_bursts : (tallyOf table cap x l last exp rcv).inc.bursts = (walkOf x exp rcv).opened :=
  congrArg BurstWalk.opened (walkWord_resultOf x exp rcv)

theorem tallyOf_bins : (tallyOf table cap x l last exp rcv).inc.bins = (walkOf x exp rcv).bins :=
  congrArg BurstWalk.bins (walkWord_resultOf x exp rcv)

theorem tallyOf_candidate : (tallyOf table cap x l last exp rcv).candidate =
    tallyCandidate x cap (resultOf x l last exp rcv) last (walkOf x exp rcv) :=
  congrArg (tallyCandidate x cap (resultOf x l last exp rcv) last) (walkWord_resultOf x exp rcv)

theorem tallyOf_errors : (tallyOf table cap x l last exp rcv).inc.errors = countBelow 32 (errsAt exp rcv) :=
  length_errorsOf last exp rcv

/-- The directions sum to the errors. -/
theorem tallyOf_directions : (tallyOf table cap x l last exp rcv).inc.errors =
    (tallyOf table cap x l last exp rcv).inc.onesToZero + (tallyOf table cap x l last exp rcv).inc.zerosToOne := by
  have h := foldl_addBit (f := fun c => c.onesToZero + c.zerosToOne) table l (addBit_directions table l) (errorsOf last exp rcv) .zero
  rw [List.filter_true] at h
  exact (h.trans (Nat.zero_add _)).symm

/-- The filter classes sum to the errors. -/
theorem tallyOf_classes : (tallyOf table cap x l last exp rcv).inc.errors =
    (tallyOf table cap x l last exp rcv).inc.filters.sum + (tallyOf table cap x l last exp rcv).inc.unmatched +
      (tallyOf table cap x l last exp rcv).inc.overlap := by
  have h := foldl_addBit (f := fun c => c.filters.sum + c.unmatched + c.overlap) table l (addBit_classes table l)
    (errorsOf last exp rcv) .zero
  have hzero : Counters.zero.filters.sum + Counters.zero.unmatched + Counters.zero.overlap = 0 := by decide
  rw [List.filter_true, hzero] at h
  exact (h.trans (Nat.zero_add _)).symm

/-- Each class counts the errored bits that have it. -/
theorem tallyOf_filters (k : Fin 16) : (tallyOf table cap x l last exp rcv).inc.filters[k] =
    countBelow 32 fun i => errsAt exp rcv i && classAt table l last exp i == .filter k := by
  have h := foldl_addBit (f := fun c => c.filters[k]) table l (fun c e => addBit_filters table l c e k)
    (errorsOf last exp rcv) .zero
  rw [length_filter_errorsOf last exp rcv fun e => classify table l e.direction e.context == .filter k] at h
  have hzero : Counters.zero.filters[k] = 0 := Vector.getElem_replicate _
  rw [hzero, Nat.zero_add] at h
  exact h

theorem tallyOf_unmatched : (tallyOf table cap x l last exp rcv).inc.unmatched =
    countBelow 32 fun i => errsAt exp rcv i && classAt table l last exp i == .unmatched := by
  have h := foldl_addBit (f := Counters.unmatched) table l (addBit_unmatched table l) (errorsOf last exp rcv) .zero
  rw [length_filter_errorsOf last exp rcv fun e => classify table l e.direction e.context == .unmatched] at h
  exact h.trans (Nat.zero_add _)

theorem tallyOf_overlap : (tallyOf table cap x l last exp rcv).inc.overlap =
    countBelow 32 fun i => errsAt exp rcv i && classAt table l last exp i == .overlap := by
  have h := foldl_addBit (f := Counters.overlap) table l (addBit_overlap table l) (errorsOf last exp rcv) .zero
  rw [length_filter_errorsOf last exp rcv fun e => classify table l e.direction e.context == .overlap] at h
  exact h.trans (Nat.zero_add _)

theorem resultOf_symbols : (resultOf x l last exp rcv).symbols =
    if x.pam4 then symbolErrorsOf x.chk.config.polarity exp rcv else [] := rfl

/-- A word's symbols obey the symbol laws of the lane's modulation. -/
theorem tallyOf_symbolLaws : (tallyOf table cap x l last exp rcv).inc.SymbolLaws x.pam4 := by
  have hsyms := resultOf_symbols x l last exp rcv
  have hs : (tallyOf table cap x l last exp rcv).inc.symbols =
      if x.pam4 then (resultOf x l last exp rcv).symbols.length else (errorsOf last exp rcv).length := rfl
  have h1 : (tallyOf table cap x l last exp rcv).inc.d1 = countDistance (resultOf x l last exp rcv).symbols 1 := rfl
  have h2 : (tallyOf table cap x l last exp rcv).inc.d2 = countDistance (resultOf x l last exp rcv).symbols 2 := rfl
  have h3 : (tallyOf table cap x l last exp rcv).inc.d3 = countDistance (resultOf x l last exp rcv).symbols 3 := rfl
  unfold Counters.SymbolLaws
  rw [hs, h1, h2, h3, hsyms]
  cases x.pam4 with
  | true =>
    simp only [if_true]
    rw [length_symbolErrorsOf, tallyOf_errors, countDistance_symbolErrorsOf _ _ _ (by decide),
      countDistance_symbolErrorsOf _ _ _ (by decide), countDistance_symbolErrorsOf _ _ _ (by decide)]
    exact ⟨rfl, countBelow_pairs x.chk.config.polarity exp rcv 16⟩
  | false => exact ⟨rfl, rfl, rfl, rfl⟩

theorem tallyOf_distance {d : Nat} (hd : d = 1 ∨ d = 2 ∨ d = 3) (h : x.pam4 = true) :
    countDistance (resultOf x l last exp rcv).symbols d = symbolsAt x.chk.config.polarity exp rcv d := by
  rw [resultOf_symbols, if_pos h, countDistance_eq_symbolsAt _ _ _ hd]

theorem opened_le_errors : (walkOf x exp rcv).opened ≤ countBelow 32 (errsAt exp rcv) := by
  rw [walkOf, walkTo_opened, countBelow, countBelow, ← List.countP_eq_length_filter, ← List.countP_eq_length_filter]
  exact List.countP_mono_left fun i _ h => (Bool.and_eq_true_iff.1 h).1

theorem countBelow_pos_iff {n : Nat} {p : Nat → Bool} : 0 < countBelow n p ↔ ∃ i, i < n ∧ p i = true := by
  rw [countBelow, List.length_pos_iff_exists_mem]
  simp [List.mem_filter]

/-- A word opens a burst when one of its bits does. -/
theorem opened_pos_iff : 0 < (walkOf x exp rcv).opened ↔
    ∃ i, i < 32 ∧ x.acct.tracker.OpensAt x.chk.config.g (errsAt exp rcv) i := by
  rw [walkOf, walkTo_opened, countBelow_pos_iff]
  simp only [walkOpens_iff]

theorem first_isSome_iff : (walkOf x exp rcv).first.isSome = true ↔ 0 < (walkOf x exp rcv).opened := by
  rw [walkOf, walkTo_opened, walkTo_first, countBelow_pos_iff, List.find?_isSome]
  simp

/-- The bursts opened are the steps at which the tracker leaves CLOSED. -/
theorem opened_eq_transitions : (walkOf x exp rcv).opened =
    countBelow 32 fun i => (walkTo x.chk.config.g x.acct.tracker (errsAt exp rcv) i).tracker == .closed &&
      (walkTo x.chk.config.g x.acct.tracker (errsAt exp rcv) (i + 1)).tracker != .closed := by
  rw [walkOf, walkTo_opened]
  refine countBelow_congr fun i _ => ?_
  rw [walkOpens, walkTo_succ]
  rcases htr : (walkTo x.chk.config.g x.acct.tracker (errsAt exp rcv) i).tracker with _ | ⟨k, run⟩ <;>
    cases herr : errsAt exp rcv i <;> simp [htr]

/-- When a tally raises a candidate, and which (R71, R72). -/
theorem tallyCandidate_isSome :
    (tallyOf table cap x l last exp rcv).candidate.isSome = true ↔ (cap.quota = 0 ∨ cap.quotaCount < cap.quota) ∧
      ((cap.mode = .words ∧ 0 < countBelow 32 (errsAt exp rcv)) ∨ (cap.mode = .bursts ∧ 0 < (walkOf x exp rcv).opened)) := by
  have hquota : cap.quotaAllows = true ↔ cap.quota = 0 ∨ cap.quotaCount < cap.quota := by
    simp [CaptureLane.quotaAllows]
  have hbits : 0 < countBelow 32 (errsAt exp rcv) ↔ (resultOf x l last exp rcv).bits ≠ [] := by
    rw [← length_errorsOf last, resultOf_bits, List.length_pos_iff]
  have hfirst := first_isSome_iff x exp rcv
  rw [tallyOf_candidate, ← hquota, hbits, ← hfirst]
  unfold tallyCandidate
  cases hq : cap.quotaAllows with
  | false => simp
  | true => cases hm : cap.mode <;> cases hb : (resultOf x l last exp rcv).bits <;>
      cases hf : (walkOf x exp rcv).first <;> simp

/-- The errored bit whose context a candidate carries: the word's first in mode WORDS, and in mode BURSTS the first that
opens a burst (R72). -/
theorem tallyCandidate_eq {cand : Candidate} (h : (tallyOf table cap x l last exp rcv).candidate = some cand) :
    cand.lane = l ∧ cand.elapsed = x.gate.counts.elapsed ∧ cand.bits = x.gate.counters.bits ∧
      ∃ i, i < 32 ∧ errsAt exp rcv i = true ∧
        ((cap.mode = .words ∧ (∀ j, j < i → errsAt exp rcv j = false) ∧
            cand.body = .errorWord (contextWord last exp i) exp rcv) ∨
          (cap.mode = .bursts ∧ x.acct.tracker.OpensAt x.chk.config.g (errsAt exp rcv) i ∧
            (∀ j, j < i → ¬x.acct.tracker.OpensAt x.chk.config.g (errsAt exp rcv) j) ∧
            cand.body = .burstStart (contextWord last exp i) exp rcv (x.gate.counters.bursts + 1))) := by
  rw [tallyOf_candidate] at h
  unfold tallyCandidate at h
  split at h
  · cases h
  · split at h
    · next _ e rest hm hb =>
      cases h
      obtain ⟨i, hi, he, hbefore⟩ := filterMap_range_cons (show errorsOf last exp rcv = e :: rest from hb)
      have herr : errsAt exp rcv i = true := by
        by_contra hno
        rw [erroredBit_of_right last exp rcv (Bool.eq_false_iff.2 hno)] at he
        cases he
      rw [erroredBit_of_err last exp rcv herr] at he
      cases he
      refine ⟨rfl, rfl, rfl, i, hi, herr, .inl ⟨hm, fun j hj => ?_, rfl⟩⟩
      by_contra hno
      have := hbefore j hj
      rw [erroredBit_of_err last exp rcv (Bool.eq_true_of_not_eq_false hno)] at this
      cases this
    · next i hm hf =>
      cases h
      rw [walkOf, walkTo_first, List.find?_range_eq_some] at hf
      obtain ⟨hopens, hi, hbefore⟩ := hf
      have hopens' := (walkOpens_iff x.chk.config.g x.acct.tracker (errsAt exp rcv) i).1 hopens
      refine ⟨rfl, rfl, rfl, i, List.mem_range.1 hi, hopens'.1, .inr ⟨hm, hopens', fun j hj hno => ?_, rfl⟩⟩
      have := hbefore j hj
      rw [(walkOpens_iff x.chk.config.g x.acct.tracker (errsAt exp rcv) j).2 hno] at this
      cases this
    · cases h

end

/-- Settles O36: the increments count the errored bits by direction, class and level distance, and the walk's tracker,
bursts and bins follow R64 to R66 bit by bit. -/
theorem wordTallyLaws : Obligations.WordTallyLaws := by
  intro table cap x l last exp rcv tally htally
  obtain rfl : tally = tallyOf table cap x l last exp rcv := htally
  have htracker := tallyOf_tracker table cap x l last exp rcv
  have hbursts := tallyOf_bursts table cap x l last exp rcv
  have hbins := tallyOf_bins table cap x l last exp rcv
  have herrors := tallyOf_errors table cap x l last exp rcv
  have hle := opened_le_errors x exp rcv
  refine ⟨rfl, herrors, tallyOf_directions .., tallyOf_classes .., tallyOf_symbolLaws .., ?balance,
    by rw [hbursts, herrors]; exact hle, by rw [hbursts]; exact hle.trans (countBelow_le ..), ?opens, ?classes,
    fun h => ⟨tallyOf_distance x l last exp rcv (by decide) h, tallyOf_distance x l last exp rcv (by decide) h,
      tallyOf_distance x l last exp rcv (by decide) h⟩, ?tracker, ?mark, ?candidate, ?missed, fun cand hcand => ?raised⟩
  case balance =>
    rw [hbursts, hbins, htracker]
    exact walkTo_balance ..
  case opens =>
    rw [hbursts]
    exact opened_pos_iff ..
  case classes =>
    refine ⟨classAt table l last exp, fun i hi => ?_, tallyOf_filters table cap x l last exp rcv,
      tallyOf_unmatched .., tallyOf_overlap ..⟩
    obtain ⟨hunmatched, hfilter, hoverlap⟩ :=
      classify_cases table l (directionOf (exp.getMsbD i)) (contextWord last exp i)
    simp only [mem_matching_iff table l last exp hi] at hunmatched hfilter hoverlap
    exact ⟨hunmatched, hfilter, hoverlap⟩
  case tracker =>
    refine ⟨fun i => (walkTo x.chk.config.g x.acct.tracker (errsAt exp rcv) i).tracker, rfl, htracker.symm,
      fun i _ => bit_follows .., ?_, fun b => ?_⟩
    · rw [hbursts]
      exact opened_eq_transitions ..
    · rw [hbins]
      exact walkTo_bins ..
  case mark =>
    have hmark : (tallyOf table cap x l last exp rcv).mark = (x.acct.mark || !(errorsOf last exp rcv).isEmpty) := rfl
    rw [hmark, Bool.or_eq_true, Bool.not_eq_true', herrors, ← length_errorsOf last, List.length_pos_iff,
      List.isEmpty_eq_false_iff]
  case candidate =>
    rw [hbursts, herrors]
    exact tallyCandidate_isSome ..
  case missed =>
    have hmissed : (tallyOf table cap x l last exp rcv).inc.missed =
        if ((tallyOf table cap x l last exp rcv).candidate.isSome && cap.slot.isSome) = true then 1 else 0 := rfl
    simp only [hmissed, Bool.and_eq_true]
  case raised =>
    obtain ⟨hlane, helapsed, hbits, i, hi, herr, hwhy⟩ := tallyCandidate_eq table cap x l last exp rcv hcand
    refine ⟨hlane, helapsed, hbits, i, contextWord last exp i, hi, bne_iff_ne.1 herr,
      fun k hk => getMsbD_contextWord last exp hi hk, ?_⟩
    rcases hwhy with ⟨hm, hbefore, hbody⟩ | ⟨hm, hopens, hbefore, hbody⟩
    · exact ⟨fun _ j hj => bne_eq_false_iff_eq.1 (hbefore j hj), fun h => absurd (hm.symm.trans h) (by decide),
        fun _ => hbody, fun h => absurd (hm.symm.trans h) (by decide)⟩
    · exact ⟨fun h => absurd (hm.symm.trans h) (by decide), fun _ => ⟨hopens, hbefore⟩,
        fun h => absurd (hm.symm.trans h) (by decide), fun _ => hbody⟩

end Sys2Proof.Machine

/-! What an event does to its own lane, as functions of that lane: the gate's closures and stops, the gate at a transition
of its checker, and a whole transition. -/

namespace Sys2Proof.Machine

/-! ### The gate's part of a transition, on its lane -/

/-- A lock loss that reaches the RUNNING gate of lane `l` at uptime `now` (R96, R100). -/
def LaneState.lockLoss (l : Lane) (held : Bool) (now : Nat) (x : LaneState) : LaneState :=
  if x.gate.counts.lockLosses = Config.max32 then x.finishGate l .saturated now
  else if held then LaneState.pauseGate { x with gate := x.gate.addLoss }
  else match x.gate.config.policy with
    | .keep => { x with gate := x.gate.addLoss }
    | .pause => LaneState.pauseGate { x with gate := x.gate.addLoss }
    | .abort => LaneState.finishGate l .lockLost now { x with gate := x.gate.addLoss }

/-- The gate of lane `l` ends for this reason if it is active (R101, R102). -/
def LaneState.endIfActive (l : Lane) (r : EndReason) (now : Nat) (x : LaneState) : LaneState :=
  if x.gate.state.active then x.finishGate l r now else x

/-- The burst that an exit from LOCKED closes (R67). -/
def LaneState.closeOnExit (left : CheckerState) (x : LaneState) : LaneState :=
  if left = .locked then x.closeBurst else x

/-- What the gate of lane `l` does with a transition of its checker (R88, section 6.8). -/
def LaneState.meetTransition (l : Lane) (left entered : CheckerState) (reason : Reason) (now : Nat) (x : LaneState) :
    LaneState :=
  if entered = .locked then { x with gate := x.gate.onLock }
  else if entered = .off then (x.closeOnExit left).endIfActive l .laneOff now
  else if x.gate.state = .running then
    (if left = .locked ∧ (reason = .errors ∨ reason = .signal ∨ reason = .held) then
      (x.closeOnExit left).lockLoss l (reason = .held) now
     else if entered = .held then (x.closeOnExit left).pauseGate
     else x.closeOnExit left)
  else x.closeOnExit left

/-- The lane after a transition of its checker: the phase entered, and the gate. -/
def LaneState.move (m : Move) (now : Nat) (x : LaneState) : LaneState :=
  (x.enter m.phase m.reason).meetTransition m.lane x.chkState m.phase.state m.reason now

/-! ### Each operation on its lane -/

theorem State.endGate_lane (l k : Lane) (r : EndReason) (s : State) :
    (s.endGate l r).lane k = if l = k then (s.lane k).finishGate l r s.uptime else s.lane k :=
  State.modLane_lane ..

theorem State.saturateGate_lane (l k : Lane) (s : State) :
    (s.saturateGate l).lane k = if l = k then (s.lane k).finishGate l .saturated s.uptime else s.lane k :=
  State.endGate_lane ..

theorem State.modLane_endGate_lane (l k : Lane) (f : LaneState → LaneState) (r : EndReason) (s : State) :
    ((s.modLane l f).endGate l r).lane k = if l = k then (f (s.lane k)).finishGate l r s.uptime else s.lane k := by
  rw [State.endGate_lane, State.modLane_lane]
  split <;> rfl

theorem State.modLane_modLane_lane (l k : Lane) (f g : LaneState → LaneState) (s : State) :
    ((s.modLane l f).modLane l g).lane k = if l = k then g (f (s.lane k)) else s.lane k := by
  rw [State.modLane_lane, State.modLane_lane]
  split <;> rfl

theorem State.lockLoss_lane (l k : Lane) (held : Bool) (s : State) :
    (s.lockLoss l held).lane k = if l = k then (s.lane k).lockLoss l held s.uptime else s.lane k := by
  by_cases hk : l = k
  · subst hk
    rw [if_pos rfl]
    unfold State.lockLoss LaneState.lockLoss
    dsimp only
    split
    · rw [State.saturateGate_lane, if_pos rfl]
    · split
      · rw [State.modGate, State.modLane_modLane_lane, if_pos rfl]
      · cases (s.lane l).gate.config.policy with
        | keep => exact State.modGate_lane_self ..
        | pause => exact (State.modLane_modLane_lane ..).trans (if_pos rfl)
        | abort => exact (State.modLane_endGate_lane ..).trans (if_pos rfl)
  · rw [if_neg hk]
    unfold State.lockLoss
    dsimp only
    split
    · rw [State.saturateGate_lane, if_neg hk]
    · split
      · rw [State.modGate, State.modLane_modLane_lane, if_neg hk]
      · split
        · rw [State.modGate_lane, if_neg hk]
        · rw [State.modGate, State.modLane_modLane_lane, if_neg hk]
        · rw [State.modGate, State.modLane_endGate_lane, if_neg hk]

theorem State.gateLaneOff_lane (l k : Lane) (s : State) :
    (s.gateLaneOff l).lane k = if l = k then (s.lane k).endIfActive l .laneOff s.uptime else s.lane k := by
  unfold State.gateLaneOff LaneState.endIfActive
  by_cases hk : l = k
  · subst hk
    split <;> simp [State.endGate_lane]
  · split <;> simp [State.endGate_lane, hk]

theorem State.stopGate_lane (l k : Lane) (s : State) :
    (s.stopGate l).lane k = if l = k then (s.lane k).endIfActive l .stopped s.uptime else s.lane k := by
  unfold State.stopGate LaneState.endIfActive
  by_cases hk : l = k
  · subst hk
    split <;> simp [State.endGate_lane]
  · split <;> simp [State.endGate_lane, hk]

/-- Closing the burst on an exit from LOCKED touches the lane alone. -/
theorem State.closeOnExit_eq (l : Lane) (left : CheckerState) (s : State) :
    (if left = .locked then s.modLane l LaneState.closeBurst else s) = s.modLane l (LaneState.closeOnExit left) := by
  unfold LaneState.closeOnExit
  split
  · rfl
  · exact (State.modLane_id rfl).symm

theorem State.gateTransition_lane (l k : Lane) (left entered : CheckerState) (r : Reason) (s : State) :
    (s.gateTransition l left entered r).lane k =
      if l = k then (s.lane k).meetTransition l left entered r s.uptime else s.lane k := by
  unfold State.gateTransition
  dsimp only
  rw [State.closeOnExit_eq]
  by_cases hk : l = k
  · subst hk
    rw [if_pos rfl]
    unfold LaneState.meetTransition
    split
    · rw [State.modGate_lane_self]
    · split
      · rw [State.gateLaneOff_lane, if_pos rfl, State.modLane_lane_self, State.modLane_uptime]
      · split
        · split
          · rw [State.lockLoss_lane, if_pos rfl, State.modLane_lane_self, State.modLane_uptime]
          · split
            · rw [State.modLane_modLane_lane, if_pos rfl]
            · rw [State.modLane_lane_self]
        · rw [State.modLane_lane_self]
  · rw [if_neg hk]
    split
    · rw [State.modGate_lane, if_neg hk]
    · split
      · rw [State.gateLaneOff_lane, if_neg hk, State.modLane_lane_ne hk]
      · split
        · split
          · rw [State.lockLoss_lane, if_neg hk, State.modLane_lane_ne hk]
          · split
            · rw [State.modLane_modLane_lane, if_neg hk]
            · rw [State.modLane_lane_ne hk]
        · rw [State.modLane_lane_ne hk]

theorem State.setReasonFlag_lane (l k : Lane) (r : Reason) (s : State) : (s.setReasonFlag l r).lane k = s.lane k := by
  unfold State.setReasonFlag
  split <;> rfl

theorem State.setReasonFlag_uptime (l : Lane) (r : Reason) (s : State) : (s.setReasonFlag l r).uptime = s.uptime := by
  unfold State.setReasonFlag
  split <;> rfl

theorem State.marginTransition_lane (l k : Lane) (left entered : CheckerState) (s : State) :
    (s.marginTransition l left entered).lane k = s.lane k := by
  unfold State.marginTransition State.pointTransition
  split
  · split
    · split
      all_goals split_ifs <;> rfl
    · rfl
  · rfl

/-! ### Candidates and grants on lanes -/

theorem sameButMissed_grant (k : Lane) (s : State) : (s.lane k).SameButMissed (s.grant.lane k) :=
  (touches_grant (L := fun _ => False) (F := fun _ _ => False) s).otherLane not_false

theorem sameButMissed_writeCompletion (k : Lane) (s : State) : (s.lane k).SameButMissed (s.writeCompletion.lane k) :=
  (touches_writeCompletion (L := fun _ => False) (F := fun _ _ => False) s).otherLane not_false

theorem sameButMissed_offerLock (l k : Lane) (c : Candidate) (s : State) :
    (s.lane k).SameButMissed ((s.offerLock l c).lane k) := by
  unfold State.offerLock
  split
  · rw [State.missCandidate_lane]
    split
    · exact sameButMissed_addMissed _
    · exact .refl _
  · exact .refl _

theorem State.offerTally_lane (l k : Lane) (c : Candidate) (s : State) : (s.offerTally l c).lane k = s.lane k := by
  unfold State.offerTally
  split <;> rfl

theorem sameButMissed_exitCandidate (m : Move) (k : Lane) (s : State) :
    (s.lane k).SameButMissed ((s.exitCandidate m).lane k) := by
  unfold State.exitCandidate
  dsimp only
  split
  · exact sameButMissed_offerLock ..
  · exact .refl _

theorem sameButMissed_entryCandidate (m : Move) (k : Lane) (s : State) :
    (s.lane k).SameButMissed ((s.entryCandidate m).lane k) := by
  unfold State.entryCandidate
  dsimp only
  split
  · exact (sameButMissed_offerLock ..).trans (sameButMissed_grant ..)
  · exact .refl _

theorem sameButMissed_exits (ms : List Move) (k : Lane) (s : State) :
    (s.lane k).SameButMissed ((ms.foldl (fun s m => s.exitCandidate m) s).grant.lane k) :=
  (foldl_keeps (fun s t : State => (s.lane k).SameButMissed (t.lane k)) (fun _ => .refl _) (fun _ _ _ => .trans)
    (fun s m => s.exitCandidate m) (fun s m => sameButMissed_exitCandidate m k s) ms s).trans (sameButMissed_grant ..)

/-! ### Transitions on lanes -/

/-- One transition: its lane moves, and beside that no lane changes but in captures missed. -/
theorem sameButMissed_applyMove (m : Move) (k : Lane) (s : State) :
    (if m.lane = k then (s.lane k).move m s.uptime else s.lane k).SameButMissed ((s.applyMove m).lane k) := by
  unfold State.applyMove
  dsimp only
  rw [State.queueNotice_lane, State.marginTransition_lane]
  refine LaneState.SameButMissed.trans ?_ (sameButMissed_entryCandidate m k _)
  rw [State.gateTransition_lane, State.setReasonFlag_lane, State.modLane_lane, State.setReasonFlag_uptime,
    State.modLane_uptime]
  split
  · next h =>
    subst h
    exact .refl _
  · exact .refl _

theorem uptime_applyMove (m : Move) (s : State) : (s.applyMove m).uptime = s.uptime :=
  (sameBase_applyMove s m).uptime

theorem uptime_exits (ms : List Move) (s : State) :
    (ms.foldl (fun s m => s.exitCandidate m) s).grant.uptime = s.uptime := by
  have hexits : (ms.foldl (fun s m => s.exitCandidate m) s).uptime = s.uptime :=
    (SameBase.foldl (fun s m => s.exitCandidate m) (fun s m => sameBase_exitCandidate m s) ms s).uptime
  exact (sameBase_grant _).uptime.trans hexits

/-- Moves of other lanes leave a lane but for captures missed. -/
theorem sameButMissed_moves {ms : List Move} {k : Lane} (h : ∀ m ∈ ms, m.lane ≠ k) (s : State) :
    (s.lane k).SameButMissed ((ms.foldl State.applyMove s).lane k) := by
  refine List.foldlRecOn ms State.applyMove (motive := fun t : State => (s.lane k).SameButMissed (t.lane k)) (.refl _)
    fun t ht m hm => ht.trans ?_
  have := sameButMissed_applyMove m k t
  rwa [if_neg (h m hm)] at this

/-- In a transition of distinct lanes each lane makes its own move, captures missed aside. -/
theorem transition_lane {ms : List Move} (hnodup : (ms.map Move.lane).Nodup) {m : Move} (hm : m ∈ ms) (s : State) :
    ∃ x, (s.lane m.lane).SameButMissed x ∧ (x.move m s.uptime).SameButMissed ((s.transition ms).lane m.lane) := by
  obtain ⟨before, after, rfl⟩ := List.append_of_mem hm
  rw [List.map_append, List.map_cons] at hnodup
  obtain ⟨-, hafter, hdisjoint⟩ := List.nodup_append.1 hnodup
  have hb : ∀ n ∈ before, n.lane ≠ m.lane := fun n hn =>
    hdisjoint _ (List.mem_map_of_mem hn) _ (List.mem_cons_self ..)
  have ha : ∀ n ∈ after, n.lane ≠ m.lane := fun n hn h =>
    (List.nodup_cons.1 hafter).1 (h ▸ List.mem_map_of_mem hn)
  unfold State.transition
  generalize hu : (List.foldl (fun s m => s.exitCandidate m) s (before ++ m :: after)).grant = u
  have hsu : (s.lane m.lane).SameButMissed (u.lane m.lane) := hu ▸ sameButMissed_exits _ _ s
  have hut : u.uptime = s.uptime := hu ▸ uptime_exits _ s
  rw [List.foldl_append, List.foldl_cons]
  have hbu := sameButMissed_moves hb u
  have hmove := sameButMissed_applyMove m m.lane (before.foldl State.applyMove u)
  have hup : (before.foldl State.applyMove u).uptime = s.uptime :=
    ((SameBase.foldl State.applyMove (fun s m => sameBase_applyMove s m) before u).uptime).trans hut
  rw [if_pos rfl, hup] at hmove
  exact ⟨_, hsu.trans hbu, hmove.trans (sameButMissed_moves ha _)⟩

theorem transition_lane_other {ms : List Move} {k : Lane} (h : ∀ m ∈ ms, m.lane ≠ k) (s : State) :
    (s.lane k).SameButMissed ((s.transition ms).lane k) :=
  (sameButMissed_exits ms k s).trans (sameButMissed_moves h _)

/-! ### Word-granular stops and the gate timer, on their lane -/

/-- After an accepted tally: the error limit, then the bit limit (R98). -/
def LaneState.meetLimits (l : Lane) (now : Nat) (x : LaneState) : LaneState :=
  if x.gate.config.errorLimit ≠ 0 ∧ x.gate.config.errorLimit ≤ x.gate.counters.errors then x.finishGate l .errors now
  else if x.gate.config.bitLimit ≠ 0 ∧ x.gate.config.bitLimit ≤ x.gate.counters.bits then x.finishGate l .bits now
  else x

theorem State.testLimits_lane (l k : Lane) (s : State) :
    (s.testLimits l).lane k = if l = k then (s.lane k).meetLimits l s.uptime else s.lane k := by
  unfold State.testLimits LaneState.meetLimits
  dsimp only
  by_cases hk : l = k
  · subst hk
    rw [if_pos rfl]
    split_ifs
    · rw [State.endGate_lane, if_pos rfl]
    · rw [State.endGate_lane, if_pos rfl]
    · rfl
  · rw [if_neg hk]
    split_ifs
    · rw [State.endGate_lane, if_neg hk]
    · rw [State.endGate_lane, if_neg hk]
    · rfl

/-- One expiry of the gate timer of lane `l` at uptime `now` (R93 to R95). -/
def LaneState.gateExpiry (l : Lane) (now : Nat) (x : LaneState) : LaneState :=
  match x.gate.state with
  | .idle => x
  | .armed =>
    if x.gate.config.armTimeout ≠ 0 ∧ x.gate.config.armTimeout ≤ x.gate.tickArm.counts.armWait then
      LaneState.finishGate l .armTimeout now { x with gate := x.gate.tickArm }
    else { x with gate := x.gate.tickArm }
  | .running =>
    if x.gate.counts.elapsed = Config.max32 then x.finishGate l .saturated now
    else if x.tickRunning.confidentNow then x.tickRunning.finishGate l .confident now
    else if x.tickRunning.timeUp then x.tickRunning.finishGate l .time now
    else x.tickRunning
  | .paused =>
    if x.gate.counts.paused = Config.max32 then x.finishGate l .saturated now else { x with gate := x.gate.tickPaused }
  | .done => x

theorem State.gateExpiry_lane (l k : Lane) (s : State) :
    (s.gateExpiry l).lane k = if l = k then (s.lane k).gateExpiry l s.uptime else s.lane k := by
  by_cases hk : l = k
  · subst hk
    rw [if_pos rfl]
    unfold State.gateExpiry LaneState.gateExpiry State.expireArmed State.expireRunning State.expirePaused
    cases (s.lane l).gate.state with
    | idle => rfl
    | armed =>
      dsimp only
      rw [State.modGate_lane_self]
      split
      · exact (State.modLane_endGate_lane ..).trans (if_pos rfl)
      · exact State.modGate_lane_self ..
    | running =>
      dsimp only
      rw [State.modLane_lane_self]
      split
      · rw [State.saturateGate_lane, if_pos rfl]
      · split
        · rw [State.modLane_endGate_lane, if_pos rfl]
        · split
          · rw [State.modLane_endGate_lane, if_pos rfl]
          · rw [State.modLane_lane_self]
    | paused =>
      dsimp only
      split
      · rw [State.saturateGate_lane, if_pos rfl]
      · exact State.modGate_lane_self ..
    | done => rfl
  · rw [if_neg hk]
    unfold State.gateExpiry State.expireArmed State.expireRunning State.expirePaused
    dsimp only
    split
    · rfl
    · split
      · rw [State.modGate, State.modLane_endGate_lane, if_neg hk]
      · rw [State.modGate_lane, if_neg hk]
    · split
      · rw [State.saturateGate_lane, if_neg hk]
      · split
        · rw [State.modLane_endGate_lane, if_neg hk]
        · split
          · rw [State.modLane_endGate_lane, if_neg hk]
          · rw [State.modLane_lane_ne hk]
    · split
      · rw [State.saturateGate_lane, if_neg hk]
      · rw [State.modGate_lane, if_neg hk]
    · rfl

end Sys2Proof.Machine
/-! Generator, checker, gate and counters of each lane through a step (O59). -/

namespace Sys2Proof.Machine

/-! ### The parts of a lane's invariant -/

/-- The generator runs exactly with transmit power, and its shaping is in range (R18, R24, R25). -/
def LaneState.GenFits (x : LaneState) : Prop := x.gen.ShapingInv ∧ x.gen.run.isSome = x.power.tx

/-- The checker agrees with receive power and signal, and the loopback path with the checker (R31, R34, R35). -/
def LaneState.ChkFits (x : LaneState) : Prop :=
  (x.chkState = .off ↔ x.power.rx = false) ∧ (x.chkState = .noSignal → x.signal = false) ∧
  (x.chkState.listening = true → x.signal = true) ∧
  (x.path ≠ [] → x.loopback = true ∧ x.chkState.listening = true)

/-- The gate's stamps, settings, mark and record are present as its state says. -/
def LaneState.GateKept (x : LaneState) : Prop :=
  (x.acct.mark = true → x.gate.state.active = true) ∧
  (x.gate.state ≠ .idle → x.gate.settings.isSome = true ∧ x.gate.startStamp.isSome = true) ∧
  (x.gate.state = .done ↔ x.gate.endStamp.isSome = true) ∧ (x.gate.state = .done → x.gate.result.isSome = true)

/-- The gate and the burst tracker fit a checker in this state (R88, R57). -/
def LaneState.GateFits (st : CheckerState) (x : LaneState) : Prop :=
  (x.gate.state = .armed ∨ x.gate.state = .paused → st ≠ .locked) ∧ (x.gate.state.active = true → st ≠ .off) ∧
  (x.acct.tracker ≠ .closed → x.gate.state = .running ∧ st = .locked)

/-- Everything that is claimed of a lane. -/
def LaneState.Good (x : LaneState) : Prop := x.Inv ∧ x.CounterInv

theorem LaneState.good_iff (x : LaneState) :
    x.Good ↔ x.GenFits ∧ x.ChkFits ∧ x.GateFits x.chkState ∧ x.GateKept ∧ x.CounterInv := by
  unfold LaneState.Good LaneState.Inv LaneState.GenFits LaneState.ChkFits LaneState.GateFits LaneState.GateKept
  constructor
  · rintro ⟨⟨h1, h2, h3, h4, h5, h6, h7, h8, h9, h10, h11, h12, h13⟩, hc⟩
    exact ⟨⟨h1, h2⟩, ⟨h3, h4, h5, h6⟩, ⟨h7, h8, h9⟩, ⟨h10, h11, h12, h13⟩, hc⟩
  · rintro ⟨⟨h1, h2⟩, ⟨h3, h4, h5, h6⟩, ⟨h7, h8, h9⟩, ⟨h10, h11, h12, h13⟩, hc⟩
    exact ⟨⟨h1, h2, h3, h4, h5, h6, h7, h8, h9, h10, h11, h12, h13⟩, hc⟩

theorem LaneState.SameButMissed.counterInv {x y : LaneState} (h : x.SameButMissed y) (hx : x.CounterInv) :
    y.CounterInv := by
  obtain ⟨n, rfl⟩ := h
  exact hx

/-- Captures missed matter to none of it. -/
theorem LaneState.SameButMissed.good {x y : LaneState} (h : x.SameButMissed y) (hx : x.Good) : y.Good := by
  obtain ⟨n, rfl⟩ := h
  exact hx

/-! ### Counters (R59 to R67) -/

/-- Counters at zero obey the laws with no burst open. -/
theorem Counters.laws_zero : Counters.zero.Laws 0 := by
  have hsum (n : Nat) : (Vector.replicate n 0).sum = 0 := by simp
  exact ⟨rfl, le_rfl, rfl, (hsum 16).symm, (hsum 12).symm, le_rfl⟩

/-- Counters whose checked fields, tracker and record are the same, with no gate newly active. -/
theorem LaneState.CounterInv.of_same {x y : LaneState} (h : x.CounterInv) (hc : y.gate.counters = x.gate.counters)
    (ht : y.acct.tracker = x.acct.tracker) (hr : y.gate.result = x.gate.result) (hp : y.rate = x.rate)
    (ha : y.gate.state.active = true → x.gate.state.active = true) : y.CounterInv := by
  obtain ⟨hlaws, hsym, hres⟩ := h
  refine ⟨by rwa [hc, ht], fun hact => ?_, by rwa [hr]⟩
  have hpam : y.pam4 = x.pam4 := by rw [LaneState.pam4, hp, LaneState.pam4]
  rw [hc, hpam]
  exact hsym (ha hact)

/-- The open burst goes into its bin. -/
theorem LaneState.laws_closeBurst {x : LaneState} (h : x.gate.counters.Laws x.acct.tracker.openCount) :
    x.closeBurst.gate.counters.Laws 0 := by
  obtain ⟨hbits, hle, hdir, hcls, hbins, hbursts⟩ := h
  refine ⟨hbits, hle, hdir, hcls, ?_, hbursts⟩
  unfold LaneState.closeBurst
  cases htr : x.acct.tracker with
  | closed => rwa [htr] at hbins
  | opened k run =>
    rw [htr] at hbins
    dsimp only
    rw [sum_addBin]
    exact hbins

theorem LaneState.CounterInv.closeBurst {x : LaneState} (h : x.CounterInv) : x.closeBurst.CounterInv :=
  ⟨LaneState.laws_closeBurst h.1, h.2.1, h.2.2⟩

theorem LaneState.CounterInv.closeOnExit {x : LaneState} (left : CheckerState) (h : x.CounterInv) :
    (x.closeOnExit left).CounterInv := by
  unfold LaneState.closeOnExit
  split
  · exact h.closeBurst
  · exact h

theorem LaneState.CounterInv.pauseGate {x : LaneState} (h : x.CounterInv) (ha : x.gate.state.active = true) :
    x.pauseGate.CounterInv :=
  ⟨LaneState.laws_closeBurst h.1, fun _ => h.2.1 ha, h.2.2⟩

/-- The record holds the counters of the closed burst. -/
theorem LaneState.CounterInv.finishGate {x : LaneState} (l : Lane) (r : EndReason) (now : Nat) (h : x.CounterInv) :
    (x.finishGate l r now).CounterInv := by
  have hlaws := LaneState.laws_closeBurst h.1
  refine ⟨hlaws, fun ha => absurd ha Bool.false_ne_true, fun rec hrec => ?_⟩
  cases hrec
  exact hlaws

theorem sum_eq_sum_fin {n : Nat} (v : Vector Nat n) : v.sum = ∑ i : Fin n, v[i] := by
  have hv : v = Vector.ofFn fun i => v[i] := by
    ext i hi
    simp
  conv_lhs => rw [hv, ← Vector.sum_toList, Vector.toList_ofFn, List.sum_ofFn]

theorem sum_addVec {n : Nat} (a b : Vector Nat n) : (addVec a b).sum = a.sum + b.sum := by
  rw [sum_eq_sum_fin, sum_eq_sum_fin, sum_eq_sum_fin, ← Finset.sum_add_distrib]
  exact Finset.sum_congr rfl fun i _ => by simp [addVec]

/-- The counters with a word's increments obey the laws, with the bursts then open (R59 to R66). -/
theorem Counters.laws_add {c : Counters} {table : Vector (Option Filter) 16} {cap : CaptureLane} {x : LaneState}
    {l : Lane} {last : BitVec 15} {exp rcv : Word} (h : c.Laws x.acct.tracker.openCount) :
    (c.add (tallyOf table cap x l last exp rcv).inc).Laws (tallyOf table cap x l last exp rcv).tracker.openCount := by
  obtain ⟨hbits, hle, hdir, hcls, hbins, hbursts⟩ := h
  have idir := tallyOf_directions table cap x l last exp rcv
  have icls := tallyOf_classes table cap x l last exp rcv
  have ierr := tallyOf_errors table cap x l last exp rcv
  have icount := countBelow_le 32 (errsAt exp rcv)
  have iburst := opened_le_errors x exp rcv
  have ibal := walkTo_balance x.chk.config.g x.acct.tracker (errsAt exp rcv) 32
  rw [← walkOf, ← tallyOf_bursts table cap x l last, ← tallyOf_bins table cap x l last,
    ← tallyOf_tracker table cap x l last] at ibal
  rw [← tallyOf_bursts table cap x l last] at iburst
  have ibits : (tallyOf table cap x l last exp rcv).inc.bits = 32 := rfl
  unfold Counters.Laws Counters.add
  dsimp only
  rw [sum_addVec, sum_addVec]
  refine ⟨by omega, by omega, by omega, by omega, by omega, by omega⟩

theorem Counters.symbolLaws_add {c t : Counters} {pam4 : Bool} (hc : c.SymbolLaws pam4) (ht : t.SymbolLaws pam4) :
    (c.add t).SymbolLaws pam4 := by
  unfold Counters.SymbolLaws Counters.add at *
  cases pam4 with
  | true =>
    simp only [if_true] at *
    omega
  | false =>
    simp only [Bool.false_eq_true, if_false] at *
    omega

/-! ### Gates -/

theorem LaneState.GateKept.closeOnExit {x : LaneState} (left : CheckerState) (h : x.GateKept) :
    (x.closeOnExit left).GateKept := by
  unfold LaneState.closeOnExit
  split <;> exact h

/-- A gate that ends is DONE with its stamp and record, its mark cleared. -/
theorem LaneState.GateKept.finishGate {x : LaneState} (l : Lane) (r : EndReason) (now : Nat) (h : x.GateKept)
    (ha : x.gate.state.active = true) : (x.finishGate l r now).GateKept := by
  refine ⟨fun hm => absurd hm Bool.false_ne_true, fun _ => h.2.1 ?_, ⟨fun _ => rfl, fun _ => rfl⟩, fun _ => rfl⟩
  intro hidle
  rw [hidle] at ha
  cases ha

/-- A gate that has ended fits any checker. -/
theorem LaneState.gateFits_finishGate (st : CheckerState) (l : Lane) (r : EndReason) (now : Nat) (x : LaneState) :
    (x.finishGate l r now).GateFits st :=
  ⟨fun h => h.elim nofun nofun, nofun, fun h => absurd rfl h⟩

/-- A RUNNING gate has no end stamp, so neither has the paused one. -/
theorem LaneState.GateKept.pauseGate {x : LaneState} (h : x.GateKept) (hr : x.gate.state = .running) :
    x.pauseGate.GateKept := by
  obtain ⟨hmark, hset, hdone, hres⟩ := h
  have hend : x.gate.endStamp.isSome ≠ true := fun h => by
    rw [← hdone, hr] at h
    cases h
  exact ⟨fun _ => rfl, fun _ => hset (hr ▸ nofun), ⟨nofun, fun h => absurd h hend⟩, nofun⟩

theorem LaneState.gateFits_pauseGate {st : CheckerState} (x : LaneState) (hl : st ≠ .locked) (ho : st ≠ .off) :
    x.pauseGate.GateFits st :=
  ⟨fun _ => hl, fun _ => ho, fun h => absurd rfl h⟩

theorem LaneState.GateKept.onLock {x : LaneState} (h : x.GateKept) :
    LaneState.GateKept { x with gate := x.gate.onLock } := by
  obtain ⟨hmark, hset, hdone, hres⟩ := h
  unfold LaneState.GateKept Gate.onLock
  cases hst : x.gate.state <;> rw [hst] at hmark hset hdone hres <;> dsimp only
  case armed | paused =>
    have hend : x.gate.endStamp.isSome ≠ true := fun h => by cases hdone.2 h
    exact ⟨fun _ => rfl, fun _ => hset nofun, ⟨nofun, fun h => absurd h hend⟩, nofun⟩
  all_goals exact ⟨hmark, hset, hdone, hres⟩

/-- A lock runs an ARMED or PAUSED gate (R94, R97). -/
theorem LaneState.gateFits_onLock {st : CheckerState} {x : LaneState} (h : x.GateFits st) :
    LaneState.GateFits .locked { x with gate := x.gate.onLock } := by
  obtain ⟨hwait, hon, htr⟩ := h
  refine ⟨fun h => ?_, fun _ => nofun, fun ht => ⟨?_, rfl⟩⟩
  · unfold Gate.onLock at h
    cases hst : x.gate.state <;> rw [hst] at h <;> exact h.elim nofun nofun
  · unfold Gate.onLock
    dsimp only
    rw [(htr ht).1]

theorem Gate.onLock_active (g : Gate) : g.onLock.state.active = g.state.active := by
  unfold Gate.onLock
  cases g.state <;> rfl

/-- Once the exit has closed the burst, no burst is open. -/
theorem LaneState.closed_of_gateFits {left : CheckerState} {x : LaneState} (h : x.GateFits left) :
    (x.closeOnExit left).acct.tracker = .closed := by
  unfold LaneState.closeOnExit
  split
  · rfl
  · next hl =>
    by_contra ht
    exact hl (h.2.2 ht).2

theorem LaneState.closeOnExit_gate_state (left : CheckerState) (x : LaneState) :
    (x.closeOnExit left).gate.state = x.gate.state := by
  unfold LaneState.closeOnExit
  split <;> rfl

/-- With no burst open, a gate that was not waiting for this state fits it. -/
theorem LaneState.gateFits_closed {st : CheckerState} {x : LaneState} (ht : x.acct.tracker = .closed) (hl : st ≠ .locked)
    (ho : x.gate.state.active = true → st ≠ .off) : x.GateFits st :=
  ⟨fun _ => hl, ho, fun h => absurd ht h⟩

/-- What a gate's part of an event must give: the lane's gate kept, fitting the checker's state, the counters in order. -/
def LaneState.GateGood (st : CheckerState) (x : LaneState) : Prop := x.GateFits st ∧ x.GateKept ∧ x.CounterInv

theorem LaneState.gateGood_finishGate {x : LaneState} (st : CheckerState) (l : Lane) (r : EndReason) (now : Nat)
    (hk : x.GateKept) (hc : x.CounterInv) (ha : x.gate.state.active = true) : (x.finishGate l r now).GateGood st :=
  ⟨LaneState.gateFits_finishGate .., hk.finishGate l r now ha, hc.finishGate l r now⟩

theorem LaneState.gateGood_pauseGate {x : LaneState} {st : CheckerState} (hk : x.GateKept) (hc : x.CounterInv)
    (hr : x.gate.state = .running) (hl : st ≠ .locked) (ho : st ≠ .off) : x.pauseGate.GateGood st :=
  ⟨LaneState.gateFits_pauseGate x hl ho, hk.pauseGate hr, hc.pauseGate (by rw [hr]; rfl)⟩

theorem LaneState.gateGood_lockLoss {x : LaneState} {st : CheckerState} (l : Lane) (held : Bool) (now : Nat)
    (hk : x.GateKept) (hc : x.CounterInv) (ht : x.acct.tracker = .closed) (hr : x.gate.state = .running)
    (hl : st ≠ .locked) (ho : st ≠ .off) : (x.lockLoss l held now).GateGood st := by
  have ha : x.gate.state.active = true := by rw [hr]; rfl
  have hk' : LaneState.GateKept { x with gate := x.gate.addLoss } := hk
  have hc' : LaneState.CounterInv { x with gate := x.gate.addLoss } := hc
  unfold LaneState.lockLoss
  split
  · exact LaneState.gateGood_finishGate st l _ now hk hc ha
  · split
    · exact LaneState.gateGood_pauseGate hk' hc' hr hl ho
    · split
      · exact ⟨LaneState.gateFits_closed ht hl fun _ => ho, hk', hc'⟩
      · exact LaneState.gateGood_pauseGate hk' hc' hr hl ho
      · exact LaneState.gateGood_finishGate st l _ now hk' hc' ha

/-- The gate meets a transition of its checker in order (R88). -/
theorem LaneState.gateGood_meetTransition {x : LaneState} {left : CheckerState} (l : Lane) (entered : CheckerState)
    (r : Reason) (now : Nat) (hf : x.GateFits left) (hk : x.GateKept) (hc : x.CounterInv) :
    (x.meetTransition l left entered r now).GateGood entered := by
  have ht := LaneState.closed_of_gateFits hf
  have hst := LaneState.closeOnExit_gate_state left x
  have hk' := hk.closeOnExit left
  have hc' := hc.closeOnExit left
  unfold LaneState.meetTransition
  split
  · next he =>
    subst he
    exact ⟨LaneState.gateFits_onLock hf, hk.onLock,
      hc.of_same rfl rfl rfl rfl fun h => by rwa [Gate.onLock_active] at h⟩
  · next hl =>
    split
    · next he =>
      subst he
      unfold LaneState.endIfActive
      split
      · next ha => exact LaneState.gateGood_finishGate _ l _ now hk' hc' ha
      · next ha => exact ⟨LaneState.gateFits_closed ht hl fun h => absurd h ha, hk', hc'⟩
    · next ho =>
      split
      · next hr =>
        have hr' := hst.trans hr
        split
        · exact LaneState.gateGood_lockLoss l _ now hk' hc' ht hr' hl ho
        · split
          · exact LaneState.gateGood_pauseGate hk' hc' hr' hl ho
          · exact ⟨LaneState.gateFits_closed ht hl fun _ => ho, hk', hc'⟩
      · exact ⟨LaneState.gateFits_closed ht hl fun _ => ho, hk', hc'⟩

/-! ### Moves -/

/-- Accounting and gate aside, the lane is the same. -/
def LaneState.OnlyGate (x y : LaneState) : Prop := y = { x with acct := y.acct, gate := y.gate }

theorem LaneState.OnlyGate.refl (x : LaneState) : x.OnlyGate x := rfl

theorem LaneState.OnlyGate.trans {x y z : LaneState} (h : x.OnlyGate y) (h' : y.OnlyGate z) : x.OnlyGate z := by
  unfold LaneState.OnlyGate at *
  rw [h', h]

theorem LaneState.SameButMissed.onlyGate {x y : LaneState} (h : x.SameButMissed y) : x.OnlyGate y := by
  obtain ⟨n, rfl⟩ := h
  rfl

theorem LaneState.onlyGate_finishGate (l : Lane) (r : EndReason) (now : Nat) (x : LaneState) :
    x.OnlyGate (x.finishGate l r now) := rfl

theorem LaneState.onlyGate_closeOnExit (left : CheckerState) (x : LaneState) : x.OnlyGate (x.closeOnExit left) := by
  unfold LaneState.closeOnExit
  split <;> rfl

theorem LaneState.onlyGate_endIfActive (l : Lane) (r : EndReason) (now : Nat) (x : LaneState) :
    x.OnlyGate (x.endIfActive l r now) := by
  unfold LaneState.endIfActive
  split <;> rfl

theorem LaneState.onlyGate_lockLoss (l : Lane) (held : Bool) (now : Nat) (x : LaneState) :
    x.OnlyGate (x.lockLoss l held now) := by
  unfold LaneState.lockLoss
  split
  · rfl
  · split
    · rfl
    · split <;> rfl

/-- What a gate never touches. -/
theorem LaneState.onlyGate_meetTransition (l : Lane) (left entered : CheckerState) (r : Reason) (now : Nat)
    (x : LaneState) : x.OnlyGate (x.meetTransition l left entered r now) := by
  have hclose := x.onlyGate_closeOnExit left
  unfold LaneState.meetTransition
  split
  · rfl
  · split
    · exact hclose.trans (LaneState.onlyGate_endIfActive ..)
    · split
      · split
        · exact hclose.trans (LaneState.onlyGate_lockLoss ..)
        · split
          · exact hclose.trans rfl
          · exact hclose
      · exact hclose

/-- The lane is ready for a transition: its gate fits the state it leaves, and the phase entered fits its power and
signal. -/
def LaneState.ReadyFor (m : Move) (x : LaneState) : Prop :=
  x.GenFits ∧ (x.GateFits x.chkState ∧ x.GateKept ∧ x.CounterInv) ∧
  (m.phase.state = .off ↔ x.power.rx = false) ∧ (m.phase.state = .noSignal → x.signal = false) ∧
  (m.phase.state.listening = true → x.signal = true) ∧
  (m.reason.keepsPath = true → x.path ≠ [] → x.loopback = true ∧ m.phase.state.listening = true)

theorem LaneState.SameButMissed.readyFor {x y : LaneState} {m : Move} (h : x.SameButMissed y) (hx : x.ReadyFor m) :
    y.ReadyFor m := by
  obtain ⟨n, rfl⟩ := h
  exact hx

/-- A lane ready for a transition is in order after it. -/
theorem LaneState.good_move {x : LaneState} {m : Move} (now : Nat) (h : x.ReadyFor m) : (x.move m now).Good := by
  obtain ⟨hgen, ⟨hfits, hkept, hcounter⟩, hoff, hno, hlisten, hpath⟩ := h
  have hgood := LaneState.gateGood_meetTransition (x := x.enter m.phase m.reason) m.lane m.phase.state m.reason now
    hfits hkept (hcounter.of_same rfl rfl rfl rfl id)
  have hrest := LaneState.onlyGate_meetTransition m.lane x.chkState m.phase.state m.reason now (x.enter m.phase m.reason)
  rw [LaneState.good_iff, LaneState.move]
  generalize (x.enter m.phase m.reason).meetTransition m.lane x.chkState m.phase.state m.reason now = y at hgood hrest
  obtain ⟨hfits', hkept', hcounter'⟩ := hgood
  unfold LaneState.OnlyGate at hrest
  have hchk : y.chkState = m.phase.state := by rw [hrest]; rfl
  refine ⟨?_, ?_, hchk.symm ▸ hfits', hkept', hcounter'⟩
  · rw [hrest]
    exact hgen
  · unfold LaneState.ChkFits
    rw [hchk, hrest]
    refine ⟨hoff, hno, hlisten, fun hne => ?_⟩
    unfold LaneState.enter at hne
    dsimp only at hne
    split at hne
    · next hkeep => exact hpath hkeep hne
    · exact absurd rfl hne

/-- A transition of distinct lanes, each ready for its move, leaves every lane in order. -/
theorem good_transition {ms : List Move} {s : State} (hnodup : (ms.map Move.lane).Nodup)
    (hready : ∀ m ∈ ms, (s.lane m.lane).ReadyFor m) (hrest : ∀ k, (∀ m ∈ ms, m.lane ≠ k) → (s.lane k).Good) (k : Lane) :
    ((s.transition ms).lane k).Good := by
  by_cases h : ∃ m ∈ ms, m.lane = k
  · obtain ⟨m, hm, rfl⟩ := h
    obtain ⟨x, hx, hmove⟩ := transition_lane hnodup hm s
    exact hmove.good (LaneState.good_move s.uptime (hx.readyFor (hready m hm)))
  · have hk : ∀ m ∈ ms, m.lane ≠ k := fun m hm he => h ⟨m, hm, he⟩
    exact (transition_lane_other hk s).good (hrest k hk)

/-- A transition of one lane. -/
theorem good_transition_one {s : State} {m : Move} (hready : (s.lane m.lane).ReadyFor m)
    (hrest : ∀ k, m.lane ≠ k → (s.lane k).Good) (k : Lane) : ((s.transition [m]).lane k).Good := by
  refine good_transition (ms := [m]) (List.nodup_singleton _) (fun n hn => ?_) (fun k hk => hrest k (hk m (List.mem_singleton.2 rfl))) k
  exact List.mem_singleton.1 hn ▸ hready

/-! ### Readiness -/

/-- Everything that is claimed of a lane but the checker's agreement with power, signal and path. -/
def LaneState.Sound (x : LaneState) : Prop := x.GenFits ∧ x.GateFits x.chkState ∧ x.GateKept ∧ x.CounterInv

theorem LaneState.good_iff_sound (x : LaneState) : x.Good ↔ x.Sound ∧ x.ChkFits := by
  rw [LaneState.good_iff]
  unfold LaneState.Sound
  constructor
  · rintro ⟨hg, hc, hrest⟩
    exact ⟨⟨hg, hrest⟩, hc⟩
  · rintro ⟨⟨hg, hrest⟩, hc⟩
    exact ⟨hg, hc, hrest⟩

theorem LaneState.Good.sound {x : LaneState} (h : x.Good) : x.Sound := (x.good_iff_sound.1 h).1

theorem LaneState.Good.chkFits {x : LaneState} (h : x.Good) : x.ChkFits := (x.good_iff_sound.1 h).2

theorem LaneState.Good.rx_of_on {x : LaneState} (h : x.Good) (hon : x.chkState ≠ .off) : x.power.rx ≠ false :=
  fun hrx => hon (h.chkFits.1.2 hrx)

theorem listening_ne_off {st : CheckerState} (h : st.listening = true) : st ≠ .off := by
  rintro rfl
  cases h

theorem listening_ne_noSignal {st : CheckerState} (h : st.listening = true) : st ≠ .noSignal := by
  rintro rfl
  cases h

/-- A checker that listens may enter any phase that listens. -/
theorem LaneState.Good.readyFor {x : LaneState} {m : Move} (h : x.Good) (hx : x.chkState.listening = true)
    (hm : m.phase.state.listening = true) : x.ReadyFor m := by
  obtain ⟨hoff, hno, hlisten, hpath⟩ := h.chkFits
  refine ⟨h.sound.1, h.sound.2, ⟨fun h' => absurd h' (listening_ne_off hm), fun hrx => ?_⟩,
    fun h' => absurd h' (listening_ne_noSignal hm), fun _ => hlisten hx, fun _ hne => ⟨(hpath hne).1, hm⟩⟩
  exact absurd hrx (h.rx_of_on (listening_ne_off hx))

/-- A move that leaves the path empty needs only the phase entered to fit power and signal. -/
theorem LaneState.Sound.readyFor {x : LaneState} {m : Move} (h : x.Sound) (hkeep : m.reason.keepsPath = false)
    (hoff : m.phase.state = .off ↔ x.power.rx = false) (hno : m.phase.state = .noSignal → x.signal = false)
    (hlisten : m.phase.state.listening = true → x.signal = true) : x.ReadyFor m :=
  ⟨h.1, h.2, hoff, hno, hlisten, fun h' => absurd (hkeep.symm.trans h') Bool.false_ne_true⟩

/-- Signal decides: the phase entered fits the signal (section 3.2). -/
theorem LaneState.Sound.readyFor_signalDecides {x : LaneState} {l : Lane} {r : Reason} (h : x.Sound)
    (hkeep : r.keepsPath = false) (hrx : x.power.rx = true) :
    x.ReadyFor { lane := l, phase := x.signalDecides, reason := r } := by
  unfold LaneState.signalDecides
  cases hs : x.signal with
  | true =>
    exact h.readyFor hkeep ⟨fun h' => (by cases h'), fun h' => (by rw [hrx] at h'; cases h')⟩ nofun fun _ => hs
  | false =>
    exact h.readyFor hkeep ⟨fun h' => (by cases h'), fun h' => (by rw [hrx] at h'; cases h')⟩ (fun _ => hs) nofun

/-- What a signal does to a checker: nothing, a rise out of NO_SIGNAL, or a fall out of a listening state (R36). -/
theorem LaneState.signalMove_cases (l : Lane) (x : LaneState) :
    (x.signalMove l = none ∧ (x.chkState = .noSignal → x.signal = false) ∧
      (x.chkState.listening = true → x.signal = true)) ∨
    (x.signal = true ∧ x.chkState = .noSignal ∧
      x.signalMove l = some { lane := l, phase := .hunt 0 0, reason := .signalUp }) ∨
    (x.signal = false ∧ x.chkState.listening = true ∧
      x.signalMove l = some { lane := l, phase := .noSignal, reason := .signal }) := by
  unfold LaneState.signalMove
  cases hs : x.signal <;> cases hc : x.chkState <;> simp [CheckerState.listening]

/-- A lane whose signal changed is ready for what the signal does. -/
theorem LaneState.Sound.readyFor_signalMove {x : LaneState} {l : Lane} {m : Move} (h : x.Sound)
    (hoff : x.chkState = .off ↔ x.power.rx = false) (hm : x.signalMove l = some m) : x.ReadyFor m := by
  rcases x.signalMove_cases l with ⟨hnone, -⟩ | ⟨hs, hc, hsome⟩ | ⟨hs, hc, hsome⟩
  · rw [hnone] at hm
    cases hm
  · rw [hsome] at hm
    cases hm
    refine h.readyFor rfl ⟨fun h' => (by cases h'), fun h' => ?_⟩ nofun fun _ => hs
    rw [hoff.2 h'] at hc
    cases hc
  · rw [hsome] at hm
    cases hm
    refine h.readyFor rfl ⟨fun h' => (by cases h'), fun h' => ?_⟩ (fun _ => hs) nofun
    exact absurd (hoff.2 h') (listening_ne_off hc)

/-! ### Events -/

theorem good_modLane {s : State} {l : Lane} {f : LaneState → LaneState} (h : ∀ k, (s.lane k).Good)
    (hf : (f (s.lane l)).Good) (k : Lane) : ((s.modLane l f).lane k).Good := by
  rw [State.modLane_lane]
  split
  · next hk => exact hk ▸ hf
  · exact h k

/-- The other lanes of a lane's own update. -/
theorem good_modLane_ne {s : State} {l : Lane} (f : LaneState → LaneState) (h : ∀ k, (s.lane k).Good) (k : Lane)
    (hk : l ≠ k) : ((s.modLane l f).lane k).Good := by
  rw [State.modLane_lane_ne hk]
  exact h k

section
variable {s : State}

theorem good_signalLevel (l : Lane) (level : Bool) (h : ∀ k, (s.lane k).Good) (k : Lane) :
    ((s.signalLevel l level).lane k).Good := by
  obtain ⟨hoff, hno, hlisten, hpath⟩ := (h l).chkFits
  have hsound : LaneState.Sound { s.lane l with sd := level } := (h l).sound
  unfold State.signalLevel
  dsimp only
  split
  · exact h k
  · split
    · next hloop =>
      have hsig : LaneState.signal { s.lane l with sd := level } = (s.lane l).signal := by
        unfold LaneState.signal
        rw [if_pos hloop, if_pos hloop]
      refine good_modLane h ((LaneState.good_iff_sound _).2 ⟨hsound, hoff, ?_, ?_, hpath⟩) k
      · rwa [hsig]
      · rwa [hsig]
    · rw [State.modLane_lane_self]
      rcases LaneState.signalMove_cases l { s.lane l with sd := level } with ⟨hnone, hno', hlisten'⟩ | hmove
      · rw [hnone]
        refine good_transition (ms := []) List.nodup_nil (fun m hm => (by cases hm)) (fun k _ => ?_) k
        exact good_modLane h ((LaneState.good_iff_sound _).2 ⟨hsound, hoff, hno', hlisten', hpath⟩) k
      · obtain ⟨m, hm⟩ : ∃ m, LaneState.signalMove l { s.lane l with sd := level } = some m := by
          rcases hmove with ⟨-, -, hm⟩ | ⟨-, -, hm⟩ <;> exact ⟨_, hm⟩
        have hl := lane_of_signalMove hm
        rw [hm]
        refine good_transition_one ?_ (fun k hk => good_modLane_ne _ h k (hl ▸ hk)) k
        rw [hl, State.modLane_lane_self]
        exact hsound.readyFor_signalMove hoff hm

/-- A hunt keeps its lane in order: the path's bits not taken stay on it. -/
theorem LaneState.Good.afterHunt {x : LaneState} (h : x.Good) (hst : x.chkState = .hunt) (hh : Hunted) :
    (x.afterHunt hh).Good := by
  obtain ⟨hoff, hno, hlisten, hpath⟩ := h.chkFits
  obtain ⟨hgen, hfits, hrest⟩ := h.sound
  have hst' : (x.afterHunt hh).chkState = x.chkState := hst.symm
  refine (LaneState.good_iff_sound _).2 ⟨⟨hgen, hst'.symm ▸ hfits, hrest⟩, hst'.symm ▸ hoff, hst'.symm ▸ hno,
    hst'.symm ▸ hlisten, fun hne => ?_⟩
  rw [hst', hst]
  unfold LaneState.afterHunt at hne
  dsimp only at hne
  split at hne
  · next hloop => exact ⟨hloop, rfl⟩
  · exact ⟨(hpath hne).1, rfl⟩

theorem LaneState.Good.flipPolarity {x : LaneState} (h : x.Good) : x.flipPolarity.Good := h

theorem chkState_eq {x : LaneState} {p : Phase} (h : x.chk.phase = p) : x.chkState = p.state := congrArg Phase.state h

theorem good_seedLoaded (l : Lane) (rx : Reception) (h : ∀ k, (s.lane k).Good) (k : Lane) :
    ((s.seedLoaded l rx).lane k).Good := by
  unfold State.seedLoaded
  dsimp only
  split
  · next w c hp _ =>
    have hgood := fun hh => (h l).afterHunt (chkState_eq hp) hh
    split
    · refine good_transition_one ?_ (fun k hk => good_modLane_ne _ h k hk) k
      rw [State.modLane_lane_self]
      exact (hgood _).readyFor rfl rfl
    · exact good_modLane h (hgood _) k
  · exact h k

theorem good_anchorMatch (l : Lane) (rx : Reception) (h : ∀ k, (s.lane k).Good) (k : Lane) :
    ((s.anchorMatch l rx).lane k).Good := by
  unfold State.anchorMatch
  dsimp only
  split
  · next w c r hp _ =>
    have hgood := fun hh => (h l).afterHunt (chkState_eq hp) hh
    split
    · refine good_transition_one ?_ (fun k hk => ?_) k
      · split
        · rw [State.modLane_modLane_lane, if_pos rfl]
          exact (hgood _).flipPolarity.readyFor rfl rfl
        · rw [State.modLane_lane_self]
          exact (hgood _).readyFor rfl rfl
      · split
        · rw [State.modLane_modLane_lane, if_neg hk]
          exact h k
        · exact good_modLane_ne _ h k hk
    · exact good_modLane h (hgood _) k
  · exact h k

/-- Taking a word from the input without leaving the checker's state keeps the lane in order. -/
theorem LaneState.Good.takeInput {x : LaneState} {rx : Reception} {w : Word} {rest : List Bool} {p : Phase} (h : x.Good)
    (hin : x.inputWord rx = some (w, rest)) (hst : p.state = x.chkState) : (x.takeInput rest p).Good := by
  obtain ⟨hoff, hno, hlisten, hpath⟩ := h.chkFits
  obtain ⟨hgen, hfits, hrest⟩ := h.sound
  have hst' : (x.takeInput rest p).chkState = x.chkState := hst
  refine (LaneState.good_iff_sound _).2 ⟨⟨hgen, hst'.symm ▸ hfits, hrest⟩, hst'.symm ▸ hoff, hst'.symm ▸ hno,
    hst'.symm ▸ hlisten, fun hne => ?_⟩
  rw [hst']
  refine hpath fun hnil => hne ?_
  unfold LaneState.inputWord at hin
  rw [hnil] at hin
  split at hin
  · split at hin <;> cases hin
    rfl
  · obtain ⟨v, -, hv⟩ := Option.map_eq_some_iff.1 hin
    cases hv
    rfl

theorem good_verifyWord (l : Lane) (rx : Reception) (h : ∀ k, (s.lane k).Good) (k : Lane) :
    ((s.verifyWord l rx).lane k).Good := by
  unfold State.verifyWord
  dsimp only
  split
  · next src t c e w rest hp hin =>
    have hgood {p : Phase} (hst : p.state = .verify) := (h l).takeInput hin (p := p) (hst.trans (chkState_eq hp).symm)
    split
    · exact good_modLane h (hgood rfl) k
    · refine good_transition_one ?_ (fun k hk => good_modLane_ne _ h k hk) k
      rw [State.modLane_lane_self]
      exact (hgood rfl).readyFor rfl rfl
    · refine good_transition_one ?_ (fun k hk => good_modLane_ne _ h k hk) k
      rw [State.modLane_lane_self]
      exact (hgood rfl).readyFor rfl rfl
    · refine good_transition_one ?_ (fun k hk => ?_) k
      · rw [State.modLane_modLane_lane, if_pos rfl]
        exact (hgood rfl).flipPolarity.readyFor rfl rfl
      · rw [State.modLane_modLane_lane, if_neg hk]
        exact h k
  · exact h k

/-- A gate that is active may end at any time. -/
theorem LaneState.Good.finishGate {x : LaneState} (l : Lane) (r : EndReason) (now : Nat) (h : x.Good)
    (ha : x.gate.state.active = true) : (x.finishGate l r now).Good := by
  obtain ⟨hgen, hfits, hkept, hcounter⟩ := h.sound
  obtain ⟨hfits', hkept', hcounter'⟩ := LaneState.gateGood_finishGate x.chkState l r now hkept hcounter ha
  exact (LaneState.good_iff_sound _).2 ⟨⟨hgen, hfits', hkept', hcounter'⟩, h.chkFits⟩

theorem LaneState.Good.meetLimits {x : LaneState} (l : Lane) (now : Nat) (h : x.Good)
    (ha : x.gate.state.active = true) : (x.meetLimits l now).Good := by
  unfold LaneState.meetLimits
  split
  · exact h.finishGate l _ now ha
  · split
    · exact h.finishGate l _ now ha
    · exact h

/-- An accepted tally of a word compared on a LOCKED lane with a RUNNING gate. -/
theorem LaneState.Good.takeTally {x : LaneState} {table : Vector (Option Filter) 16} {cap : CaptureLane} {l : Lane}
    {last : BitVec 15} {exp rcv : Word} (h : x.Good) (hlock : x.chkState = .locked) (hrun : x.gate.state = .running) :
    (x.takeTally (tallyOf table cap x l last exp rcv)).Good := by
  obtain ⟨hgen, ⟨hwait, hon, -⟩, ⟨-, hset, hdone, hres⟩, hlaws, hsym, hrec⟩ := h.sound
  have ha : x.gate.state.active = true := by rw [hrun]; rfl
  refine (LaneState.good_iff_sound _).2 ⟨⟨hgen, ⟨hwait, hon, fun _ => ⟨hrun, hlock⟩⟩, ⟨fun _ => ha, hset, hdone, hres⟩,
    Counters.laws_add hlaws, fun _ => ?_, hrec⟩, h.chkFits⟩
  exact Counters.symbolLaws_add (hsym ha) (tallyOf_symbolLaws ..)

theorem LaneState.SameButMissed.gate_state {x y : LaneState} (h : x.SameButMissed y) : y.gate.state = x.gate.state := by
  obtain ⟨n, rfl⟩ := h
  rfl

theorem good_testLimits {l : Lane} (h : ∀ k, (s.lane k).Good) (ha : (s.lane l).gate.state.active = true) (k : Lane) :
    ((s.testLimits l).lane k).Good := by
  rw [State.testLimits_lane]
  split
  · next hk => exact hk ▸ (h l).meetLimits l s.uptime ha
  · exact h k

theorem good_account {l : Lane} {last : BitVec 15} {wr : WordResult} {exp rcv : Word} (h : ∀ k, (s.lane k).Good)
    (hlock : (s.lane l).chkState = .locked) (hwr : wr = resultOf (s.lane l) l last exp rcv) (k : Lane) :
    ((s.account l last wr).lane k).Good := by
  subst hwr
  unfold State.account State.acceptTally
  dsimp only
  split
  · next hrun =>
    have ha : (s.lane l).gate.state.active = true := by rw [hrun]; rfl
    have hgood := good_modLane (f := LaneState.takeTally (tallyOf s.filters s.log.lanes[l] (s.lane l) l last exp rcv)) h
      ((h l).takeTally hlock hrun)
    split
    · split
      · next cand _ =>
        refine good_testLimits (fun k => (sameButMissed_grant k _).good ?_) ?_ k
        · rw [State.offerTally_lane]
          exact hgood k
        · rw [(sameButMissed_grant l _).gate_state, State.offerTally_lane, State.modLane_lane_self]
          exact ha
      · refine good_testLimits hgood ?_ k
        rw [State.modLane_lane_self]
        exact ha
    · rw [State.saturateGate_lane]
      split
      · next hk => exact hk ▸ (h l).finishGate l _ _ ha
      · exact h k
  · exact h k

theorem State.dwellWord_lane (l k : Lane) (n : Nat) (s : State) : (s.dwellWord l n).lane k = s.lane k := by
  unfold State.dwellWord
  split
  · rfl
  · split
    · split
      · rfl
      · dsimp only
        split <;> rfl
      · rfl
    · rfl

/-- The gate's part of a word leaves the checker as it is. -/
theorem account_onlyGate (l : Lane) (last : BitVec 15) (wr : WordResult) (s : State) (k : Lane) :
    (s.lane k).OnlyGate ((s.account l last wr).lane k) := by
  have htest (u : State) : (u.lane k).OnlyGate ((u.testLimits l).lane k) := by
    rw [State.testLimits_lane]
    split
    · unfold LaneState.meetLimits
      split_ifs <;> rfl
    · rfl
  unfold State.account State.acceptTally
  dsimp only
  split
  · have htake : (s.lane k).OnlyGate ((s.modLane l (LaneState.takeTally
        (buildTally s.filters s.log.lanes[l] (s.lane l) last wr))).lane k) := by
      rw [State.modLane_lane]
      split <;> rfl
    split
    · split
      · refine htake.trans (LaneState.OnlyGate.trans ?_ (htest _))
        have := (sameButMissed_grant k (State.offerTally l ‹Candidate› (s.modLane l (LaneState.takeTally
          (buildTally s.filters s.log.lanes[l] (s.lane l) last wr))))).onlyGate
        rwa [State.offerTally_lane] at this
      · exact htake.trans (htest _)
    · rw [State.saturateGate_lane]
      split <;> rfl
  · rfl

theorem LaneState.OnlyGate.chkState {x y : LaneState} (h : x.OnlyGate y) : y.chkState = x.chkState := by
  rw [h]
  rfl

theorem lossBlock_state (cfg : ChkConfig) (src : Source) (last : BitVec 15) (b e : Nat) :
    (lossBlock cfg src last b e).state = .locked := by
  unfold lossBlock
  split <;> rfl

theorem good_declareLoss {l : Lane} (written : Bool) (h : ∀ k, (s.lane k).Good) (hlock : (s.lane l).chkState = .locked)
    (k : Lane) : ((s.declareLoss l written).lane k).Good := by
  have hwritten (k : Lane) : (s.lane k).SameButMissed ((if written then s.writeCompletion else s).lane k) := by
    split
    · exact sameButMissed_writeCompletion k s
    · exact .refl _
  refine good_transition_one ?_ (fun k _ => (hwritten k).good (h k)) k
  refine ((hwritten l).good (h l)).readyFor ?_ rfl
  rw [(hwritten l).onlyGate.chkState, hlock]
  rfl

theorem good_lockedWord (l : Lane) (rx : Reception) (above : List Bool) (written : Bool) (h : ∀ k, (s.lane k).Good)
    (k : Lane) : ((s.lockedWord l rx above written).lane k).Good := by
  unfold State.lockedWord
  dsimp only
  split
  · next src last b e w rest hp hin =>
    have hlock := chkState_eq hp
    have htake {p : Phase} (hst : p.state = .locked) :=
      good_modLane (f := LaneState.takeInput rest p) h ((h l).takeInput hin (hst.trans hlock.symm))
    have hword {p : Phase} (hst : p.state = .locked) (exp rcv : Word) (n : Nat) (k : Lane) :
        ((((s.modLane l (LaneState.takeInput rest p)).account l last
          (buildResult l (s.lane l).pam4 (s.lane l).chk.config.polarity last exp rcv)).dwellWord l n).lane k).Good := by
      rw [State.dwellWord_lane]
      refine good_account (exp := exp) (rcv := rcv) (htake hst) ?_ ?_ k
      · rw [State.modLane_lane_self]
        exact hst
      · rw [State.modLane_lane_self]
        rfl
    split
    · refine good_declareLoss written (hword (lossBlock_state ..) _ _ _) ?_ k
      rw [State.dwellWord_lane, (account_onlyGate l last _ _ l).chkState, State.modLane_lane_self]
      exact lossBlock_state ..
    · exact hword (lossBlock_state ..) _ _ _ k
  · exact h k

end

/-! ### The gate timer -/

/-- A change of a gate's own counts keeps its lane in order. -/
theorem LaneState.Good.counts {x : LaneState} (h : x.Good) (c : GateCounts) :
    LaneState.Good { x with gate := { x.gate with counts := c } } := h

/-- Closing an interval keeps the lane in order: the mark clears, and the laws say nothing of intervals. -/
theorem LaneState.Good.closeInterval {x : LaneState} (h : x.Good) : x.closeInterval.Good := by
  obtain ⟨hgen, hfits, ⟨-, hset, hdone, hres⟩, hcounter⟩ := h.sound
  exact (LaneState.good_iff_sound _).2
    ⟨⟨hgen, hfits, ⟨fun hm => absurd hm Bool.false_ne_true, hset, hdone, hres⟩, hcounter⟩, h.chkFits⟩

theorem LaneState.Good.tickRunning {x : LaneState} (h : x.Good) : x.tickRunning.Good := by
  unfold LaneState.tickRunning
  dsimp only
  split
  · exact LaneState.Good.closeInterval (h.counts _)
  · exact h.counts _

theorem LaneState.tickRunning_state (x : LaneState) : x.tickRunning.gate.state = x.gate.state := by
  unfold LaneState.tickRunning
  dsimp only
  split <;> rfl

theorem LaneState.Good.gateExpiry {x : LaneState} (l : Lane) (now : Nat) (h : x.Good) : (x.gateExpiry l now).Good := by
  unfold LaneState.gateExpiry
  split
  · exact h
  · next hst =>
    have ha : x.gate.state.active = true := by rw [hst]; rfl
    split
    · exact LaneState.Good.finishGate (x := { x with gate := x.gate.tickArm }) l _ now (h.counts _) ha
    · exact h.counts _
  · next hst =>
    have ha : x.gate.state.active = true := by rw [hst]; rfl
    have ha' : x.tickRunning.gate.state.active = true := by rwa [LaneState.tickRunning_state]
    split
    · exact h.finishGate l _ now ha
    · split
      · exact h.tickRunning.finishGate l _ now ha'
      · split
        · exact h.tickRunning.finishGate l _ now ha'
        · exact h.tickRunning
  · next hst =>
    have ha : x.gate.state.active = true := by rw [hst]; rfl
    split
    · exact h.finishGate l _ now ha
    · exact h.counts _
  · exact h

/-! ### Generators -/

theorem Generator.ShapingInv.beginWord {g : Generator} (st : Store) (pam4 : Bool) (h : g.ShapingInv) :
    (g.beginWord st pam4).ShapingInv := by
  obtain ⟨htriple, hrun⟩ := h
  unfold Generator.beginWord
  split
  · exact ⟨htriple, hrun⟩
  · next run hr =>
    refine ⟨htriple, fun run' hrun' => ?_⟩
    cases hrun'
    refine ⟨fun p hp => ?_, settledAmplitudes_withinFullSwing (hrun run hr).1 htriple⟩
    cases hp
    exact htriple

theorem Generator.beginWord_isSome (st : Store) (pam4 : Bool) (g : Generator) :
    (g.beginWord st pam4).run.isSome = g.run.isSome := by
  unfold Generator.beginWord
  split
  · rfl
  · next h => rw [h]; rfl

/-- A generator's change that keeps it running or OFF leaves the signal as it was. -/
theorem LaneState.Good.withGen {x : LaneState} {g : Generator} (h : x.Good) (hg : g.ShapingInv)
    (hr : g.run.isSome = x.gen.run.isSome) : LaneState.Good { x with gen := g } := by
  obtain ⟨hoff, hno, hlisten, hpath⟩ := h.chkFits
  obtain ⟨⟨-, htx⟩, hrest⟩ := h.sound
  have hsig : LaneState.signal { x with gen := g } = x.signal := by
    unfold LaneState.signal
    rw [hr]
  refine (LaneState.good_iff_sound _).2 ⟨⟨⟨hg, hr.trans htx⟩, hrest⟩, hoff, ?_, ?_, hpath⟩
  · rwa [hsig]
  · rwa [hsig]

/-- A path that grows only for a listening checker with loopback on. -/
theorem LaneState.Good.withPath {x : LaneState} {path : List Bool} (h : x.Good)
    (hp : path = x.path ∨ (x.loopback = true ∧ x.chkState.listening = true)) :
    LaneState.Good { x with path := path } := by
  obtain ⟨hoff, hno, hlisten, hpath⟩ := h.chkFits
  refine (LaneState.good_iff_sound _).2 ⟨h.sound, hoff, hno, hlisten, fun hne => ?_⟩
  rcases hp with rfl | hp
  · exact hpath hne
  · exact hp

theorem LaneState.Good.generatorWord {x : LaneState} (st : Store) (h : x.Good) : (x.generatorWord st).Good := by
  have hgen := h.withGen (h.sound.1.1.beginWord st x.pam4) (Generator.beginWord_isSome st x.pam4 x.gen)
  refine LaneState.Good.withPath (x := { x with gen := x.gen.beginWord st x.pam4 }) hgen ?_
  split
  · next hc =>
    simp only [Bool.and_eq_true] at hc
    exact .inr hc.1
  · exact .inl rfl

/-! ### Resets -/

theorem LaneState.genFits_initial (sd : Bool) : (LaneState.initial sd).GenFits := by
  have htriple : Triple.InRange ⟨0, 63, 0⟩ := by
    unfold Triple.InRange
    decide
  exact ⟨⟨htriple, nofun⟩, rfl⟩

theorem LaneState.chkFits_initial (sd : Bool) : (LaneState.initial sd).ChkFits :=
  ⟨⟨fun _ => rfl, fun _ => rfl⟩, (fun h => by cases h), (fun h => by cases h), fun h => absurd rfl h⟩

theorem LaneState.gateFits_initial (sd : Bool) : (LaneState.initial sd).GateFits .off :=
  ⟨fun h => h.elim (fun h => by cases h) (fun h => by cases h), (fun h => by cases h), fun h => absurd rfl h⟩

theorem LaneState.gateKept_initial (sd : Bool) : (LaneState.initial sd).GateKept :=
  ⟨(fun h => by cases h), fun h => absurd rfl h, ⟨(fun h => by cases h), (fun h => by cases h)⟩, (fun h => by cases h)⟩

theorem LaneState.counterInv_initial (sd : Bool) : (LaneState.initial sd).CounterInv :=
  ⟨Counters.laws_zero, (fun h => by cases h), (fun _ h => by cases h)⟩

theorem LaneState.good_initial (sd : Bool) : (LaneState.initial sd).Good :=
  (LaneState.good_iff _).2
    ⟨genFits_initial sd, chkFits_initial sd, gateFits_initial sd, gateKept_initial sd, counterInv_initial sd⟩

theorem good_freshLanes {s t : State} (h : t.lanes = s.freshLanes) (k : Lane) : (t.lane k).Good := by
  have hk : t.lane k = .initial (s.lane k).sd := by rw [← State.freshLanes_lane, ← h]; rfl
  exact hk ▸ LaneState.good_initial _

theorem EventEffect.good {s t : State} (h : EventEffect s t) (hs : ∀ k, (s.lane k).Good) (k : Lane) :
    (t.lane k).Good := by
  have other {F : Lane → HistoryFlag → Prop} {u : State} (h : Touches (fun _ => False) F s u) : (u.lane k).Good :=
    (h.otherLane not_false).good (hs k)
  cases h with
  | nothing | uptime => exact hs k
  | powerOn | lineReset | softReset => exact good_freshLanes (s := s) rfl k
  | generatorWord l => exact good_modLane hs ((hs l).generatorWord s.store) k
  | signal l level => exact good_signalLevel l level hs k
  | seed l rx => exact good_seedLoaded l rx hs k
  | anchor l rx => exact good_anchorMatch l rx hs k
  | verify l rx => exact good_verifyWord l rx hs k
  | word l rx above written => exact good_lockedWord l rx above written hs k
  | gateTimer l =>
    rw [State.gateExpiry_lane]
    split
    · next hk => exact hk ▸ (hs l).gateExpiry l s.uptime
    · exact hs k
  | write => exact other (F := anyFlag) (touches_writeCompletion s)
  | settle midWord => exact other (F := anyFlag) (touches_settleExpiry midWord s)
  | lockWait => exact other (F := anyFlag) (touches_lockWaitExpiry s)

/-! ### Requests -/

theorem good_onLanes {s : State} {b : LaneSet} {f : LaneState → LaneState} (hs : ∀ k, (s.lane k).Good)
    (hf : ∀ k ∈ lanesOf b, (f (s.lane k)).Good) (k : Lane) : ((s.onLanes b f).lane k).Good := by
  rw [State.onLanes_lane]
  split
  · next hk => exact hf k ((mem_lanesOf b k).2 hk)
  · exact hs k

theorem Generator.ShapingInv.reload {g : Generator} (h : g.ShapingInv) : g.reload.ShapingInv := by
  refine ⟨h.1, fun run hrun => ?_⟩
  obtain ⟨old, hold, rfl⟩ := Option.map_eq_some_iff.1 hrun
  exact h.2 old hold

theorem Generator.reload_isSome (g : Generator) : g.reload.run.isSome = g.run.isSome := Option.isSome_map

theorem Generator.ShapingInv.configure {g : Generator} (pattern : Nat) (pol : Polarity) (src : ShapingSource)
    {t : Triple} (h : g.ShapingInv) (ht : t.InRange) : (g.configure pattern pol src t).ShapingInv := by
  have hset : Generator.ShapingInv
      { g.cancelPending with pattern := pattern, polarity := pol, shaping := src, triple := t } := ⟨ht, h.2⟩
  unfold Generator.configure
  dsimp only
  split
  · exact hset.reload
  · exact hset

theorem Generator.configure_isSome (pattern : Nat) (pol : Polarity) (src : ShapingSource) (t : Triple) (g : Generator) :
    (g.configure pattern pol src t).run.isSome = g.run.isSome := by
  unfold Generator.configure
  dsimp only
  split
  · exact Generator.reload_isSome _
  · rfl

/-- LANE_SET's settings leave everything but the checker's agreement in order, where the rate of an active gate stays. -/
theorem LaneState.Good.applySettings {x : LaneState} (power : LanePower) {rate : Fin 4} {loopback : Bool} (h : x.Good)
    (hidle : (x.gate.state.active && x.reconfigures rate loopback) = false) :
    (x.applySettings power rate loopback).Sound := by
  obtain ⟨⟨hshape, htx⟩, hfits, hkept, hlaws, hsym, hrec⟩ := h.sound
  refine ⟨?_, hfits, hkept, hlaws, fun ha => ?_, hrec⟩
  · unfold LaneState.applySettings LaneState.GenFits
    dsimp only
    split
    · next hp =>
      refine ⟨⟨hshape.1, fun run hrun => ?_⟩, ((Bool.and_eq_true_iff.1 hp).1).symm⟩
      cases hrun
      exact ⟨nofun, nofun⟩
    · next hstart =>
      split
      · next hp =>
        have hoff : power.tx = false := by simpa using (Bool.and_eq_true_iff.1 hp).1
        exact ⟨⟨hshape.1, nofun⟩, hoff.symm⟩
      · next hstop =>
        have hsame : x.power.tx = power.tx := by
          revert hstart hstop
          cases x.power.tx <;> cases power.tx <;> decide
        rw [hsame] at htx
        split
        · exact ⟨hshape.reload, (Generator.reload_isSome _).trans htx⟩
        · exact ⟨hshape, htx⟩
  · have ha' : x.gate.state.active = true := ha
    rw [ha', Bool.true_and, LaneState.reconfigures, Bool.or_eq_false_iff, bne_eq_false_iff_eq] at hidle
    have hpam : (x.applySettings power rate loopback).pam4 = x.pam4 := by
      rw [LaneState.pam4, LaneState.pam4, hidle.1]
      rfl
    rw [hpam]
    exact hsym ha'

/-- What LANE_SET does to a checker: nothing where power and signal still fit its state, or a move that fits them. -/
theorem LaneState.Good.settingsMove {x : LaneState} (l : Lane) (power : LanePower) {rate : Fin 4} {loopback : Bool}
    (h : x.Good) (hidle : (x.gate.state.active && x.reconfigures rate loopback) = false) :
    (settingsMove l x (x.applySettings power rate loopback) = none → (x.applySettings power rate loopback).Good) ∧
    ∀ m, settingsMove l x (x.applySettings power rate loopback) = some m →
      (x.applySettings power rate loopback).ReadyFor m := by
  have hsound := h.applySettings power hidle
  obtain ⟨hoff, hno, hlisten, hpath⟩ := h.chkFits
  have hst : (x.applySettings power rate loopback).chkState = x.chkState := rfl
  have hpower : (x.applySettings power rate loopback).power = power := rfl
  have hkeep : (x.applySettings power rate loopback).path = x.path := rfl
  have hloop : (x.applySettings power rate loopback).loopback = loopback := rfl
  have hrate : (x.applySettings power rate loopback).rate = rate := rfl
  generalize x.applySettings power rate loopback = y at *
  have good (hrx : y.power.rx = x.power.rx) (hno' : y.chkState = .noSignal → y.signal = false)
      (hlisten' : y.chkState.listening = true → y.signal = true)
      (hpath' : x.path ≠ [] → y.loopback = x.loopback) : y.Good := by
    refine (LaneState.good_iff_sound _).2 ⟨hsound, by rwa [hst, hrx], hno', hlisten', fun hne => ?_⟩
    rw [hkeep] at hne
    rw [hst, hpath' hne]
    exact hpath hne
  unfold Machine.settingsMove
  split
  · next hp =>
    refine ⟨nofun, fun m hm => ?_⟩
    cases hm
    have hrx : y.power.rx = false := by simpa using (Bool.and_eq_true_iff.1 hp).2
    exact hsound.readyFor rfl ⟨fun _ => hrx, fun _ => rfl⟩ nofun nofun
  · next hdown =>
    split
    · next hp =>
      refine ⟨nofun, fun m hm => ?_⟩
      cases hm
      exact hsound.readyFor_signalDecides rfl (Bool.and_eq_true_iff.1 hp).2
    · next hup =>
      have hrx : y.power.rx = x.power.rx := by
        revert hdown hup
        cases x.power.rx <;> cases y.power.rx <;> decide
      split
      · next hst' =>
        have hquiet : x.chkState.listening = false := by rcases hst' with h | h <;> rw [h] <;> rfl
        refine ⟨fun _ => good hrx (fun h' => ?_) (fun h' => ?_) (fun hne => ?_), nofun⟩
        · rw [hst] at h'
          rcases hst' with h | h <;> rw [h] at h' <;> cases h'
        · rw [hst, hquiet] at h'
          cases h'
        · rw [(hpath hne).2] at hquiet
          cases hquiet
      · next hactive =>
        obtain ⟨hnoff, -⟩ := not_or.1 hactive
        have hon : y.power.rx = true := by
          rw [hrx]
          exact Bool.eq_true_of_not_eq_false fun h' => hnoff (hoff.2 h')
        split
        · split
          · next hquiet =>
            refine ⟨fun _ => good hrx (fun _ => hquiet.2) (fun h' => ?_) (fun hne => ?_), nofun⟩
            · rw [hst, hquiet.1] at h'
              cases h'
            · have := (hpath hne).2
              rw [hquiet.1] at this
              cases this
          · refine ⟨nofun, fun m hm => ?_⟩
            cases hm
            exact hsound.readyFor_signalDecides rfl hon
        · next hre =>
          have hsame : y.loopback = x.loopback := by
            rw [LaneState.reconfigures, Bool.or_eq_true, not_or] at hre
            exact (show x.loopback = y.loopback by simpa using hre.2).symm
          split
          · next hsig =>
            exact ⟨fun _ => good hrx (by rwa [hst, ← hsig]) (by rwa [hst, ← hsig]) fun _ => hsame, nofun⟩
          · refine ⟨fun hnone => ?_, fun m hm => hsound.readyFor_signalMove (by rwa [hst, hrx]) hm⟩
            rcases y.signalMove_cases l with ⟨-, hno', hlisten'⟩ | ⟨-, -, hsome⟩ | ⟨-, -, hsome⟩
            · exact good hrx hno' hlisten' fun _ => hsame
            · rw [hsome] at hnone
              cases hnone
            · rw [hsome] at hnone
              cases hnone

/-- Moves made lane by lane from a lane set are of distinct lanes. -/
theorem nodup_filterMap_lanes {b : LaneSet} {f : Lane → Option Move} (hf : ∀ l m, f l = some m → m.lane = l) :
    (((lanesOf b).filterMap f).map Move.lane).Nodup := by
  refine List.Nodup.sublist ?_ (nodup_lanesOf b)
  rw [List.map_filterMap]
  generalize lanesOf b = ls
  induction ls with
  | nil => exact List.Sublist.refl _
  | cons l ls ih =>
    rw [List.filterMap_cons]
    cases hl : f l with
    | none => exact ih.cons l
    | some m => exact hf l m hl ▸ ih.cons_cons l

theorem good_applyLaneSet {s : State} {b : LaneSet} (power : LanePower) {rate : Fin 4} {loopback : Bool}
    (hs : ∀ k, (s.lane k).Good)
    (hidle : ∀ l ∈ lanesOf b, ((s.lane l).gate.state.active && (s.lane l).reconfigures rate loopback) = false) (k : Lane) :
    ((s.applyLaneSet b power rate loopback).lane k).Good := by
  refine good_transition (nodup_filterMap_lanes fun l m => settingsMove_lane) (fun m hm => ?_) (fun k hk => ?_) k
  · obtain ⟨l, hl, hmove⟩ := List.mem_filterMap.1 hm
    obtain rfl := settingsMove_lane hmove
    rw [State.onLanes_lane, if_pos ((mem_lanesOf b _).1 hl)]
    exact ((hs _).settingsMove _ power (hidle _ hl)).2 m hmove
  · rw [State.onLanes_lane]
    split
    · next hb =>
      have hl := (mem_lanesOf b k).2 hb
      refine ((hs k).settingsMove k power (hidle k hl)).1 ?_
      cases hmove : settingsMove k (s.lane k) ((s.lane k).applySettings power rate loopback) with
      | none => rfl
      | some m => exact absurd (settingsMove_lane hmove) (hk m (List.mem_filterMap.2 ⟨k, hl, hmove⟩))
    · exact hs k

theorem nodup_holdMoves (s : State) (b : LaneSet) : ((s.holdMoves b).map Move.lane).Nodup := by
  unfold State.holdMoves
  rw [List.map_map, show Move.lane ∘ (fun l => { lane := l, phase := .held, reason := .held }) = id from rfl, List.map_id]
  exact (nodup_lanesOf b).filter _

theorem good_hold {s : State} {b : LaneSet} (hs : ∀ k, (s.lane k).Good)
    (hon : ∀ l ∈ lanesOf b, (s.lane l).chkState ≠ .off) (k : Lane) :
    ((s.transition (s.holdMoves b)).lane k).Good := by
  refine good_transition (nodup_holdMoves s b) (fun m hm => ?_) (fun k _ => hs k) k
  obtain ⟨l, hl, -, rfl⟩ := mem_holdMoves hm
  exact (hs l).sound.readyFor rfl ⟨nofun, fun h => absurd h ((hs l).rx_of_on (hon l hl))⟩ nofun nofun

theorem nodup_releaseMoves (s : State) (b : LaneSet) : ((s.releaseMoves b).map Move.lane).Nodup := by
  unfold State.releaseMoves
  rw [List.map_map, show Move.lane ∘ (fun l => { lane := l, phase := (s.lane l).signalDecides, reason := .released }) = id
    from rfl, List.map_id]
  exact nodup_lanesOf b

theorem good_release {s : State} {b : LaneSet} (hs : ∀ k, (s.lane k).Good)
    (hheld : ∀ l ∈ lanesOf b, (s.lane l).chkState = .held) (k : Lane) :
    ((s.transition (s.releaseMoves b)).lane k).Good := by
  refine good_transition (nodup_releaseMoves s b) (fun m hm => ?_) (fun k _ => hs k) k
  obtain ⟨l, hl, rfl⟩ := List.mem_map.1 hm
  have hon : (s.lane l).power.rx ≠ false := (hs l).rx_of_on (by rw [hheld l hl]; nofun)
  exact (hs l).sound.readyFor_signalDecides rfl (Bool.eq_true_of_not_eq_false hon)

theorem firstGateState_cases (mode : StartMode) (chk : CheckerState) :
    (firstGateState mode chk).active = true ∧ firstGateState mode chk ≠ .done ∧
      (firstGateState mode chk = .armed ∨ firstGateState mode chk = .paused → chk ≠ .locked) := by
  cases mode <;> cases chk <;> decide

/-- A gate started on a checker that is not OFF (R91). -/
theorem LaneState.Good.startGate {x : LaneState} (args : GateArgs) (now : Nat) (h : x.Good) (hon : x.chkState ≠ .off) :
    (x.startGate args now).Good := by
  obtain ⟨hgen, -, -, -, -, hrec⟩ := h.sound
  obtain ⟨hactive, hdone, hwait⟩ := firstGateState_cases args.mode x.chkState
  have hsym (pam4 : Bool) : Counters.zero.SymbolLaws pam4 := by
    unfold Counters.SymbolLaws
    cases pam4 <;> decide
  exact (LaneState.good_iff_sound _).2 ⟨⟨hgen, ⟨hwait, fun _ => hon, fun h => absurd rfl h⟩,
    ⟨nofun, fun _ => ⟨rfl, rfl⟩, ⟨fun h => absurd h hdone, nofun⟩, fun h => absurd h hdone⟩,
    Counters.laws_zero, fun _ => hsym _, hrec⟩, h.chkFits⟩

theorem startGates_lane (args : GateArgs) (ls : List Lane) (hls : ls.Nodup) (s : State) (k : Lane) :
    (ls.foldl (fun s l => s.startGate args l) s).lane k =
      if k ∈ ls then (s.lane k).startGate args s.uptime else s.lane k := by
  induction ls generalizing s with
  | nil => simp
  | cons l rest ih =>
    obtain ⟨hl, hrest⟩ := List.nodup_cons.1 hls
    have hup : (s.startGate args l).uptime = s.uptime := rfl
    have hlane : (s.startGate args l).lane k = if l = k then (s.lane k).startGate args s.uptime else s.lane k :=
      State.modLane_lane ..
    rw [List.foldl_cons, ih hrest, hup, hlane]
    by_cases hk : l = k
    · subst hk
      simp [hl]
    · simp [hk, Ne.symm hk]

theorem stopGates_lane (ls : List Lane) (hls : ls.Nodup) (s : State) (k : Lane) :
    (ls.foldl (fun s l => s.stopGate l) s).lane k =
      if k ∈ ls then (s.lane k).endIfActive k .stopped s.uptime else s.lane k := by
  induction ls generalizing s with
  | nil => simp
  | cons l rest ih =>
    obtain ⟨hl, hrest⟩ := List.nodup_cons.1 hls
    have hup : (s.stopGate l).uptime = s.uptime := (sameBase_stopGate l s).uptime
    rw [List.foldl_cons, ih hrest, hup, State.stopGate_lane]
    by_cases hk : l = k
    · subst hk
      simp [hl]
    · simp [hk, Ne.symm hk]

theorem RequestEffect.good {s t : State} (h : RequestEffect s t) (hs : ∀ k, (s.lane k).Good) (k : Lane) :
    (t.lane k).Good := by
  cases h with
  | laneSet b power rate loopback hb hidle => exact good_applyLaneSet power hs hidle k
  | genSet b pattern pol src tr hb hp ht =>
    exact good_onLanes hs (fun l _ => (hs l).withGen ((hs l).sound.1.1.configure pattern pol src ht)
      (Generator.configure_isSome ..)) k
  | genInsert b m hb => exact good_onLanes hs (fun l _ => (hs l).withGen (g := (s.lane l).gen.setMode m)
      (hs l).sound.1.1 rfl) k
  | genRead l n hl =>
    refine good_modLane hs ?_ k
    exact (hs l).withGen (g := { (s.lane l).gen with inserted := n (s.lane l).gen.inserted }) (hs l).sound.1.1 rfl
  | chkSet b cfg hb hp => exact good_onLanes hs (fun l _ => hs l) k
  | chkHold b hb hon => exact good_hold hs hon k
  | chkRelease b hb hheld => exact good_release hs hheld k
  | gateStart b args hb hidle hon =>
    rw [startGates_lane args _ (nodup_lanesOf b)]
    split
    · next hk => exact (hs k).startGate args _ (hon k hk)
    · exact hs k
  | gateStop b hb =>
    rw [stopGates_lane _ (nodup_lanesOf b)]
    split
    · unfold LaneState.endIfActive
      split
      · next ha => exact (hs k).finishGate k _ _ ha
      · exact hs k
    · exact hs k
  | captureSet b mode quota hb =>
    have hlane : ((lanesOf b).foldl (fun s l => s.modCapture l fun c => { c with mode := mode, quota := quota }) s).lane k
        = s.lane k :=
      foldl_keeps (fun s t : State => t.lane k = s.lane k) (fun _ => rfl) (fun _ _ _ h h' => h'.trans h)
        (fun s l => s.modCapture l _) (fun _ _ => rfl) _ s
    rw [hlane]
    exact hs k
  | _ => exact hs k

/-- Settles O59: power, signal and gate are tested where a checker changes its state, a word is counted whole by a tally
that obeys the laws, and a gate ends with its burst closed. -/
theorem stepKeepsLanes : Obligations.StepKeepsLanes := fun _ _ hs hstep =>
  step_keeps (P := fun s => ∀ k, (s.lane k).Good) (fun _ _ h => h) (fun _ _ h => h) (fun _ _ h hs => h.good hs)
    (fun _ _ h hs => h.good hs) hs hstep

/-- Settles O3: after a reset nothing is stored, queued, open or running. -/
theorem resetStateMeetsInvariants : Obligations.ResetStateMeetsInvariants := by
  have hlane (l : Lane) : State.reset.lane l = .initial false := Vector.getElem_replicate _
  refine ⟨(State.storeInv_iff _).2 ⟨Store.inv_initial, fun l => ?_⟩, ControlLine.inv_initial,
    (CaptureLog.inv_iff _).2 ⟨CaptureLog.loose_initial, CaptureLog.settled_initial⟩, Margin.inv_initial,
    fun l _ => ⟨?_, Vector.getElem_replicate _, rfl⟩, fun l => ?_⟩
  · rw [hlane]
    exact ⟨rfl, rfl⟩
  · rw [hlane]
    rfl
  · rw [hlane]
    exact LaneState.good_initial false

end Sys2Proof.Machine

/-! Receiver, queues, sender and resets of the part (O2, O4 to O11, O13, O14). -/

namespace Sys2Proof.Machine

/-! ### Resets (R168, R169) -/

theorem LaneState.atReset_initial (sd : Bool) : (LaneState.initial sd).AtReset :=
  ⟨rfl, rfl, rfl, rfl, rfl, rfl, rfl, rfl, rfl⟩

theorem Margin.atReset_initial : Margin.initial.AtReset := by
  refine ⟨rfl, rfl, rfl, rfl, rfl, fun l => ⟨?_, ?_, fun i => ?_⟩⟩
  · simp [Margin.initial]
  · simp [Margin.initial, PointTable.initial]
  · simp [Margin.initial, PointTable.initial]

theorem CaptureLog.atReset_initial : CaptureLog.initial.AtReset :=
  ⟨rfl, rfl, rfl, rfl, rfl, rfl, rfl, rfl, fun l => by simp [CaptureLog.initial]⟩

theorem ControlLine.atReset_initial : ControlLine.initial.AtReset := ⟨rfl, rfl, rfl, rfl, rfl, rfl, rfl, rfl⟩

/-- What the three resets have in common. -/
theorem resetFrom_of {s t : State} (hup : t.uptime = 0) (hl : t.lanes = s.freshLanes)
    (hf : t.filters = Vector.replicate 16 none) (hm : t.margin = .initial) (hlog : t.log = .initial)
    (hline : t.line = .initial) (hp : t.pending = s.pending) : s.ResetFrom t := by
  refine ⟨hup, fun l => ?_, fun k => ?_, hm ▸ Margin.atReset_initial, hlog ▸ CaptureLog.atReset_initial,
    hline ▸ ControlLine.atReset_initial, hp⟩
  · have hlane : t.lane l = .initial (s.lane l).sd := by
      rw [← State.freshLanes_lane, ← hl]
      rfl
    rw [hlane]
    exact ⟨LaneState.atReset_initial _, rfl⟩
  · rw [hf]
    simp

theorem Store.region_replicate_none (m : List Host.Cell) (id : Nat) :
    ({ memory := m, regions := Vector.replicate 16 none } : Store).region id = none := by
  unfold Store.region
  split <;> simp

/-- Settles O2. -/
theorem resetsReachResetValues : Obligations.ResetsReachResetValues := by
  intro s
  refine ⟨fun st => ⟨⟨s.powerOnReset st, rfl, resetFrom_of rfl rfl rfl rfl rfl rfl rfl, rfl, rfl, fun l => ?_,
    fun _ => rfl, Store.region_replicate_none [], fun h => ?_, fun h => ?_, fun h => ?_, fun h => ?_⟩,
    ⟨s.lineReset st, rfl, resetFrom_of rfl rfl rfl rfl rfl rfl rfl, rfl, rfl, fun l => ?_, rfl,
      Store.region_replicate_none _⟩⟩, fun h => ?_, fun h => ?_⟩
  case refine_1 | refine_6 => exact Vector.getElem_replicate _
  case refine_2 | refine_3 | refine_4 | refine_5 =>
    show baudRate st.baud = _
    rw [h]
    rfl
  case refine_7 =>
    obtain ⟨hdue, hs, hr⟩ := h
    refine ⟨s.softResetNow, congrArg _ (if_pos ?_), resetFrom_of rfl rfl rfl rfl rfl rfl rfl, rfl, rfl, rfl, rfl⟩
    simp [ControlLine.resetActs, hdue, hs, hr]
  case refine_8 =>
    refine congrArg _ (if_neg fun hacts => h ?_)
    simpa [ControlLine.resetActs, and_assoc] using hacts

/-- Settles O7. -/
theorem gapAndUptimeTick : Obligations.GapAndUptimeTick := by
  refine ⟨fun s => rfl, fun s h => ?_, fun s h => ?_⟩
  · show Host.Outcome.next s.uptimeTick = _
    rw [State.uptimeTick, Nat.mod_eq_of_lt (by omega)]
  · show Host.Outcome.next s.uptimeTick = _
    rw [State.uptimeTick, h]
    rfl

/-! ### The receiver (R160) -/

/-- The scan of a buffer with fuel for all of it. -/
def scanAll (buf : List Byte) : Scanned := scan (buf.length + 1) buf

/-- A scan with fuel beyond the buffer's length does not depend on it. -/
theorem scan_fuel {n m : Nat} {buf : List Byte} (hn : buf.length < n) (hm : buf.length < m) :
    scan n buf = scan m buf := by
  induction n generalizing m buf with
  | zero => omega
  | succ n ih =>
    obtain ⟨m, rfl⟩ : ∃ k, m = k + 1 := ⟨m - 1, by omega⟩
    rcases buf with _ | ⟨b, _ | ⟨len, rest⟩⟩
    · rfl
    · simp only [scan]
      rw [ih (m := m) (by simp at hn ⊢; omega) (by simp at hm ⊢; omega)]
    · simp only [List.length_cons] at hn hm
      have hskip : scan n (len :: rest) = scan m (len :: rest) :=
        ih (by simp; omega) (by simp; omega)
      have hdrop : scan n (rest.drop (len.toNat + 2)) = scan m (rest.drop (len.toNat + 2)) :=
        ih (by simp; omega) (by simp; omega)
      simp only [scan, hskip, hdrop]

theorem scan_skip {b : Byte} (n : Nat) (t : List Byte) (h : b ≠ syncByte) : scan (n + 1) (b :: t) = scan n t := by
  simp only [scan, if_pos h]

/-- What a scan does at a sync byte with a length byte behind it. -/
theorem scan_sync (n : Nat) (len : Byte) (rest : List Byte) :
    scan (n + 1) (syncByte :: len :: rest) =
      if len.toNat < 3 ∨ 243 < len.toNat then scan n (len :: rest)
      else if rest.length < len.toNat + 2 then { payloads := [], rest := syncByte :: len :: rest }
      else if frameStands (rest.take len.toNat) ((rest.drop len.toNat).take 2) then
        { payloads := rest.take len.toNat :: (scan n (rest.drop (len.toNat + 2))).payloads
          rest := (scan n (rest.drop (len.toNat + 2))).rest }
      else scan n (len :: rest) := by
  simp only [scan, ne_eq, not_true_eq_false, if_false]

theorem scan_eq_scanAll {n : Nat} {buf : List Byte} (h : buf.length < n) : scan n buf = scanAll buf :=
  scan_fuel h (Nat.lt_succ_self _)

theorem scanAll_nil : scanAll [] = { payloads := [], rest := [] } := rfl

/-- The hunt passes over a byte that is not the sync byte. -/
theorem scanAll_skip {b : Byte} (t : List Byte) (h : b ≠ syncByte) : scanAll (b :: t) = scanAll t := by
  exact (scan_skip _ t h).trans (scan_eq_scanAll (by simp))

theorem scanAll_sync : scanAll [syncByte] = { payloads := [], rest := [syncByte] } := rfl

/-- A frame is discarded: its length is out of range, or it is whole and does not stand. -/
def FrameDiscarded (len : Byte) (rest : List Byte) : Prop :=
  (len.toNat < 3 ∨ 243 < len.toNat) ∨
    (len.toNat + 2 ≤ rest.length ∧ frameStands (rest.take len.toNat) ((rest.drop len.toNat).take 2) = false)

/-- After a discard the hunt resumes at the byte that followed the sync byte. -/
theorem scanAll_discard {len : Byte} {rest : List Byte} (h : FrameDiscarded len rest) :
    scanAll (syncByte :: len :: rest) = scanAll (len :: rest) := by
  have hfuel : scan (syncByte :: len :: rest).length (len :: rest) = scanAll (len :: rest) := scan_eq_scanAll (by simp)
  refine (scan_sync _ len rest).trans ?_
  rcases h with h | ⟨hlen, hbad⟩
  · rw [if_pos h, hfuel]
  · split
    · exact hfuel
    · rw [if_neg (by omega), if_neg (Bool.eq_false_iff.1 hbad), hfuel]

/-- A frame that is not whole yet is kept. -/
theorem scanAll_partial {len : Byte} {rest : List Byte} (h : ¬(len.toNat < 3 ∨ 243 < len.toNat))
    (hlen : rest.length < len.toNat + 2) :
    scanAll (syncByte :: len :: rest) = { payloads := [], rest := syncByte :: len :: rest } := by
  refine (scan_sync _ len rest).trans ?_
  rw [if_neg h, if_pos hlen]

/-- A frame that stands gives its payload, and the hunt goes on behind it. -/
theorem scanAll_stands {len : Byte} {rest : List Byte} (h : ¬(len.toNat < 3 ∨ 243 < len.toNat))
    (hlen : len.toNat + 2 ≤ rest.length)
    (hok : frameStands (rest.take len.toNat) ((rest.drop len.toNat).take 2) = true) :
    scanAll (syncByte :: len :: rest) =
      { payloads := rest.take len.toNat :: (scanAll (rest.drop (len.toNat + 2))).payloads
        rest := (scanAll (rest.drop (len.toNat + 2))).rest } := by
  refine (scan_sync _ len rest).trans ?_
  rw [if_neg h, if_neg (by omega), if_pos hok, scan_eq_scanAll (by simp; omega)]

/-- A scan of a longer buffer goes on where the scan of its beginning has stopped. -/
theorem scanAll_append (a b : List Byte) :
    scanAll (a ++ b) =
      { payloads := (scanAll a).payloads ++ (scanAll ((scanAll a).rest ++ b)).payloads
        rest := (scanAll ((scanAll a).rest ++ b)).rest } := by
  induction hn : a.length using Nat.strong_induction_on generalizing a with
  | _ n ih =>
    subst hn
    rcases a with _ | ⟨x, t⟩
    · rfl
    · by_cases hx : x = syncByte
      · subst hx
        rcases t with _ | ⟨len, rest⟩
        · rfl
        · by_cases hrange : len.toNat < 3 ∨ 243 < len.toNat
          · rw [scanAll_discard (.inl hrange), List.cons_append, List.cons_append, scanAll_discard (.inl hrange)]
            exact ih _ (by simp) (len :: rest) rfl
          · by_cases hlen : rest.length < len.toNat + 2
            · rw [scanAll_partial hrange hlen]
              rfl
            · have hle : len.toNat + 2 ≤ rest.length := Nat.le_of_not_lt hlen
              have htake : (rest ++ b).take len.toNat = rest.take len.toNat :=
                List.take_append_of_le_length (by omega)
              have hcrc : ((rest ++ b).drop len.toNat).take 2 = (rest.drop len.toNat).take 2 := by
                rw [List.drop_append_of_le_length (by omega), List.take_append_of_le_length (by simp; omega)]
              have hdrop : (rest ++ b).drop (len.toNat + 2) = rest.drop (len.toNat + 2) ++ b :=
                List.drop_append_of_le_length (by omega)
              have hle' : len.toNat + 2 ≤ (rest ++ b).length := by simp; omega
              cases hok : frameStands (rest.take len.toNat) ((rest.drop len.toNat).take 2) with
              | true =>
                rw [scanAll_stands hrange hle hok, List.cons_append, List.cons_append,
                  scanAll_stands hrange hle' (by rwa [htake, hcrc]), htake, hdrop,
                  ih _ (by simp; omega) (rest.drop (len.toNat + 2)) rfl]
                rfl
              | false =>
                rw [scanAll_discard (.inr ⟨hle, hok⟩), List.cons_append, List.cons_append,
                  scanAll_discard (.inr ⟨hle', by rwa [htake, hcrc]⟩)]
                exact ih _ (by simp) (len :: rest) rfl
      · rw [scanAll_skip t hx, List.cons_append, scanAll_skip _ hx]
        exact ih _ (by simp) t rfl

/-- A stream without a sync byte leaves nothing. -/
theorem scanAll_of_not_mem {buf : List Byte} (h : syncByte ∉ buf) : scanAll buf = { payloads := [], rest := [] } := by
  induction buf with
  | nil => rfl
  | cons b t ih =>
    obtain ⟨hb, ht⟩ := not_or.1 (mt List.mem_cons.2 h)
    rw [scanAll_skip t (Ne.symm hb), ih ht]

/-- A whole frame with a length in range: what its payload and CRC decide. -/
theorem scanAll_frame {payload crc : List Byte} (hmin : 3 ≤ payload.length) (hmax : payload.length ≤ 243)
    (hcrc : crc.length = 2) :
    (frameStands payload crc = true →
      scanAll (syncByte :: BitVec.ofNat 8 payload.length :: (payload ++ crc)) = { payloads := [payload], rest := [] }) ∧
    (frameStands payload crc = false →
      scanAll (syncByte :: BitVec.ofNat 8 payload.length :: (payload ++ crc))
        = scanAll (BitVec.ofNat 8 payload.length :: (payload ++ crc))) := by
  have hlen : (BitVec.ofNat 8 payload.length).toNat = payload.length := by
    rw [BitVec.toNat_ofNat, Nat.mod_eq_of_lt (by omega)]
  have htake : (payload ++ crc).take (BitVec.ofNat 8 payload.length).toNat = payload := by rw [hlen, List.take_left]
  have hdrop : (((payload ++ crc).drop (BitVec.ofNat 8 payload.length).toNat).take 2) = crc := by
    rw [hlen, List.drop_left, ← hcrc, List.take_length]
  have hwhole : (BitVec.ofNat 8 payload.length).toNat + 2 ≤ (payload ++ crc).length := by
    rw [hlen, List.length_append, hcrc]
  refine ⟨fun h => ?_, fun h => scanAll_discard (.inr ⟨hwhole, by rwa [htake, hdrop]⟩)⟩
  rw [scanAll_stands (by omega) hwhole (by rwa [htake, hdrop]), htake]
  have hrest : (payload ++ crc).drop ((BitVec.ofNat 8 payload.length).toNat + 2) = [] :=
    List.drop_of_length_le (by rw [hlen, List.length_append, hcrc])
  rw [hrest, scanAll_nil]

/-- The payload of a frame. -/
def framePayload (node : Byte) (cls : FrameClass) (kind : BitVec 6) (tag : Byte) (body : List Byte) : List Byte :=
  node :: classKind cls kind :: tag :: body

theorem frameBytes_eq (node : Byte) (cls : FrameClass) (kind : BitVec 6) (tag : Byte) (body : List Byte) :
    frameBytes node cls kind tag body =
      syncByte :: BitVec.ofNat 8 (framePayload node cls kind tag body).length ::
        (framePayload node cls kind tag body ++ bytes16 (crcOf (framePayload node cls kind tag body))) := rfl

/-- A request frame stands. -/
theorem frameStands_request (node : Byte) (kind : BitVec 6) (tag : Byte) (body : List Byte) :
    frameStands (framePayload node .request kind tag body)
      (bytes16 (crcOf (framePayload node .request kind tag body))) = true := by
  have hcls : classKind .request kind >>> 6 = 0#8 := (class_classKind .request kind).2 rfl
  simp [frameStands, framePayload, byteAt, hcls]

theorem scanAll_frameBytes_request (node : Byte) (kind : BitVec 6) (tag : Byte) {body : List Byte}
    (h : body.length ≤ 240) :
    scanAll (frameBytes node .request kind tag body) =
      { payloads := [framePayload node .request kind tag body], rest := [] } := by
  rw [frameBytes_eq]
  exact (scanAll_frame (by simp [framePayload]) (by simp [framePayload]; omega) rfl).1
    (frameStands_request node kind tag body)

/-! ### What received characters do -/

theorem foldl_offer_received (qs : List Request) (c : ControlLine) (r : List Byte) :
    qs.foldl ControlLine.offer { c with received := r } = { qs.foldl ControlLine.offer c with received := r } := by
  induction qs generalizing c with
  | nil => rfl
  | cons q qs ih =>
    rw [List.foldl_cons, List.foldl_cons]
    exact ih (c.offer q)

/-- The requests that a scan has found for the part. -/
def State.requestsIn (s : State) (payloads : List (List Byte)) : List Request :=
  payloads.filterMap (requestOfPayload s.straps.node)

theorem State.frameReceived_eq (chars : List Character) (s : State) :
    s.frameReceived chars =
      { s with line := { (s.requestsIn (scanAll (s.line.received ++ chars.map characterByte)).payloads).foldl
          ControlLine.offer s.line with
          received := (scanAll (s.line.received ++ chars.map characterByte)).rest } } :=
  congrArg (fun c => { s with line := c }) (foldl_offer_received _ s.line _)

/-- Settles O6: the scan of the first piece stops where the scan of the whole goes on. -/
theorem receptionInPieces : Obligations.ReceptionInPieces := by
  intro s t a b h
  obtain rfl : s.frameReceived a = t := Host.Outcome.next.inj h
  show Host.Outcome.next _ = Host.Outcome.next _
  rw [State.frameReceived_eq b, State.frameReceived_eq a, State.frameReceived_eq (a ++ b), List.map_append,
    ← List.append_assoc, scanAll_append (s.line.received ++ _)]
  simp only [State.requestsIn, foldl_offer_received, List.filterMap_append, List.foldl_append]

theorem exec_frameReceived_of_empty {s : State} {chars : List Character} (h : s.line.received = []) :
    exec (.frameReceived chars) s = .next
      { s with line := { (s.requestsIn (scanAll (chars.map characterByte)).payloads).foldl ControlLine.offer s.line with
          received := (scanAll (chars.map characterByte)).rest } } := by
  show Host.Outcome.next (s.frameReceived chars) = _
  rw [State.frameReceived_eq, h, List.nil_append]

/-- Nothing found and nothing left: nothing changes. -/
theorem exec_frameReceived_nothing {s : State} {chars : List Character} (h : s.line.received = [])
    (hfound : s.requestsIn (scanAll (chars.map characterByte)).payloads = [])
    (hrest : (scanAll (chars.map characterByte)).rest = []) : exec (.frameReceived chars) s = .next s := by
  rw [exec_frameReceived_of_empty h, hfound, hrest, ← h]
  rfl

theorem requestOfPayload_framePayload (n : BitVec 2) (node : Byte) (kind : BitVec 6) (tag : Byte) (body : List Byte) :
    requestOfPayload n (framePayload node .request kind tag body) =
      if node.toNat = n.toNat then some { broadcast := false, kind := kind, tag := tag, body := body }
      else if node = broadcastNode then some { broadcast := true, kind := kind, tag := tag, body := body }
      else none := by
  simp only [framePayload, requestOfPayload, kind_classKind]

theorem characterByte_getLsbD (c : Character) (i : Nat) (h : i < 8) :
    (characterByte c).getLsbD i = c.getLsbD (i + 1) := by
  rw [characterByte, BitVec.getLsbD_extractLsb', decide_eq_true h, Bool.true_and, Nat.add_comm]

/-- Settles O4. -/
theorem requestFrameJoinsQueue : Obligations.RequestFrameJoinsQueue := by
  refine ⟨characterByte_getLsbD, fun s bcast kind tag body chars hr hlen hchars => ?_⟩
  have hq : requestOfPayload s.straps.node
      (framePayload (if bcast then 0x0F else s.straps.node.setWidth 8) .request kind tag body)
      = some { broadcast := bcast, kind := kind, tag := tag, body := body } := by
    rw [requestOfPayload_framePayload]
    have hnode := s.straps.node.isLt
    cases bcast with
    | true => rw [if_neg (by simp; omega)]; rfl
    | false => exact if_pos (by simp; omega)
  rw [exec_frameReceived_of_empty hr, hchars, scanAll_frameBytes_request _ _ _ hlen, State.requestsIn,
    List.filterMap_cons_some hq, List.filterMap_nil, ← hr]
  rfl

/-- Settles O5. -/
theorem discardedFramesChangeNothing : Obligations.DiscardedFramesChangeNothing := by
  intro s chars hr
  refine ⟨fun node kind tag body hb hn hlen hchars => ?_, fun payload crc hmin hmax hcrc hbad hsync hchars => ?_⟩
  · have hq : requestOfPayload s.straps.node (framePayload node .request kind tag body) = none := by
      rw [requestOfPayload_framePayload, if_neg hn, broadcastNode, if_neg hb]
    refine exec_frameReceived_nothing hr ?_ ?_
    · rw [hchars, scanAll_frameBytes_request _ _ _ hlen, State.requestsIn, List.filterMap_cons_none hq,
        List.filterMap_nil]
    · rw [hchars, scanAll_frameBytes_request _ _ _ hlen]
  · have hscan : scanAll (chars.map characterByte) = { payloads := [], rest := [] } := by
      rw [hchars]
      exact ((scanAll_frame hmin hmax hcrc).2 hbad).trans (scanAll_of_not_mem hsync)
    exact exec_frameReceived_nothing hr (by rw [hscan]; rfl) (by rw [hscan])

/-! ### Requests that are answered without an act, or wait (R161) -/

theorem isKnownKind_iff (code : BitVec 6) : isKnownKind code = true ↔ code ∈ knownKinds := by
  rw [isKnownKind, List.contains_iff_mem]

/-- Settles O8. -/
theorem unknownKindAnswered : Obligations.UnknownKindAnswered := by
  intro s code tag body hk
  have hk' : ¬isKnownKind code = true := fun h => hk ((isKnownKind_iff code).1 h)
  refine ⟨fun ht => ?_, fun ht => ?_⟩
  · show Host.Outcome.next (s.unknownKind code (own tag body)) = _
    rw [State.unknownKind, if_neg hk', State.execute_takes ht]
    rfl
  · show Host.Outcome.next (s.unknownKind code (toAll tag body)) = _
    rw [State.unknownKind, if_neg hk', State.execute_takes ht]
    rfl

/-- Settles O9. -/
theorem lengthAndBroadcastChecks : Obligations.LengthAndBroadcastChecks := by
  intro i code tag body s hk
  have hk := (isKnownKind_iff code).2 hk
  refine ⟨fun hi ht hlen => ?_, fun hi ht hno => ?_⟩
  · rw [exec_request hi hk, State.serve_badLength ht hlen]
  · have hignored : (broadcastKind code && bodyLengthOk code body.length) = false := by
      rcases hno with ⟨h20, h21, h03⟩ | hlen
      · rw [broadcastKind, beq_false_of_ne h20, beq_false_of_ne h21, beq_false_of_ne h03]
        rfl
      · rw [hlen, Bool.and_false]
    rw [exec_request hi hk, State.serve_broadcast_ignored ht hignored]

/-- What arriving does to the inbound queue. -/
theorem ControlLine.arrive_eq (q : Request) (c : ControlLine) :
    c.arrive q = { c with inbound :=
      if c.inbound.head? = some q ∨ 4 ≤ c.inbound.length then c.inbound else c.inbound ++ [q] } := by
  unfold ControlLine.arrive ControlLine.offer Config.inboundCapacity
  by_cases hq : c.inbound.head? = some q
  · rw [if_pos hq, if_pos (.inl hq)]
  · by_cases hl : 4 ≤ c.inbound.length
    · rw [if_neg hq, if_pos (Or.inr hl), if_neg (Nat.not_lt.2 hl)]
    · rw [if_neg hq, if_neg (not_or.2 ⟨hq, hl⟩), if_pos (Nat.lt_of_not_le hl)]

/-- A request that the line does not take is not ready once it has arrived. -/
theorem ControlLine.ready_arrive_eq_false {c : ControlLine} {q : Request} (h : ¬c.Takes q) :
    (c.arrive q).ready q = false := by
  refine Bool.eq_false_iff.2 fun hready => h ?_
  rw [ControlLine.arrive_eq] at hready
  simp only [ControlLine.ready, Bool.and_eq_true, beq_iff_eq, Bool.not_eq_true', Bool.or_eq_true,
    decide_eq_true_iff] at hready
  obtain ⟨⟨hhead, hdue⟩, hroom⟩ := hready
  refine ⟨?_, hdue, hroom⟩
  split at hhead
  · exact .inr hhead
  · rcases hin : c.inbound with _ | ⟨p, rest⟩
    · exact .inl rfl
    · rw [hin] at hhead
      exact .inr hhead

/-- Settles O10. -/
theorem requestsWaitTheirTurn : Obligations.RequestsWaitTheirTurn := by
  intro i code r s hi ht
  have hwaits (body : State → State) : s.execute (requestFor code r) body =
      { s with line := s.line.arrive (requestFor code r) } :=
    State.execute_waits (ControlLine.ready_arrive_eq_false ht) body
  rw [ControlLine.arrive_eq] at hwaits
  cases hk : isKnownKind code with
  | true => rw [exec_request hi hk, State.serve, hwaits]
  | false => rw [exec_unknown hi hk, State.unknownKind, if_neg (Bool.eq_false_iff.1 hk), hwaits]

/-- A line on which a soft reset is due and no reply waits begins nothing (R169). -/
theorem ControlLine.pump_of_resetDue {c : ControlLine} (hdue : c.resetDue = true)
    (h : c.sending ≠ none ∨ c.replies = []) : c.pump = c := by
  rcases c.pump_cases with ⟨hp, -⟩ | ⟨hs, hr, -⟩ | ⟨-, -, hno, -⟩
  · exact hp
  · exact absurd h (not_or.2 ⟨not_not.2 hs, hr⟩)
  · rw [hdue] at hno
    cases hno

/-- Settles O13. -/
theorem resetRequestAccepted : Obligations.ResetRequestAccepted := by
  intro s tag
  refine ⟨fun ht => congrArg _ (State.serve_own ht rfl _), fun ht hfree => ?_, fun q hdue ht => ?_, fun hdue hs hr => ?_⟩
  · show Host.Outcome.next (s.serve 0x03 (toAll tag []) (fun _ => resetAct)) = _
    rw [State.serve_broadcast ht rfl rfl]
    refine congrArg (fun c => Host.Outcome.next { s.popRequest with line := c }) ?_
    exact ControlLine.pump_of_resetDue rfl hfree
  · rw [ht.2.1] at hdue
    cases hdue
  · exact congrArg (fun c => { s with line := c }) (ControlLine.pump_of_resetDue hdue (.inr hr))

/-! ### The frame on the line (R159, R162, R163) -/

theorem Reply.content_of_none {r : Reply} (h : r.answer.fields = .none) : r.content = [] := by
  rw [Reply.content, h]
  rfl

theorem Reply.segments_of_none {r : Reply} (h : r.answer.fields = .none) : r.segments = 1 := by
  rw [Reply.segments, Reply.content_of_none h]
  rfl

/-- A frame, written with its head and body apart. -/
theorem frameBytes_split (node : Byte) (cls : FrameClass) (kind : BitVec 6) (tag : Byte) (body : List Byte) :
    frameBytes node cls kind tag body =
      [0xC3, BitVec.ofNat 8 (3 + body.length)] ++ [node, classKind cls kind, tag] ++ body
        ++ bytes16 (crcOf ([node, classKind cls kind, tag] ++ body)) := by
  rw [Nat.add_comm 3]
  rfl

theorem characterOf_ends (b : Byte) : (characterOf b).getLsbD 0 = false ∧ (characterOf b).getLsbD 9 = true := by
  revert b
  decide

theorem ControlLine.pump_sending {c : ControlLine} {x : Sending} (h : c.sending = some x) : c.pump = c := by
  simp only [ControlLine.pump, h]

/-- The line when a frame has ended that was a notice, or the last segment of the reply before `left` (R162). -/
theorem ControlLine.frameEnd_last {c : ControlLine} {left : List Reply}
    (h : (∃ i r, c.sending = some (.reply i) ∧ c.replies = r :: left ∧ r.segments ≤ i + 1) ∨
      ∃ k n, c.sending = some (.notice k n) ∧ c.replies = left) :
    c.frameEnd = { c with sending := none, replies := left } := by
  rcases h with ⟨i, r, hs, hr, hlast⟩ | ⟨k, n, hs, rfl⟩
  · simp only [ControlLine.frameEnd, hs, hr, if_neg (Nat.not_lt.2 hlast)]
  · simp only [ControlLine.frameEnd, hs]

/-- Settles O11. -/
theorem frameSentSendsNext : Obligations.FrameSentSendsNext := by
  intro s
  have hsent : exec .frameSent s = .next { s with line := s.line.frameEnd.pump } := rfl
  refine ⟨fun i r rest hs hr => ⟨_, _, rfl, rfl, ?_, fun h => ⟨Reply.segments_of_none h, Reply.content_of_none h⟩⟩,
    fun k n hs => ⟨_, (Config.noticeBytes n).take 240, rfl, List.length_take_le .., ?_⟩, frameOnLine_free s,
    ⟨bytes_lineOutput s, fun c hc => ?_⟩, fun i r rest hs hr hmore => ?_, fun left hleft => ?_⟩
  · rw [State.frameOnLine, hs, hr]
    exact frameBytes_split _ .reply r.kind r.tag (r.segmentBody i)
  · rw [State.frameOnLine, hs]
    exact frameBytes_split _ .notice n.kind.code _ _
  · obtain ⟨b, -, rfl⟩ := List.mem_map.1 hc
    exact characterOf_ends b
  · have hend : s.line.frameEnd = { s.line with sending := some (.reply (i + 1)) } := by
      simp only [ControlLine.frameEnd, hs, hr, if_pos hmore]
    rw [hsent, hend, ControlLine.pump_sending rfl]
  · rw [hsent, ControlLine.frameEnd_last hleft]
    refine ⟨fun hne => ?_, fun hnil hquiet => ?_, fun n ob hnil hdue hob => ?_⟩
    · obtain ⟨r, rest, rfl⟩ := List.exists_cons_of_ne_nil hne
      rfl
    · subst hnil
      rcases hquiet with hob | hdue
      · simp only [ControlLine.pump, hob]
      · exact congrArg (fun c => Host.Outcome.next { s with line := c })
          (ControlLine.pump_of_resetDue (c := { s.line with sending := none, replies := [] }) hdue (.inr rfl))
    · subst hnil
      simp only [ControlLine.pump, hob, hdue]
      rfl

/-! ### Notices (R164, R165) -/

theorem outboxPut_append {n : Notice} {ob : List Notice} (h : ∀ m ∈ ob, ¬(m.kind = n.kind ∧ m.lane = n.lane)) :
    outboxPut n ob = ob ++ [n] := by
  induction ob with
  | nil => rfl
  | cons a t ih =>
    obtain ⟨ha, ht⟩ := List.forall_mem_cons.1 h
    rw [outboxPut, if_neg (fun hk => ha ((Notice.sameKey_iff a n).1 hk)), ih ht, List.cons_append]

theorem outboxPut_replace {n old : Notice} {before after : List Notice} (hk : old.kind = n.kind)
    (hl : old.lane = n.lane) (h : ∀ m ∈ before, ¬(m.kind = n.kind ∧ m.lane = n.lane)) :
    outboxPut n (before ++ old :: after) = before ++ n :: after := by
  induction before with
  | nil => rw [List.nil_append, outboxPut, if_pos ((Notice.sameKey_iff old n).2 ⟨hk, hl⟩), List.nil_append]
  | cons a t ih =>
    obtain ⟨ha, ht⟩ := List.forall_mem_cons.1 h
    rw [List.cons_append, outboxPut, if_neg (fun hk => ha ((Notice.sameKey_iff a n).1 hk)), ih ht, List.cons_append]

/-- A set that holds the flag already does not change. -/
theorem or_mask_of_set {h : HistorySet} {f : HistoryFlag} (hf : h.getLsbD f.bit = true) : h ||| f.mask = h := by
  revert h
  cases f <;> decide

theorem NoticeKind.bit_lt (k : NoticeKind) : k.bit < 6 := by cases k <;> decide

theorem Notice.enabledIn_setWidth (set : Byte) (n : Notice) :
    n.enabledIn (set.setWidth 6) = set.getLsbD n.kind.bit := by
  rw [Notice.enabledIn, BitVec.getLsbD_setWidth, decide_eq_true n.kind.bit_lt, Bool.true_and]

/-- Settles O14. -/
theorem noticesQueueAndMask : Obligations.NoticesQueueAndMask := by
  refine ⟨fun c n => ⟨fun h => ?_, fun h hno => ?_, fun before after old h hob hk hl hno => ?_⟩,
    fun s l f => ⟨fun h => ?_, fun h => ⟨s.history[l] ||| f.mask, fun g => ?_, ?_⟩⟩, fun s tag set ht =>
    ⟨s.line.outbox.filter fun n => n.enabledIn (set.setWidth 6), List.filter_sublist, fun n => ?_, ?_⟩⟩
  · rw [ControlLine.queueNotice, h]
    rfl
  · rw [ControlLine.queueNotice, if_pos h, outboxPut_append hno]
  · rw [ControlLine.queueNotice, if_pos h, hob, outboxPut_replace hk hl hno]
  · have hset : s.history.set l (s.history[l] ||| f.mask) = s.history := by
      rw [or_mask_of_set h]
      exact Vector.set_getElem_self _
    unfold State.setFlag
    rw [hset, if_pos h]
  · rw [BitVec.getLsbD_or, getLsbD_mask]
  · rw [State.setFlag, h]
    rfl
  · rw [List.mem_filter, Notice.enabledIn_setWidth]
  · have hcount := List.length_eq_length_filter_add (l := s.line.outbox) fun n => n.enabledIn (set.setWidth 6)
    refine (congrArg Host.Outcome.next (State.serve_own ht rfl noticeMaskAct)).trans ?_
    show Host.Outcome.next (State.replied _ _ _ (.noticeMask _ _) _) = _
    rw [hcount, Nat.add_sub_cancel_left]
    rfl

end Sys2Proof.Machine

/-! Requests that read, and the requests of history and pattern store (O12, O15 to O18). -/

namespace Sys2Proof.Machine

/-! ### A request that is taken (R161) -/

/-- A request command whose request the line takes, its length right: the act and its answer. -/
theorem exec_own {i : Instr} {code : BitVec 6} {tag : Byte} {body : List Byte} {s t : State} {st : Status}
    {f : ReplyFields} (hi : requestOf i = some (code, own tag body)) (hk : isKnownKind code = true)
    (ht : s.TakesOwn code tag body) (hlen : bodyLengthOk code body.length = true)
    (hact : actOf code body s.popRequest = (t, { status := st, fields := f })) :
    exec i s = .next (t.replied code tag st f) := by
  rw [exec_request hi hk, State.serve_own ht hlen, hact]

/-! ### Lanes that exist -/

theorem State.existing_eq (s : State) : s.existing = lanesOf (strapLanes s.straps) := by
  have h (b : Bool) : ((List.finRange 8).filter fun l => decide (l.val < if b then 8 else 4)) =
      lanesOf (if b then 0xFF else 0x0F) := by
    cases b <;> decide
  exact h s.straps.eightLanes

theorem strapLanes_getLsbD (st : Straps) (l : Lane) : (strapLanes st).getLsbD l.val = decide (l.val < strapLaneCount st) := by
  unfold strapLanes strapLaneCount
  cases st.eightLanes <;> (revert l; decide)

/-- A lane set names an absent lane or only existing ones. -/
theorem State.namesAbsent_eq_false_iff (s : State) (b : LaneSet) :
    s.namesAbsent b = false ↔ ∀ l : Lane, b.getLsbD l.val = true → s.Exists l := by
  refine ⟨fun h l hl => State.exists_of_named h ((mem_lanesOf b l).2 hl), fun h => ?_⟩
  refine bne_eq_false_iff_eq.2 (BitVec.eq_of_getLsbD_eq fun i hi => ?_)
  have hi' := h ⟨i, hi⟩
  have hstrap := strapLanes_getLsbD s.straps ⟨i, hi⟩
  dsimp only at hi' hstrap
  have hzero : BitVec.getLsbD (0 : LaneSet) i = false := BitVec.getLsbD_zero
  rw [BitVec.getLsbD_and, BitVec.getLsbD_not, hstrap, hzero]
  cases hb : b.getLsbD i with
  | false => rfl
  | true =>
    have hlt : i < strapLaneCount s.straps := hi' hb
    simp [hlt]

theorem State.namesAbsent_of_absent {s : State} {b : LaneSet} (h : ∃ l : Lane, b.getLsbD l.val = true ∧ ¬s.Exists l) :
    s.namesAbsent b = true := by
  obtain ⟨l, hl, hno⟩ := h
  exact Bool.eq_true_of_not_eq_false fun h => hno ((s.namesAbsent_eq_false_iff b).1 h l hl)

theorem State.MayName.namesAbsent {s : State} {b : LaneSet} (h : s.MayName b) : s.namesAbsent b = false :=
  (s.namesAbsent_eq_false_iff b).2 h.2

/-! ### Requests that only read -/

theorem State.regionRows_eq (s : State) :
    s.regionRows = (List.range' 16 16).map fun id => (id, (s.store.region id).map fun r =>
      { region := r, first := r.base, last := r.base + (r.length + 63) / 64 - 1,
        generators := s.generatorsNaming id, checkers := s.checkersNaming id }) := by
  rw [show List.range' 16 16 = (List.range 16).map (· + 16) by decide, List.map_map]
  rfl

theorem State.filterInUse_eq {s : State} {k : Fin 16} {f : Filter} (h : s.filters[k] = some f) :
    s.filterInUse k = s.holdsActiveGate f.lanes := by
  simp only [State.filterInUse, h]

theorem State.filterRows_eq (s : State) :
    s.filterRows = (List.finRange 16).map fun k => (k.val, s.filters[k].map fun f =>
      { filter := f, unmatchable := f.unmatchable, inUse := s.holdsActiveGate f.lanes }) := by
  have hrow (k : Fin 16) : (s.filters[k].map fun f =>
      ({ filter := f, unmatchable := f.unmatchable, inUse := s.filterInUse k } : FilterInfo)) =
      s.filters[k].map fun f => { filter := f, unmatchable := f.unmatchable, inUse := s.holdsActiveGate f.lanes } := by
    cases hf : s.filters[k] with
    | none => rfl
    | some f => simp only [Option.map_some, State.filterInUse_eq hf]
  unfold State.filterRows
  rw [show filterList = List.finRange 16 by decide]
  simp only [hrow]

theorem chkReadAct_of {s : State} {l : Lane} (hl : s.Exists l) :
    chkReadAct [BitVec.ofNat 8 l.val] s = (s, {
      status := .ok
      fields := .chkRead (s.lane l).chkState (s.lane l).signal (s.lane l).chk.config (s.lane l).chk.phase.progress }) := by
  have hfound : s.existingLane (byteAt [BitVec.ofNat 8 l.val] 0) = some l := State.existingLane_ofNat hl
  rw [chkReadAct, hfound]

theorem sweepReadAct_of {s : State} {l : Lane} (hl : s.Exists l) :
    sweepReadAct [BitVec.ofNat 8 l.val] s = (s, { status := .ok, fields := .sweepRead (s.margin.readFields l) }) := by
  have hfound : s.existingLane (byteAt [BitVec.ofNat 8 l.val] 0) = some l := State.existingLane_ofNat hl
  rw [sweepReadAct, hfound]

/-- A checker without a hunt, verify or lock in progress reports none (R55). -/
theorem Phase.progress_of_state {p : Phase} (h : p.state = .off ∨ p.state = .noSignal ∨ p.state = .held) :
    p.progress = .none := by
  cases p with
  | off | noSignal | held => rfl
  | hunt | verify | locked => rcases h with h | h | h <;> cases h

/-- Settles O12. -/
theorem readingRequestsReport : Obligations.ReadingRequestsReport := by
  intro s tag
  refine ⟨fun ht => exec_own rfl rfl ht rfl rfl, fun ht => ?_, fun ht => ?_, fun ht => ?_, fun ht => ?_, fun ht => ?_,
    fun l hl => ⟨fun ht => ⟨(s.lane l).chk.phase.progress, ?_, ?_, ?_, ?_, Phase.progress_of_state⟩,
      fun ht => ⟨s.margin.readFields l, ?_, rfl, rfl, rfl, rfl, rfl, rfl, ?_, ?_, ?_, ?_, ?_⟩⟩⟩
  · rw [State.existing_eq]
    exact exec_own rfl rfl ht rfl rfl
  · rw [State.existing_eq]
    exact exec_own rfl rfl ht rfl rfl
  · rw [← State.regionRows_eq]
    exact exec_own rfl rfl ht rfl rfl
  · rw [← State.filterRows_eq]
    exact exec_own rfl rfl ht rfl rfl
  · rw [State.existing_eq]
    exact exec_own rfl rfl ht rfl rfl
  · exact exec_own rfl rfl ht rfl (chkReadAct_of (s := s.popRequest) hl)
  · intro w c h
    rw [h]
    rfl
  · intro src last c e h
    rw [h]
    rfl
  · intro src last c e h
    rw [h]
    rfl
  · exact exec_own rfl rfl ht rfl (sweepReadAct_of (s := s.popRequest) hl)
  · intro h
    simp only [Margin.readFields, h]
    exact ⟨rfl, rfl, rfl⟩
  all_goals
    intro p
    intros
    rename_i h
    simp only [Margin.readFields, h]
    exact ⟨rfl, rfl, rfl⟩

end Sys2Proof.Machine
/-! Requests of the alarm history and of the pattern store (O15 to O18). -/

namespace Sys2Proof.Machine

/-! ### HISTORY_CLEAR (R165) -/

theorem getLsbD_clearHistory (b : LaneSet) (flags : Byte) (h : Vector HistorySet 8) (l : Lane) (f : HistoryFlag) :
    (clearHistory b (flags.setWidth 5) h)[l].getLsbD f.bit =
      (h[l].getLsbD f.bit && !(b.getLsbD l.val && flags.getLsbD f.bit)) := by
  have hf : f.bit < 5 := by cases f <;> decide
  unfold clearHistory
  simp only [Fin.getElem_fin, Vector.getElem_ofFn]
  cases b.getLsbD l.val <;> simp [hf]

theorem historyClearAct_absent {s : State} {lanes flags : Byte} (h : s.namesAbsent lanes = true) :
    historyClearAct [lanes, flags] s = (s, refuse .noLane) := if_pos h

theorem historyClearAct_empty {s : State} {lanes flags : Byte} (hb : s.namesAbsent lanes = false)
    (h : lanes = 0 ∨ flags.setWidth 5 = 0#5) : historyClearAct [lanes, flags] s = (s, refuse .badArg) :=
  (if_neg (Bool.eq_false_iff.1 hb)).trans (if_pos h)

theorem historyClearAct_accepted {s : State} {lanes flags : Byte} (hb : s.namesAbsent lanes = false)
    (h : ¬(lanes = 0 ∨ flags.setWidth 5 = 0#5)) :
    historyClearAct [lanes, flags] s =
      ({ s with history := clearHistory lanes (flags.setWidth 5) s.history }, {
        status := .ok
        fields := .history ((lanesOf lanes).map fun l => (l, (clearHistory lanes (flags.setWidth 5) s.history)[l])) }) :=
  (if_neg (Bool.eq_false_iff.1 hb)).trans (if_neg h)

/-- Settles O15. -/
theorem historyClearClearsNamedFlags : Obligations.HistoryClearClearsNamedFlags := by
  intro s tag lanes flags ht
  refine ⟨fun hname hflags => ⟨clearHistory lanes (flags.setWidth 5) s.history,
    getLsbD_clearHistory lanes flags s.history, ?_⟩, fun habsent => ?_, fun hexist hempty => ?_⟩
  · exact exec_own rfl rfl ht rfl
      (historyClearAct_accepted (s := s.popRequest) hname.namesAbsent (not_or.2 ⟨hname.1, hflags⟩))
  · exact exec_own rfl rfl ht rfl (historyClearAct_absent (s := s.popRequest) (State.namesAbsent_of_absent habsent))
  · exact exec_own rfl rfl ht rfl
      (historyClearAct_empty (s := s.popRequest) ((s.namesAbsent_eq_false_iff lanes).2 hexist) hempty)

/-! ### The region table (R6 to R8) -/

theorem laneSetWhere_of_forall {p : Lane → Bool} (h : ∀ l, p l = false) : laneSetWhere p = 0 := by
  refine BitVec.eq_of_getLsbD_eq fun i hi => ?_
  have hzero : BitVec.getLsbD (0 : LaneSet) i = false := BitVec.getLsbD_zero
  rw [hzero]
  exact (getLsbD_laneSetWhere p ⟨i, hi⟩).trans (h _)

/-- A region is referenced exactly when a configuration names it (R6). -/
theorem State.referenced_eq_false_iff (s : State) (id : Nat) :
    s.referenced id = false ↔ ∀ l, (s.lane l).gen.pattern ≠ id ∧ (s.lane l).chk.config.pattern ≠ id := by
  refine ⟨State.ne_of_not_referenced, fun h => ?_⟩
  have hgen : s.generatorsNaming id = 0 := laneSetWhere_of_forall fun l => beq_false_of_ne (h l).1
  have hchk : s.checkersNaming id = 0 := laneSetWhere_of_forall fun l => beq_false_of_ne (h l).2
  rw [State.referenced, hgen, hchk]
  rfl

theorem State.referenced_of_named {s : State} {id : Nat} {l : Lane}
    (h : (s.lane l).gen.pattern = id ∨ (s.lane l).chk.config.pattern = id) : s.referenced id = true := by
  refine Bool.eq_true_of_not_eq_false fun hno => ?_
  obtain ⟨hgen, hchk⟩ := (s.referenced_eq_false_iff id).1 hno l
  exact h.elim hgen hchk

theorem Region.bounds_of_extent {r : Region} (hfit : r.base + (r.length + 63) / 64 ≤ 4096) :
    r.last = r.base + (r.length + 63) / 64 - 1 ∧ ¬4095 < r.last := by
  have hlast : r.last = r.base + (r.length + 63) / 64 - 1 := rfl
  exact ⟨hlast, by omega⟩

/-- Extents that lie one behind the other share no word. -/
theorem Region.meets_of_apart {a b : Region} (ha : 128 ≤ a.length) (hb : 128 ≤ b.length)
    (h : b.base + (b.length + 63) / 64 ≤ a.base ∨ a.base + (a.length + 63) / 64 ≤ b.base) : a.meets b = false := by
  have hal : a.last = a.base + (a.length + 63) / 64 - 1 := rfl
  have hbl : b.last = b.base + (b.length + 63) / 64 - 1 := rfl
  rw [Region.meets, ← Bool.not_eq_true, Bool.and_eq_true, decide_eq_true_iff, decide_eq_true_iff]
  omega

theorem Store.clashes_eq_false {st : Store} {id : Nat} {r : Region}
    (h : ∀ j other, j ≠ id → st.region j = some other → r.meets other = false) : st.clashes id r = false := by
  refine List.any_eq_false.2 fun k _ hk => ?_
  rw [Bool.and_eq_true, bne_iff_ne] at hk
  obtain ⟨hne, hmeets⟩ := hk
  cases hr : st.region (k + 16) with
  | none => simp only [hr] at hmeets; cases hmeets
  | some other =>
    simp only [hr] at hmeets
    rw [h _ other hne hr] at hmeets
    cases hmeets

/-- The body of a REGION_DEFINE. -/
abbrev regionDefineBody (id base length : Nat) : List Byte := bytesOf 1 id ++ bytesOf 2 base ++ bytesOf 4 length

/-- A REGION_DEFINE in range, by what stands in the region table and the configurations. -/
theorem regionDefineAct_of {s : State} {id : Nat} {r : Region} (hid : 16 ≤ id ∧ id < 32) (hmin : 128 ≤ r.length)
    (hmax : r.length ≤ 262144) (hbase : r.base ≤ 4095) (hfit : r.base + (r.length + 63) / 64 ≤ 4096) :
    regionDefineAct (regionDefineBody id r.base r.length) s =
      if (s.store.region id).isSome && s.referenced id then (s, refuse .regionInUse)
      else if s.store.clashes id r then (s, refuse .regionClash)
      else ({ s with store := s.store.setRegion id (some r) },
        { status := .ok, fields := .regionDefine id r.base r.length r.base r.last }) := by
  have hid' : field (regionDefineBody id r.base r.length) 0 1 = id := natOf_bytesOf_of_lt (k := 1) (by omega)
  have hbase' : field (regionDefineBody id r.base r.length) 1 2 = r.base := natOf_bytesOf_of_lt (k := 2) (by omega)
  have hlen' : field (regionDefineBody id r.base r.length) 3 4 = r.length := natOf_bytesOf_of_lt (k := 4) (by omega)
  have hrange : ¬(¬(128 ≤ r.length ∧ r.length ≤ 262144) ∨ 4095 < r.base) := by omega
  unfold regionDefineAct
  rw [hid', hbase', hlen']
  exact (if_neg (not_not.2 hid)).trans ((if_neg hrange).trans (if_neg (Region.bounds_of_extent hfit).2))

theorem regionDeleteAct_of {s : State} {id : Nat} (hid : 16 ≤ id ∧ id < 32) (hr : s.store.region id ≠ none) :
    regionDeleteAct (bytesOf 1 id) s =
      if s.referenced id then (s, refuse .regionInUse)
      else ({ s with store := s.store.setRegion id none }, { status := .ok, fields := .regionDelete id }) := by
  have hid' : field (bytesOf 1 id) 0 1 = id := natOf_bytesOf_of_lt (k := 1) (by omega)
  unfold regionDeleteAct
  rw [hid']
  exact (if_neg (not_not.2 hid)).trans (if_neg (by simpa using hr))

/-- Settles O16. -/
theorem regionDefineAndDelete : Obligations.RegionDefineAndDelete := by
  intro s tag id hlo hhi
  refine ⟨fun hfree => ⟨fun r ht hmin hmax hbase hfit hapart hothers => ?_, fun ht hdef => ?_⟩,
    fun l hdef hnamed => ⟨fun base len hmin hmax hbase hfit ht => ?_, fun ht => ?_⟩⟩
  · have hunused : ((s.store.region id).isSome && s.referenced id) = false := by
      cases hr : s.store.region id with
      | none => rfl
      | some q => exact (s.referenced_eq_false_iff id).2 fun l => hfree l (by rw [hr]; nofun)
    have hclash : s.store.clashes id r = false := Store.clashes_eq_false fun j other hj hr =>
      Region.meets_of_apart hmin (hothers j other hr) (hapart j other hj hr)
    refine ⟨s.store.setRegion id (some r), Store.memory_setRegion .., ?_, fun j hj => ?_, ?_⟩
    · rw [Store.region_setRegion, if_pos ⟨rfl, hlo, hhi⟩]
    · rw [Store.region_setRegion, if_neg fun h => hj h.1]
    · refine exec_own rfl rfl ht rfl ((regionDefineAct_of (s := s.popRequest) ⟨hlo, hhi⟩ hmin hmax hbase hfit).trans ?_)
      exact (if_neg (Bool.eq_false_iff.1 hunused)).trans (if_neg (Bool.eq_false_iff.1 hclash))
  · have hunused : s.referenced id = false := (s.referenced_eq_false_iff id).2 fun l => hfree l hdef
    refine ⟨s.store.setRegion id none, Store.memory_setRegion .., ?_, fun j hj => ?_, ?_⟩
    · rw [Store.region_setRegion, if_pos ⟨rfl, hlo, hhi⟩]
    · rw [Store.region_setRegion, if_neg fun h => hj h.1]
    · refine exec_own rfl rfl ht rfl ((regionDeleteAct_of (s := s.popRequest) ⟨hlo, hhi⟩ hdef).trans ?_)
      exact if_neg (Bool.eq_false_iff.1 hunused)
  · have hused : ((s.store.region id).isSome && s.referenced id) = true := by
      rw [State.referenced_of_named hnamed, Bool.and_true]
      exact Option.isSome_iff_ne_none.2 hdef
    exact exec_own rfl rfl ht rfl ((regionDefineAct_of (s := s.popRequest) (r := ⟨base, len⟩) ⟨hlo, hhi⟩ hmin hmax hbase
      hfit).trans (if_pos hused))
  · exact exec_own rfl rfl ht rfl ((regionDeleteAct_of (s := s.popRequest) ⟨hlo, hhi⟩ hdef).trans
      (if_pos (State.referenced_of_named hnamed)))

/-! ### Pattern memory (R10, R11) -/

theorem State.inActiveUse_eq_false {s : State} {id : Nat}
    (h : ∀ l, ((s.lane l).gen.run = none ∨ (s.lane l).gen.pattern ≠ id) ∧
      ((s.lane l).chkState = .off ∨ (s.lane l).chkState = .held ∨ (s.lane l).chk.config.pattern ≠ id)) :
    s.inActiveUse id = false := by
  refine List.any_eq_false.2 fun l _ hl => ?_
  obtain ⟨hgen, hchk⟩ := h l
  simp only [Bool.or_eq_true, Bool.and_eq_true, bne_iff_ne, beq_iff_eq] at hl
  rcases hl with ⟨hrun, hid⟩ | ⟨⟨hoff, hheld⟩, hid⟩
  · rcases hgen with hnone | hne
    · rw [hnone] at hrun
      cases hrun
    · exact hne hid
  · rcases hchk with hst | hst | hne
    · exact hoff hst
    · exact hheld hst
    · exact hne hid

theorem patternWriteAct_of {s : State} {id off : Nat} {data : List Byte} {r : Region} (hid : 16 ≤ id ∧ id < 32)
    (hoff : off < 65536) (hr : s.store.region id = some r) (hfit : off + data.length ≤ 8 * ((r.length + 63) / 64))
    (hidle : s.inActiveUse id = false) :
    patternWriteAct (bytesOf 1 id ++ bytesOf 2 off ++ data) s =
      ({ s with store := { s.store with memory := writeBytes s.store.memory (8 * r.base + off) data } },
        { status := .ok, fields := .patternWrite id off data.length }) := by
  have hid' : field (bytesOf 1 id ++ bytesOf 2 off ++ data) 0 1 = id := natOf_bytesOf_of_lt (k := 1) (by omega)
  have hoff' : field (bytesOf 1 id ++ bytesOf 2 off ++ data) 1 2 = off := natOf_bytesOf_of_lt (k := 2) hoff
  have hdata : (bytesOf 1 id ++ bytesOf 2 off ++ data).drop 3 = data := rfl
  unfold patternWriteAct
  rw [hid', hoff', hdata]
  refine (if_neg (not_not.2 hid)).trans ?_
  rw [hr]
  exact (if_neg (Nat.not_lt.2 hfit)).trans (if_neg (Bool.eq_false_iff.1 hidle))

/-- Settles O17. -/
theorem patternWriteStoresBytes : Obligations.PatternWriteStoresBytes := by
  intro s tag id off data r hlo hhi hoff hr hrange hwf ht hmin hmax hfit huse
  obtain ⟨hlen, -, hlast⟩ := hrange
  have hin : 8 * r.base + off + data.length ≤ Config.memoryBytes := by
    have hlast' : r.base + (r.length + 63) / 64 - 1 ≤ 4095 := hlast
    show _ ≤ 8 * 4096
    omega
  have hbody : bodyLengthOk 0x0B (bytesOf 1 id ++ bytesOf 2 off ++ data).length = true := by
    show (decide (4 ≤ _) && decide (_ ≤ 195)) = true
    simp
    omega
  exact ⟨writeBytes s.store.memory (8 * r.base + off) data, wf_writeBytes hwf hin,
    fun a => readByte_writeBytes hwf.1 _ a data, exec_own rfl rfl ht hbody
      (patternWriteAct_of (s := s.popRequest) ⟨hlo, hhi⟩ hoff hr hfit (State.inActiveUse_eq_false huse))⟩

theorem patternReadAct_of {s : State} {id off count : Nat} {r : Region} (hid : 16 ≤ id ∧ id < 32)
    (hoff : off < 8 * ((r.length + 63) / 64)) (hoff' : off < 65536) (hcount : count < 256)
    (hr : s.store.region id = some r) :
    patternReadAct (bytesOf 1 id ++ bytesOf 2 off ++ bytesOf 1 count) s = (s, {
      status := if patternReadCount r off count = count then .ok else .adjusted
      fields := .patternRead id off (patternReadCount r off count)
        ((List.range (patternReadCount r off count)).map fun k => readByte s.store.memory (8 * r.base + off + k)) }) := by
  have hid' : field (bytesOf 1 id ++ bytesOf 2 off ++ bytesOf 1 count) 0 1 = id :=
    natOf_bytesOf_of_lt (k := 1) (by omega)
  have hoffset : field (bytesOf 1 id ++ bytesOf 2 off ++ bytesOf 1 count) 1 2 = off := natOf_bytesOf_of_lt (k := 2) hoff'
  have hcount' : field (bytesOf 1 id ++ bytesOf 2 off ++ bytesOf 1 count) 3 1 = count :=
    natOf_bytesOf_of_lt (k := 1) hcount
  unfold patternReadAct
  rw [hid', hoffset, hcount']
  refine (if_neg (not_not.2 hid)).trans ?_
  rw [hr]
  refine (if_neg (Nat.not_le.2 hoff)).trans ?_
  dsimp only
  rw [okOr_bne]

/-- Settles O18. -/
theorem patternReadReturnsBytes : Obligations.PatternReadReturnsBytes := by
  intro s tag id off count r hlo hhi hoff hoff' hcount hr ht
  exact ⟨patternReadCount r off count, rfl,
    exec_own rfl rfl ht rfl (patternReadAct_of (s := s.popRequest) ⟨hlo, hhi⟩ hoff hoff' hcount hr)⟩

end Sys2Proof.Machine

/-! Pattern playback (O19). -/

namespace Sys2Proof.Machine

/-! ### Words from a source, bit by bit -/

/-- The place of a pattern after `n` more bits. -/
def Store.after (st : Store) (id : Nat) : Nat → Source → Source
  | 0, src => src
  | n + 1, src => st.after id n (st.nextBit id src).2

/-- Bit `k` of a pattern from a place on. -/
def Store.bitFrom (st : Store) (id : Nat) (src : Source) (k : Nat) : Bool := (st.nextBit id (st.after id k src)).1

theorem Store.after_succ (st : Store) (id n : Nat) (src : Source) :
    st.after id (n + 1) src = (st.nextBit id (st.after id n src)).2 := by
  induction n generalizing src with
  | zero => rfl
  | succ n ih => exact ih (st.nextBit id src).2

theorem getLsbD_pushOne (w : Word) (b : Bool) (i : Nat) :
    ((w <<< 1) ||| (if b then 1 else 0)).getLsbD i =
      if i = 0 then b else decide (i < 32) && w.getLsbD (i - 1) := by
  rw [BitVec.getLsbD_or, BitVec.getLsbD_shiftLeft]
  rcases i with _ | i
  · cases b <;> rfl
  · have hbit : (if b then (1 : Word) else 0).getLsbD (i + 1) = false := by
      cases b
      · exact BitVec.getLsbD_zero
      · exact (BitVec.getLsbD_one ..).trans (by simp)
    rw [hbit]
    simp

/-- Taking bits ends at the place they lead to. -/
theorem Store.takeBits_snd (st : Store) (id n : Nat) (src : Source) (w : Word) :
    (st.takeBits id n src w).2 = st.after id n src := by
  induction n generalizing src w with
  | zero => rfl
  | succ n ih => exact ih _ _

/-- The bits taken stand behind the bits that were there. -/
theorem Store.getLsbD_takeBits (st : Store) (id n : Nat) (src : Source) (w : Word) {i : Nat} (hi : i < 32) :
    (st.takeBits id n src w).1.getLsbD i = if i < n then st.bitFrom id src (n - 1 - i) else w.getLsbD (i - n) := by
  induction n generalizing src w with
  | zero => rfl
  | succ n ih =>
    rw [Store.takeBits, ih, getLsbD_pushOne]
    by_cases h : i < n
    · rw [if_pos h, if_pos (by omega), show n + 1 - 1 - i = n - 1 - i + 1 by omega]
      rfl
    · by_cases he : i = n
      · subst he
        rw [if_neg h, if_pos (by omega), if_pos (by omega), show i + 1 - 1 - i = 0 by omega]
        rfl
      · rw [if_neg h, if_neg (by omega), if_neg (by omega), decide_eq_true (by omega), Bool.true_and,
          show i - n - 1 = i - (n + 1) by omega]

/-- Bit `k` of a word, in the order sent, is bit `k` of the pattern (R20). -/
theorem Store.getMsbD_takeWord (st : Store) (id : Nat) (src : Source) {k : Nat} (hk : k < 32) :
    (st.takeWord id src).1.getMsbD k = st.bitFrom id src k := by
  rw [Store.takeWord, BitVec.getMsbD, decide_eq_true hk, Bool.true_and,
    Store.getLsbD_takeBits st id 32 src 0 (by omega), if_pos (by omega), show 32 - 1 - (32 - 1 - k) = k by omega]

theorem Store.takeWord_snd (st : Store) (id : Nat) (src : Source) : (st.takeWord id src).2 = st.after id 32 src :=
  st.takeBits_snd id 32 src 0

/-! ### User patterns (R12) -/

theorem next_place {p n : Nat} (hp : p < n) : (if p + 1 < n then p + 1 else 0) = (p + 1) % n := by
  split
  · next h => rw [Nat.mod_eq_of_lt h]
  · rw [show p + 1 = n by omega, Nat.mod_self]

/-- A user pattern's place goes round its region. -/
theorem Store.after_user {st : Store} {id : Nat} {r : Region} (hr : st.region id = some r) {p : Nat} (hp : p < r.length)
    (n : Nat) : st.after id n (.user p) = .user ((p + n) % r.length) := by
  induction n with
  | zero => rw [Nat.add_zero, Nat.mod_eq_of_lt hp]; rfl
  | succ n ih =>
    rw [Store.after_succ, ih]
    simp only [Store.nextBit, hr]
    rw [next_place (Nat.mod_lt _ (by omega)), Nat.mod_add_mod, Nat.add_assoc]

theorem Store.bitFrom_user {st : Store} {id : Nat} {r : Region} (hr : st.region id = some r) {p : Nat}
    (hp : p < r.length) (k : Nat) : st.bitFrom id (.user p) k = st.bitAt r ((p + k) % r.length) := by
  rw [Store.bitFrom, Store.after_user hr hp]
  simp only [Store.nextBit, hr]

/-! ### Fixed patterns (R2) -/

theorem prbsLength_le (id : Nat) : prbsLength id ≤ 31 := by
  unfold prbsLength
  split <;> omega

theorem getLsbD_prbsOnes (id i : Nat) : (prbsOnes id).getLsbD i = decide (i < prbsLength id) := by
  have h := prbsLength_le id
  rw [prbsOnes, BitVec.getLsbD_ofNat, Nat.testBit_two_pow_sub_one, ← Bool.decide_and]
  exact decide_eq_decide.2 (by omega)

/-- Every tap names a stage of the register. -/
theorem prbsTaps_range {id t : Nat} (ht : t ∈ prbsTaps id) : 1 ≤ t ∧ t ≤ prbsLength id := by
  unfold prbsTaps at ht
  unfold prbsLength
  split at ht <;> revert t <;> decide

/-- The register after a step: the new bit in stage 1, the others one stage on. -/
theorem getLsbD_prbsShift (id : Nat) (reg : BitVec 32) (b : Bool) {i : Nat} (hi : i < prbsLength id) :
    (prbsShift id reg b).getLsbD i = if i = 0 then b else reg.getLsbD (i - 1) := by
  have h := prbsLength_le id
  rw [prbsShift, BitVec.getLsbD_and, getLsbD_prbsOnes, decide_eq_true hi, Bool.and_true, getLsbD_pushOne,
    decide_eq_true (by omega), Bool.true_and]

theorem prbsShift_and_ones (id : Nat) (reg : BitVec 32) (b : Bool) :
    prbsShift id reg b &&& prbsOnes id = prbsShift id reg b := by
  rw [prbsShift, BitVec.and_assoc, BitVec.and_self]

/-- The register holds the bits of a sequence before place `k`, the last one in stage 1. -/
def HoldsBefore (id : Nat) (bit : Int → Bool) (k : Int) (reg : BitVec 32) : Prop :=
  ∀ i : Nat, 1 ≤ i → i ≤ prbsLength id → reg.getLsbD (i - 1) = bit (k - (i : Int))

/-- The feedback is the exclusive OR of the bits the taps name. -/
theorem HoldsBefore.feedback {id : Nat} {bit : Int → Bool} {k : Int} {reg : BitVec 32} (h : HoldsBefore id bit k reg) :
    prbsFeedback id reg = (prbsTaps id).foldl (fun b (t : Nat) => b ^^ bit (k - (t : Int))) false := by
  refine List.foldl_ext _ _ _ fun b t ht => ?_
  obtain ⟨hlo, hhi⟩ := prbsTaps_range ht
  rw [h t hlo hhi]

theorem HoldsBefore.shift {id : Nat} {bit : Int → Bool} {k : Int} {reg : BitVec 32} (h : HoldsBefore id bit k reg)
    {b : Bool} (hb : b = bit k) : HoldsBefore id bit (k + 1) (prbsShift id reg b) := by
  intro i hlo hhi
  rw [getLsbD_prbsShift id reg b (by omega)]
  rcases Nat.eq_or_lt_of_le hlo with rfl | hlt
  · rw [if_pos rfl, hb, Int.ofNat_one, Int.add_sub_cancel]
  · rw [if_neg (by omega), h (i - 1) (by omega) (by omega)]
    congr 1
    omega

/-- The register after `k` bits of a fixed pattern. -/
def prbsAfter (id : Nat) (reg : BitVec 32) (k : Nat) : BitVec 32 := (fun r => (prbsStep id r).2)^[k] reg

theorem prbsAfter_succ (id : Nat) (reg : BitVec 32) (k : Nat) :
    prbsAfter id reg (k + 1) = (prbsStep id (prbsAfter id reg k)).2 := Function.iterate_succ_apply' ..

theorem Store.after_prbs (st : Store) (id : Nat) (reg : BitVec 32) (k : Nat) :
    st.after id k (.prbs reg) = .prbs (prbsAfter id reg k) := by
  induction k with
  | zero => rfl
  | succ k ih => rw [Store.after_succ, ih, prbsAfter_succ]; rfl

theorem Store.bitFrom_prbs (st : Store) (id : Nat) (reg : BitVec 32) (k : Nat) :
    st.bitFrom id (.prbs reg) k = prbsFeedback id (prbsAfter id reg k) := by
  rw [Store.bitFrom, Store.after_prbs]
  rfl

theorem prbsAfter_and_ones {id : Nat} {reg : BitVec 32} (h : reg &&& prbsOnes id = reg) (k : Nat) :
    prbsAfter id reg k &&& prbsOnes id = prbsAfter id reg k := by
  cases k with
  | zero => exact h
  | succ k => rw [prbsAfter_succ]; exact prbsShift_and_ones ..

/-- The register goes on holding the bits that its feedback makes. -/
theorem HoldsBefore.prbsAfter {id : Nat} {bit : Int → Bool} {reg : BitVec 32} (h : HoldsBefore id bit 0 reg) (k : Nat)
    (hbit : ∀ j : Nat, j < k → bit j = prbsFeedback id (prbsAfter id reg j)) :
    HoldsBefore id bit k (prbsAfter id reg k) := by
  induction k with
  | zero => exact h
  | succ k ih =>
    rw [prbsAfter_succ]
    have hk := ih fun j hj => hbit j (by omega)
    exact_mod_cast hk.shift (hbit k (by omega)).symm

/-- Settles O19. -/
theorem patternPlayback : Obligations.PatternPlayback := by
  refine ⟨fun st id r p hr hp => ⟨fun k hk => ?_, ?_⟩, fun st id reg bit _ _ hreg hword hbefore => ?_⟩
  · rw [Store.getMsbD_takeWord st id _ hk, Store.bitFrom_user hr hp]
    rfl
  · rw [Store.takeWord_snd, Store.after_user hr hp]
  · have hbit : ∀ j : Nat, j < 32 → bit j = prbsFeedback id (prbsAfter id reg j) := fun j hj => by
      rw [hword j hj, Store.getMsbD_takeWord st id _ hj, Store.bitFrom_prbs]
    have hstart : HoldsBefore id bit 0 reg := fun i hlo hhi => by rw [← hbefore i hlo hhi, Int.zero_sub]
    have hholds : ∀ k : Nat, k ≤ 32 → HoldsBefore id bit k (prbsAfter id reg k) := fun k hk =>
      hstart.prbsAfter k fun j hj => hbit j (by omega)
    refine ⟨fun k hk => ?_, prbsAfter id reg 32, ?_, prbsAfter_and_ones hreg 32, fun i hlo hhi => ?_⟩
    · rw [hbit k hk, (hholds k hk.le).feedback]
      have hcast : (do let t ← prbsTaps id; pure (t : Int)) = (prbsTaps id).map (Nat.cast : Nat → Int) :=
        List.flatMap_pure_eq_map Nat.cast (prbsTaps id)
      rw [hcast, List.foldl_map]
    · rw [Store.takeWord_snd, Store.after_prbs]
    · exact hholds 32 le_rfl i hlo hhi

end Sys2Proof.Machine

/-! Requests and word starts of the lane generators (O21 to O25). -/

namespace Sys2Proof.Machine

/-! ### Requests about a lane set -/

theorem State.onLanes_eq (b : LaneSet) (f : LaneState → LaneState) (s : State) :
    s.onLanes b f = { s with lanes := (s.onLanes b f).lanes } := by
  unfold State.onLanes
  generalize lanesOf b = ls
  induction ls generalizing s with
  | nil => rfl
  | cons l ls ih => exact ih (s.modLane l f)

theorem State.getLsbD_namedWhere (s : State) (b : LaneSet) (p : LaneState → Bool) (l : Lane) :
    (s.namedWhere b p).getLsbD l.val = (b.getLsbD l.val && p (s.lane l)) :=
  getLsbD_laneSetWhere (fun l => b.getLsbD l.val && p (s.lane l)) l

theorem Polarity.ofCode_code (p : Polarity) : Polarity.ofCode (natOf [p.code]) = some p := by cases p <;> rfl

theorem switchOf_switchCode (b : Bool) : switchOf (natOf [switchCode b]) = some b := by cases b <;> rfl

/-! ### The custom triple (R25) -/

/-- Settles O22. -/
theorem customTripleIsClamped : Obligations.CustomTripleIsClamped := by
  intro w
  have hpre : w.applied.pre = max (-15) (min 0 w.pre) := rfl
  have hpost : w.applied.post = max (-15) (min 0 w.post) := rfl
  have hmain : w.applied.main = if 63 < max 16 (min 63 w.main) - w.applied.pre - w.applied.post
      then 63 + w.applied.pre + w.applied.post else max 16 (min 63 w.main) := rfl
  split at hmain <;> omega

/-! ### GEN_SET (R21, R22) -/

/-- The body of a GEN_SET. -/
abbrev genSetBody (b : LaneSet) (pattern : Nat) (pol : Polarity) (custom : Bool) (n : Nat) (w : Triple) : List Byte :=
  [b] ++ bytesOf 1 pattern ++ [pol.code, switchCode custom] ++ bytesOf 1 n ++
    [BitVec.ofInt 8 w.pre, BitVec.ofInt 8 w.main, BitVec.ofInt 8 w.post]

/-- Every weight of the triple fits a signed byte. -/
def Triple.FitsBytes (w : Triple) : Prop :=
  (-128 ≤ w.pre ∧ w.pre ≤ 127) ∧ (-128 ≤ w.main ∧ w.main ≤ 127) ∧ (-128 ≤ w.post ∧ w.post ≤ 127)

/-- A GEN_SET whose checks pass, by its shaping source. -/
theorem genSetAct_of {s : State} {b : LaneSet} {pattern n : Nat} {pol : Polarity} {custom : Bool} {w : Triple}
    (hb : s.MayName b) (hp : pattern < 256) (hcheck : s.store.checkPattern pattern = none) (hw : w.FitsBytes)
    (hn : n < 256) (hpreset : custom = true ∨ n ≤ 7) :
    genSetAct (genSetBody b pattern pol custom n w) s =
      if custom then genSetApply b pattern pol .custom w.applied (w.applied != w) s
      else genSetApply b pattern pol (.preset n) (presetTriple n) false s := by
  have hpattern : field (genSetBody b pattern pol custom n w) 1 1 = pattern := natOf_bytesOf_of_lt (k := 1) hp
  have hn' : field (genSetBody b pattern pol custom n w) 4 1 = n := natOf_bytesOf_of_lt (k := 1) hn
  have hpol : Polarity.ofCode (field (genSetBody b pattern pol custom n w) 2 1) = some pol := Polarity.ofCode_code pol
  have hcustom : switchOf (field (genSetBody b pattern pol custom n w) 3 1) = some custom := switchOf_switchCode custom
  obtain ⟨⟨hpre, hpre'⟩, ⟨hmain, hmain'⟩, hpost, hpost'⟩ := hw
  have h5 : signedAt (genSetBody b pattern pol custom n w) 5 = w.pre := toInt_ofInt_signedByte hpre hpre'
  have h6 : signedAt (genSetBody b pattern pol custom n w) 6 = w.main := toInt_ofInt_signedByte hmain hmain'
  have h7 : signedAt (genSetBody b pattern pol custom n w) 7 = w.post := toInt_ofInt_signedByte hpost hpost'
  have hok : ¬(!custom && decide (7 < n)) = true := by
    rcases hpreset with rfl | h
    · exact Bool.false_ne_true
    · simp [h]
  unfold genSetAct
  rw [hpattern, hn', hpol, hcustom, h5, h6, h7]
  refine (if_neg (Bool.eq_false_iff.1 hb.namesAbsent)).trans ((if_neg hb.1).trans ((if_neg hok).trans ?_))
  rw [hcheck]
  rfl

/-- What GEN_SET makes of a generator (R22, R29). -/
theorem Generator.configure_eq (pattern : Nat) (pol : Polarity) (src : ShapingSource) (t : Triple) (g : Generator) :
    g.configure pattern pol src t = { g with
      pattern := pattern, polarity := pol, shaping := src, triple := t
      mode := if g.insertionPending then .none else g.mode
      run := if g.pattern ≠ pattern ∨ g.polarity ≠ pol then
        g.run.map fun run => { run with source := startSource pattern } else g.run } := by
  unfold Generator.configure Generator.cancelPending Generator.reload
  by_cases h : g.pattern ≠ pattern ∨ g.polarity ≠ pol
  · have hc : (g.pattern != pattern || g.polarity != pol) = true := by simpa using h
    simp only [if_pos hc, if_pos h]
  · have hc : ¬(g.pattern != pattern || g.polarity != pol) = true := by simpa using h
    simp only [if_neg hc, if_neg h]

theorem Generator.reloads_iff (pattern : Nat) (pol : Polarity) (g : Generator) :
    g.reloads pattern pol = true ↔ g.run.isSome = true ∧ (g.pattern ≠ pattern ∨ g.polarity ≠ pol) := by
  simp [Generator.reloads]

/-- Settles O21. -/
theorem genSetConfigures : Obligations.GenSetConfigures := by
  intro s tag b pattern pol src n w body ht hb hp hcheck hpre hpre' hmain hmain' hpost hpost' hn hsrc hbody
  subst hbody
  have hw : w.FitsBytes := ⟨⟨hpre, hpre'⟩, ⟨hmain, hmain'⟩, hpost, hpost'⟩
  obtain ⟨applied, hcustom, hpreset, hact⟩ : ∃ applied : Triple, (src = .custom → applied = w.applied) ∧
      (src = .preset n → applied = presetTriple n) ∧
      genSetAct (genSetBody b pattern pol (src == .custom) n w) s.popRequest =
        (s.popRequest.onLanes b fun x => { x with gen := x.gen.configure pattern pol src applied }, {
          status := if src = .custom ∧ applied ≠ w then .adjusted else .ok
          fields := .genSet pattern pol applied (s.namedWhere b fun x => x.gen.reloads pattern pol)
            (s.namedWhere b fun x => x.gen.insertionPending) }) := by
    have hname : s.popRequest.MayName b := hb
    rcases hsrc with ⟨rfl, hn7⟩ | rfl
    · refine ⟨presetTriple n, nofun, fun _ => rfl, (genSetAct_of hname hp hcheck hw hn (.inr hn7)).trans ?_⟩
      rw [if_neg (by simp), if_neg (by rintro ⟨h, -⟩; cases h)]
      rfl
    · refine ⟨w.applied, fun _ => rfl, nofun, (genSetAct_of hname hp hcheck hw hn (.inl rfl)).trans ?_⟩
      rw [if_pos (by rfl), genSetApply, okOr_bne]
      simp only [true_and, ite_not]
      rfl
  refine ⟨_, applied, _, _, exec_own rfl rfl ht rfl hact, State.onLanes_eq .., hcustom, hpreset, fun l => ?_, fun l => ?_,
    fun l => ⟨fun hl => ?_, fun hl => ?_⟩⟩
  · rw [State.getLsbD_namedWhere, Bool.and_eq_true, Generator.reloads_iff]
  · rw [State.getLsbD_namedWhere, Bool.and_eq_true]
  · rw [State.onLanes_lane, hl]
    rfl
  · rw [State.onLanes_lane, if_pos hl, Generator.configure_eq]
    rfl

/-! ### GEN_INSERT and GEN_READ (R26, R29, R30) -/

theorem clampNat_bne (lo hi n : Nat) (h : lo ≤ hi) : (clampNat lo hi n != n) = decide (n < lo ∨ hi < n) := by
  rw [Bool.eq_iff_iff, bne_iff_ne, decide_eq_true_iff, clampNat]
  omega

/-- A code and parameter, with the mode they give (R26). -/
def InsertMode.Codes (m : InsertMode) (adjusted : Bool) (code param : Nat) : Prop :=
  (code = 0 ∧ m = .none ∧ adjusted = false) ∨ (code = 1 ∧ m = .single ∧ adjusted = false) ∨
    (code = 2 ∧ m = .burst (max 1 (min 64 param)) ∧ adjusted = decide (param < 1 ∨ 64 < param)) ∨
    (code = 3 ∧ m = .rate (max 3 (min 12 param)) 0 ∧ adjusted = decide (param < 3 ∨ 12 < param))

theorem InsertMode.Codes.insertModeOf {m : InsertMode} {adjusted : Bool} {code param : Nat}
    (h : m.Codes adjusted code param) : insertModeOf code param = some (m, adjusted) := by
  rcases h with ⟨rfl, rfl, rfl⟩ | ⟨rfl, rfl, rfl⟩ | ⟨rfl, rfl, rfl⟩ | ⟨rfl, rfl, rfl⟩
  · rfl
  · rfl
  · rw [← clampNat_bne 1 64 param (by decide)]
    rfl
  · rw [← clampNat_bne 3 12 param (by decide)]
    rfl

theorem InsertMode.Codes.code_lt {m : InsertMode} {adjusted : Bool} {code param : Nat} (h : m.Codes adjusted code param) :
    code < 256 := by
  rcases h with ⟨rfl, -⟩ | ⟨rfl, -⟩ | ⟨rfl, -⟩ | ⟨rfl, -⟩ <;> decide

theorem genInsertAct_of {s : State} {b : LaneSet} {code param : Nat} {m : InsertMode} {adjusted : Bool}
    (hb : s.MayName b) (hparam : param < 256) (hm : m.Codes adjusted code param) :
    genInsertAct ([b] ++ bytesOf 1 code ++ bytesOf 1 param) s =
      (s.onLanes b fun x => { x with gen := x.gen.setMode m }, {
        status := okOr adjusted
        fields := .genInsert m (s.namedWhere b fun x => x.gen.insertionPending) }) := by
  have hcode : field ([b] ++ bytesOf 1 code ++ bytesOf 1 param) 1 1 = code := natOf_bytesOf_of_lt (k := 1) hm.code_lt
  have hparam' : field ([b] ++ bytesOf 1 code ++ bytesOf 1 param) 2 1 = param := natOf_bytesOf_of_lt (k := 1) hparam
  unfold genInsertAct
  rw [hcode, hparam', hm.insertModeOf]
  exact (if_neg (Bool.eq_false_iff.1 hb.namesAbsent)).trans (if_neg hb.1)

theorem genReadAct_of {s : State} {l : Lane} {clear : Byte} (hl : s.Exists l) :
    genReadAct [BitVec.ofNat 8 l.val, clear] s =
      (s.modLane l fun x => { x with gen := { x.gen with inserted := if clear = 0 then x.gen.inserted else 0 } },
        { status := .ok, fields := .genRead (s.lane l).genReadFields }) := by
  have hfound : s.existingLane (byteAt [BitVec.ofNat 8 l.val, clear] 0) = some l := State.existingLane_ofNat hl
  have hzero : field [BitVec.ofNat 8 l.val, clear] 1 1 = 0 ↔ clear = 0 := by
    have hfield : field [BitVec.ofNat 8 l.val, clear] 1 1 = 0 * 256 + clear.toNat := rfl
    rw [hfield, Nat.zero_mul, Nat.zero_add]
    exact ⟨fun h => BitVec.eq_of_toNat_eq h, fun h => by rw [h]; rfl⟩
  rw [genReadAct, hfound]
  simp only [hzero]

/-- Settles O23. -/
theorem genInsertAndRead : Obligations.GenInsertAndRead := by
  intro s tag
  refine ⟨fun b code param m adjusted hparam hm ht hb => ?_, fun l clear hl ht => ?_⟩
  · refine ⟨_, _, exec_own rfl rfl ht rfl (genInsertAct_of (s := s.popRequest) hb hparam hm), State.onLanes_eq ..,
      fun l => ?_, fun l => ⟨fun hn => ?_, fun hn => ⟨((s.lane l).gen.setMode m).flight, ?_, ?_, ?_, ?_⟩⟩⟩
    · rw [State.getLsbD_namedWhere, Bool.and_eq_true]
      rfl
    · rw [State.onLanes_lane, hn]
      rfl
    · rw [State.onLanes_lane, if_pos hn]
      rfl
    all_goals
      intros
      rename_i h
      simp only [Generator.setMode, h]
  · refine ⟨_, exec_own rfl rfl ht rfl (genReadAct_of (s := s.popRequest) hl), rfl, fun k hk => ?_, ?_⟩
    · exact (State.modLane_lane ..).trans (if_neg (Ne.symm hk))
    · exact (State.modLane_lane ..).trans (if_pos rfl)

end Sys2Proof.Machine

/-! The word a generator begins and the spacing of inserted errors (O24, O25). -/

namespace Sys2Proof.Machine

/-! ### Ones of a word -/

theorem foldl_count {α : Type} (p : α → Bool) (xs : List α) (n : Nat) :
    xs.foldl (fun n x => if p x then n + 1 else n) n = n + (xs.filter p).length := by
  induction xs generalizing n with
  | nil => rfl
  | cons x xs ih =>
    rw [List.foldl_cons, ih, List.filter_cons]
    cases p x
    · rfl
    · rw [if_pos rfl, if_pos rfl, List.length_cons]
      omega

/-- The ones of a word, counted from either end. -/
theorem popCount_eq (w : Word) : popCount w = ((List.range 32).filter fun i => w.getMsbD i).length := by
  have hperm : (List.range 32).Perm ((List.range 32).map fun i => 31 - i) := by decide
  have hbit : ∀ i ∈ List.range 32, w.getLsbD (31 - i) = w.getMsbD i := fun i hi => by
    rw [BitVec.getMsbD, decide_eq_true (List.mem_range.1 hi), Bool.true_and]
  rw [popCount, foldl_count, Nat.zero_add, (hperm.filter _).length_eq, List.filter_map, List.length_map]
  exact congrArg List.length (List.filter_congr hbit)

/-- The first `n` bits of a word, in the order sent, are ones. -/
theorem getMsbD_firstBits (n : Nat) {k : Nat} (hk : k < 32) : (firstBits n).getMsbD k = decide (k < n) := by
  rw [firstBits, BitVec.getMsbD_not, BitVec.getMsbD_ushiftRight, BitVec.getMsbD_allOnes, decide_eq_true hk,
    decide_eq_true (show k - n < 32 by omega), Bool.true_and, Bool.true_and, Bool.and_true, Bool.not_not]

theorem popCount_firstBits {n : Nat} (hn : n ≤ 32) : popCount (firstBits n) = n := by
  have hcount : ∀ n < 33, ((List.range 32).filter fun i => decide (i < n)).length = n := by decide
  rw [popCount_eq, List.filter_congr fun i hi => getMsbD_firstBits n (List.mem_range.1 hi)]
  exact hcount n (by omega)

theorem popCount_bit {c : Nat} (hc : c < 32) : popCount (1#32 <<< c) = 1 := by
  revert c
  decide

theorem popCount_zero : popCount 0 = 0 := by decide

/-! ### The insertion stage, by flight and mode (R27 to R29) -/

theorem continueBurst_last {left : Nat} (h : left ≤ 32) (after : Nat → Flight) (mode ended : InsertMode) :
    continueBurst left after mode ended = { flips := firstBits left, mode := ended, flight := .idle } := if_pos h

theorem continueBurst_more {left : Nat} (h : 32 < left) (after : Nat → Flight) (mode ended : InsertMode) :
    continueBurst left after mode ended = { flips := firstBits 32, mode := mode, flight := after (left - 32) } :=
  if_neg (Nat.not_le.2 h)

theorem Generator.insertion_own {g : Generator} {left : Nat} (h : g.flight = .own left) :
    g.insertion = continueBurst left .own g.mode .none := by
  simp only [Generator.insertion, h]

theorem Generator.insertion_detached {g : Generator} {left : Nat} (h : g.flight = .detached left) :
    g.insertion = continueBurst left .detached g.mode g.mode := by
  simp only [Generator.insertion, h]

theorem Generator.insertion_none {g : Generator} (h : g.flight = .idle) (hm : g.mode = .none) :
    g.insertion = { flips := 0, mode := .none, flight := .idle } := by
  simp only [Generator.insertion, h, hm]

theorem Generator.insertion_single {g : Generator} (h : g.flight = .idle) (hm : g.mode = .single) :
    g.insertion = { flips := firstBits 1, mode := .none, flight := .idle } := by
  simp only [Generator.insertion, h, hm]

theorem Generator.insertion_burst {g : Generator} {c : Nat} (h : g.flight = .idle) (hm : g.mode = .burst c) :
    g.insertion = continueBurst c .own (.burst c) .none := by
  simp only [Generator.insertion, h, hm]

theorem Generator.insertion_rate {g : Generator} {k phase : Nat} (h : g.flight = .idle) (hm : g.mode = .rate k phase) :
    g.insertion = rateWord k phase := by
  simp only [Generator.insertion, h, hm]

theorem rateWord_wait {k phase : Nat} (h : phase + 32 < 10 ^ k) :
    rateWord k phase = { flips := 0, mode := .rate k (phase + 32), flight := .idle } := if_neg (Nat.not_le.2 h)

theorem rateWord_flip {k phase : Nat} (h : 10 ^ k ≤ phase + 32) :
    rateWord k phase =
      { flips := 1#32 <<< (phase + 32 - 10 ^ k), mode := .rate k (phase + 32 - 10 ^ k), flight := .idle } := if_pos h

theorem thousand_le_pow {k : Nat} (hk : 3 ≤ k) : 1000 ≤ 10 ^ k := Nat.pow_le_pow_right (n := 10) (by decide) hk

/-- What the insertion stage does to a word, as R27 to R29 say it. -/
structure Generator.Inserts (g : Generator) (ins : Insertion) (n : Nat) : Prop where
  count : n = ((List.range 32).filter fun i => ins.flips.getMsbD i).length
  none : g.flight = .idle → g.mode = .none → ins.flips = 0 ∧ ins.mode = .none
  single : g.flight = .idle → g.mode = .single → ins.flips = 0x80000000 ∧ ins.mode = .none
  burst : g.flight = .idle → ∀ c, g.mode = .burst c → 1 ≤ c → c ≤ 32 →
    n = c ∧ (∀ k, k < c → ins.flips.getMsbD k = true) ∧ ins.mode = .none ∧ ins.flight = .idle
  longBurst : g.flight = .idle → ∀ c, g.mode = .burst c → 32 < c → c ≤ 64 →
    n = 32 ∧ ins.mode = .burst c ∧ ins.flight = .own (c - 32)
  flying : ∀ c, 1 ≤ c → c ≤ 32 → g.flight = .own c ∨ g.flight = .detached c →
    n = c ∧ (∀ k, k < c → ins.flips.getMsbD k = true) ∧ ins.flight = .idle ∧
    (g.flight = .own c → ins.mode = .none) ∧ (g.flight = .detached c → ins.mode = g.mode)
  rate : ∀ k phase, g.flight = .idle → g.mode = .rate k phase → 3 ≤ k → phase < 10 ^ k →
    ins.flight = .idle ∧
    (phase + 32 < 10 ^ k → n = 0 ∧ ins.mode = .rate k (phase + 32)) ∧
    (10 ^ k ≤ phase + 32 → n = 1 ∧ ins.flips.getMsbD (10 ^ k - phase - 1) = true ∧
      ins.mode = .rate k (phase + 32 - 10 ^ k))

theorem firstBits_ones {c : Nat} (hc : c ≤ 32) (k : Nat) (hk : k < c) : (firstBits c).getMsbD k = true := by
  rw [getMsbD_firstBits c (by omega), decide_eq_true hk]

theorem Generator.inserts (g : Generator) : g.Inserts g.insertion (popCount g.insertion.flips) where
  count := popCount_eq _
  none h hm := by
    rw [Generator.insertion_none h hm]
    exact ⟨rfl, rfl⟩
  single h hm := by
    rw [Generator.insertion_single h hm]
    exact ⟨by decide, rfl⟩
  burst h c hm _ hc := by
    rw [Generator.insertion_burst h hm, continueBurst_last hc]
    exact ⟨popCount_firstBits hc, firstBits_ones hc, rfl, rfl⟩
  longBurst h c hm hc _ := by
    rw [Generator.insertion_burst h hm, continueBurst_more hc]
    exact ⟨popCount_firstBits le_rfl, rfl, rfl⟩
  flying c _ hc h := by
    rcases h with h | h
    · rw [Generator.insertion_own h, continueBurst_last hc]
      exact ⟨popCount_firstBits hc, firstBits_ones hc, rfl, fun _ => rfl, (fun h' => by rw [h] at h'; cases h')⟩
    · rw [Generator.insertion_detached h, continueBurst_last hc]
      exact ⟨popCount_firstBits hc, firstBits_ones hc, rfl, (fun h' => by rw [h] at h'; cases h'), fun _ => rfl⟩
  rate k phase h hm hk hphase := by
    have hpow := thousand_le_pow hk
    rw [Generator.insertion_rate h hm]
    refine ⟨?_, fun hwait => ?_, fun hflip => ?_⟩
    · unfold rateWord
      split <;> rfl
    · rw [rateWord_wait hwait]
      exact ⟨popCount_zero, rfl⟩
    · rw [rateWord_flip hflip]
      refine ⟨popCount_bit (by omega), ?_, rfl⟩
      rw [BitVec.getMsbD_shiftLeft, show 10 ^ k - phase - 1 + (phase + 32 - 10 ^ k) = 31 by omega]
      rfl

/-! ### Amplitudes (R24) -/

theorem Production.nominal_nrz {p : Production} (h : p.pam4 = false) (j : Nat) :
    p.nominal j = if p.word.getMsbD j then 3 else -3 := by
  rw [Production.nominal, h]
  rfl

theorem Production.nominal_pam4 {p : Production} (h : p.pam4 = true) (j : Nat) :
    p.nominal j = if p.word.getMsbD (2 * j) then (if p.word.getMsbD (2 * j + 1) then 1 else 3)
      else (if p.word.getMsbD (2 * j + 1) then -1 else -3) := by
  rw [Production.nominal, if_pos h, symbolLevel]
  cases p.word.getMsbD (2 * j) <;> cases p.word.getMsbD (2 * j + 1) <;> rfl

theorem Production.amplitudes_getElem? (p : Production) (before : Int) {j : Nat} (hj : j + 1 < p.symbols) :
    (p.amplitudes before)[j]? = some (p.triple.pre * p.nominal (j + 1) + p.triple.main * p.nominal j +
      p.triple.post * (if j = 0 then before else p.nominal (j - 1))) := by
  rw [Production.amplitudes, List.getElem?_map, List.getElem?_range (by omega)]
  rfl

theorem settledAmplitudes_none (p : Production) :
    settledAmplitudes none p = p.amplitudes (precedingAmplitude none) := rfl

theorem settledAmplitudes_some (old p : Production) :
    settledAmplitudes (some old) p =
      old.lastAmplitude (p.nominal 0) :: p.amplitudes (old.nominal (old.symbols - 1)) := rfl

theorem Production.symbols_pos (p : Production) : 2 ≤ p.symbols := by
  unfold Production.symbols
  split <;> decide

/-! ### The word (R20, R22, R23, R30, R31) -/

/-- The word that a lane's generator begins next. -/
def LaneState.nextWord (st : Store) (run : GenRun) (x : LaneState) : Production :=
  { word := x.gen.polarity.word ((st.takeWord x.gen.pattern run.source).1 ^^^ x.gen.insertion.flips), pam4 := x.pam4,
    triple := x.gen.triple }

theorem Generator.beginWord_of_run {g : Generator} {run : GenRun} (h : g.run = some run) (st : Store) (pam4 : Bool) :
    g.beginWord st pam4 = { g with
      run := some
        { source := (st.takeWord g.pattern run.source).2
          word := some { word := g.polarity.word ((st.takeWord g.pattern run.source).1 ^^^ g.insertion.flips),
                         pam4 := pam4, triple := g.triple }
          sent := settledAmplitudes run.word
            { word := g.polarity.word ((st.takeWord g.pattern run.source).1 ^^^ g.insertion.flips), pam4 := pam4,
              triple := g.triple } }
      mode := g.insertion.mode, flight := g.insertion.flight
      inserted := min Config.max48 (g.inserted + popCount g.insertion.flips) } := by
  simp only [Generator.beginWord, h]

theorem listening_iff (st : CheckerState) : st.listening = true ↔ st = .hunt ∨ st = .verify ∨ st = .locked := by
  cases st <;> decide

theorem LaneState.generatorWord_of_run {x : LaneState} {run : GenRun} (h : x.gen.run = some run) (st : Store) :
    x.generatorWord st = { x with
      gen := { x.gen with
        run := some { source := (st.takeWord x.gen.pattern run.source).2, word := some (x.nextWord st run),
                      sent := settledAmplitudes run.word (x.nextWord st run) }
        mode := x.gen.insertion.mode, flight := x.gen.insertion.flight
        inserted := min Config.max48 (x.gen.inserted + popCount x.gen.insertion.flips) }
      path := x.path ++ (if x.loopback = true ∧ (x.chkState = .hunt ∨ x.chkState = .verify ∨ x.chkState = .locked) then
        (List.range 32).map (fun i => (x.nextWord st run).word.getMsbD i) else []) } := by
  rw [LaneState.generatorWord, Generator.beginWord_of_run h, h]
  have hguard : (x.loopback && x.chkState.listening && (some run).isSome) = true ↔
      x.loopback = true ∧ (x.chkState = .hunt ∨ x.chkState = .verify ∨ x.chkState = .locked) := by
    rw [Option.isSome_some, Bool.and_true, Bool.and_eq_true, listening_iff]
  by_cases hc : x.loopback = true ∧ (x.chkState = .hunt ∨ x.chkState = .verify ∨ x.chkState = .locked)
  · rw [if_pos (hguard.2 hc), if_pos hc]
    rfl
  · rw [if_neg (mt hguard.1 hc), if_neg hc, List.append_nil]
    rfl

theorem getMsbD_polarityWord (pol : Polarity) (w : Word) {k : Nat} (hk : k < 32) :
    (pol.word w).getMsbD k = (w.getMsbD k ^^ decide (pol = .inverted)) := by
  cases pol with
  | normal => exact (Bool.xor_false _).symm
  | inverted =>
    rw [Polarity.word, BitVec.getMsbD_not, decide_eq_true hk, Bool.true_and]
    exact (Bool.xor_true _).symm

theorem State.modLane_self {s : State} {l : Lane} {f : LaneState → LaneState} (h : f (s.lane l) = s.lane l) :
    s.modLane l f = s := by
  have hset : s.lanes.set l (f s.lanes[l]) = s.lanes := by
    rw [show f s.lanes[l] = s.lanes[l] from h]
    exact Vector.set_getElem_self _
  rw [State.modLane, hset]

/-- Settles O24. -/
theorem generatorWordStart : Obligations.GeneratorWordStart := by
  intro s l
  have hexec : exec (.generatorWordStart l) s = .next (s.modLane l (LaneState.generatorWord s.store)) := rfl
  refine ⟨fun hoff => ?_, fun run hrun => ?_⟩
  · rw [hexec, State.modLane_self]
    simp [LaneState.generatorWord, Generator.beginWord, hoff]
  · have hlane : (s.modLane l (LaneState.generatorWord s.store)).lane l = _ :=
      (State.modLane_lane ..).trans ((if_pos rfl).trans (LaneState.generatorWord_of_run hrun s.store))
    have hins := (s.lane l).gen.inserts
    have hsym := ((s.lane l).nextWord s.store run).symbols_pos
    refine ⟨s.modLane l (LaneState.generatorWord s.store), (s.lane l).gen.insertion.flips,
      ((s.lane l).nextWord s.store run).word, popCount (s.lane l).gen.insertion.flips, (s.lane l).nextWord s.store run,
      settledAmplitudes run.word ((s.lane l).nextWord s.store run), hexec, rfl, fun k hk => ?_, fun k hk => ?_,
      hins.count, rfl, ?_, fun hp => ⟨?_, fun j _ => Production.nominal_nrz hp j⟩,
      fun hp => ⟨?_, fun j _ => Production.nominal_pam4 hp j⟩, fun hw => ?_, fun old hw => ?_, fun ht hold => ?_, ?_, ?_, ?_,
      fun hidle => ?_, ?_, ?_⟩
    · exact (State.modLane_lane ..).trans (if_neg (Ne.symm hk))
    · rw [LaneState.nextWord, getMsbD_polarityWord _ _ hk, BitVec.getMsbD_xor]
    · rw [hlane]
    · exact if_neg (by rw [show ((s.lane l).nextWord s.store run).pam4 = false from hp]; decide)
    · exact if_pos hp
    · rw [hw, settledAmplitudes_none]
      obtain ⟨hlo, hhi⟩ := precedingAmplitude_bounds none
      refine ⟨?_, ⟨precedingAmplitude none, hlo, hhi, ?_⟩, fun j hj hlast => ?_⟩
      · rw [length_amplitudes]
        omega
      · exact Production.amplitudes_getElem? _ _ (by omega)
      · rw [Production.amplitudes_getElem? _ _ hlast, if_neg (by omega)]
    · rw [hw, settledAmplitudes_some]
      refine ⟨?_, rfl, fun j hj => ?_⟩
      · rw [List.length_cons, length_amplitudes]
        omega
      · rw [List.getElem?_cons_succ, Production.amplitudes_getElem? _ _ hj]
    · exact settledAmplitudes_withinFullSwing hold ht
    · rw [hlane]
      rfl
    · rw [hlane]
    · rw [hlane]
    · rw [hlane]
      exact ⟨hins.none hidle, hins.single hidle, hins.burst hidle, hins.longBurst hidle⟩
    · rw [hlane]
      exact hins.flying
    · rw [hlane]
      exact hins.rate

/-! ### The spacing of a RATE insertion (R28) -/

/-- Adding less than a divisor carries at most once. -/
theorem div_mod_add {q d : Nat} (a : Nat) (hd : d ≤ q) (hq : 0 < q) :
    (a % q + d < q → (a + d) / q = a / q ∧ (a + d) % q = a % q + d) ∧
    (q ≤ a % q + d → (a + d) / q = a / q + 1 ∧ (a + d) % q = a % q + d - q) := by
  have ha := Nat.mod_add_div a q
  have hlt := Nat.mod_lt a hq
  refine ⟨fun h => (Nat.div_mod_unique hq).2 ⟨by omega, h⟩, fun h => (Nat.div_mod_unique hq).2 ⟨?_, by omega⟩⟩
  rw [Nat.mul_add]
  omega

/-- A generator that has sent `n` words of a RATE of 10^k. -/
structure Generator.InRate (k n : Nat) (g : Generator) : Prop where
  run : g.run.isSome = true
  flight : g.flight = .idle
  mode : g.mode = .rate k (32 * n % 10 ^ k)
  inserted : g.inserted = 32 * n / 10 ^ k

theorem Generator.InRate.beginWord {k n : Nat} {g : Generator} (st : Store) (pam4 : Bool) (h : g.InRate k n) (hk : 3 ≤ k)
    (hmax : 32 * (n + 1) / 10 ^ k ≤ 2 ^ 48 - 1) : (g.beginWord st pam4).InRate k (n + 1) := by
  obtain ⟨run, hrun⟩ := Option.isSome_iff_exists.1 h.run
  have hpow := thousand_le_pow hk
  have hphase := Nat.mod_lt (32 * n) (show 0 < 10 ^ k by omega)
  obtain ⟨hidle, hwait, hflip⟩ := g.inserts.rate k _ h.flight h.mode hk hphase
  obtain ⟨hsame, hcarry⟩ := div_mod_add (q := 10 ^ k) (d := 32) (32 * n) (by omega) (by omega)
  rw [Nat.mul_add, Nat.mul_one] at hmax
  rw [Generator.beginWord_of_run hrun]
  have hcount (c : Nat) (hc : 32 * n / 10 ^ k + c = (32 * n + 32) / 10 ^ k) (hp : popCount g.insertion.flips = c) :
      min Config.max48 (g.inserted + popCount g.insertion.flips) = (32 * n + 32) / 10 ^ k := by
    rw [hp, h.inserted, hc, Config.max48, Nat.min_eq_right hmax]
  by_cases hlt : 32 * n % 10 ^ k + 32 < 10 ^ k
  · obtain ⟨hp, hm⟩ := hwait hlt
    obtain ⟨hdiv, hmod⟩ := hsame hlt
    exact ⟨rfl, hidle, by rw [Nat.mul_add, Nat.mul_one, hmod]; exact hm,
      by rw [Nat.mul_add, Nat.mul_one]; exact hcount 0 hdiv.symm hp⟩
  · obtain ⟨hp, -, hm⟩ := hflip (by omega)
    obtain ⟨hdiv, hmod⟩ := hcarry (by omega)
    exact ⟨rfl, hidle, by rw [Nat.mul_add, Nat.mul_one, hmod]; exact hm,
      by rw [Nat.mul_add, Nat.mul_one]; exact hcount 1 hdiv.symm hp⟩

/-- Settles O25, by induction on the number of words. -/
theorem rateInsertionSpacing : Obligations.RateInsertionSpacing := by
  intro st pam4 g k n hrun hidle hmode hk _ hzero hmax
  have hstart : g.InRate k 0 := ⟨hrun, hidle, by rw [hmode, Nat.mul_zero, Nat.zero_mod],
    by rw [hzero, Nat.mul_zero, Nat.zero_div]⟩
  have hall : ∀ m, m ≤ n → ((Generator.beginWord st pam4)^[m] g).InRate k m := by
    intro m
    induction m with
    | zero => exact fun _ => hstart
    | succ m ih =>
      intro hm
      rw [Function.iterate_succ_apply']
      exact (ih (by omega)).beginWord st pam4 hk ((Nat.div_le_div_right (by omega)).trans hmax)
  exact (hall n le_rfl).inserted

end Sys2Proof.Machine

/-! Error-rate arithmetic: the bound figure and the confidence stop (O42, O44). -/

namespace Sys2Proof.Machine

/-! ### The size of the count bound (R113, R114) -/

theorem countBound_gt (e : Nat) (cl : Level) : 2000 < countBound e cl := by
  rcases Nat.eq_zero_or_pos e with rfl | he
  · cases cl <;> decide
  · have := mul_add_lt_countBound e cl
    omega

/-- The root in R114 is at most 1000 (e + 1), so the count bound is below ten errors for each one counted. -/
theorem countBound_le (e : Nat) (cl : Level) : countBound e cl ≤ 9000 * max 1 e := by
  unfold countBound
  split
  case isTrue h => cases cl <;> interval_cases e <;> decide
  case isFalse h =>
    have hroot : Nat.sqrt ((e + 1) * 10 ^ 6) ≤ 1000 * (e + 1) := by
      refine Nat.sqrt_le_sqrt (m := (e + 1) * 10 ^ 6) (n := 1000 * (e + 1) * (1000 * (e + 1))) ?_ |>.trans_eq
        (Nat.sqrt_eq _)
      nlinarith
    have hz : cl.z ≤ 2326 ∧ cl.c ≤ 2470 := by cases cl <;> decide
    have hterm : cl.z * Nat.sqrt ((e + 1) * 10 ^ 6) / 1000 ≤ 2326 * (e + 1) := by
      refine Nat.div_le_of_le_mul ?_
      calc cl.z * Nat.sqrt ((e + 1) * 10 ^ 6) ≤ 2326 * (1000 * (e + 1)) := Nat.mul_le_mul hz.1 hroot
        _ = 1000 * (2326 * (e + 1)) := by ring
    omega

/-! ### Rounding upward (R115) -/

/-- A quotient between two whole numbers, one apart, rounds up to the greater one. -/
theorem ceilDiv_eq_iff {a b m : Nat} (hb : 0 < b) (hm : 0 < m) : ceilDiv a b = m ↔ (m - 1) * b < a ∧ a ≤ m * b := by
  rw [← lt_ceilDiv_iff hb, ← not_lt, ← lt_ceilDiv_iff hb]
  omega

/-- A quotient from 1 to 10 gives a mantissa from 1000 to 10000. -/
theorem ceilDiv_bounds {a b : Nat} (hb : 0 < b) (hlo : 1000 * b ≤ a) (hhi : a < 10000 * b) :
    1000 ≤ ceilDiv a b ∧ ceilDiv a b ≤ 10000 := by
  have h1 := lt_ceilDiv_iff (a := a) (m := 999) hb
  have h2 := lt_ceilDiv_iff (a := a) (m := 10000) hb
  omega

/-- Settles O42: the place found brings the bound between 1 and 10; a mantissa rounded up to 10000 is 1000 one place
before, which is there because the bound is below 9 at place 0. -/
theorem boundFigureRoundsUp : Obligations.BoundFigureRoundsUp := by
  intro e n cl hn hen hmax
  have hsize : countBound e cl ≤ 9000 * n :=
    (countBound_le e cl).trans (Nat.mul_le_mul_left _ (max_le hn hen))
  have hbig := countBound_gt e cl
  have hden : 0 < 1000 * n := by omega
  have hreach : 1000 * n ≤ countBound e cl * 10 ^ decade (countBound e cl) (1000 * n) 20 0 :=
    le_mul_pow_decade (by norm_num at hmax ⊢; omega)
  have hbelow : countBound e cl * 10 ^ decade (countBound e cl) (1000 * n) 20 0 < 10 * (1000 * n) :=
    mul_pow_decade_lt 20 (by omega)
  have hplace : decade (countBound e cl) (1000 * n) 20 0 ≤ 19 :=
    decade_le_of_le_mul_pow 20 (by norm_num at hmax ⊢; omega)
  rw [boundFigure_of_pos e cl hn]
  generalize hk : decade (countBound e cl) (1000 * n) 20 0 = k at *
  generalize countBound e cl = q at *
  have hscale : q * 10 ^ (3 + k) = 1000 * (q * 10 ^ k) := by ring
  obtain ⟨hlo, hhi⟩ := ceilDiv_bounds (a := q * 10 ^ (3 + k)) hden (by omega) (by omega)
  obtain ⟨hmore, hless⟩ := (ceilDiv_eq_iff (a := q * 10 ^ (3 + k)) hden (by omega)).1 rfl
  unfold renormalise
  split
  · next hten =>
    rw [hten] at hmore hless
    obtain ⟨j, rfl⟩ : ∃ j, k = j + 1 := by
      refine Nat.exists_eq_succ_of_ne_zero fun hzero => ?_
      rw [hzero] at hmore
      omega
    have hten' : q * 10 ^ (3 + (j + 1)) = 10 * (q * 10 ^ (3 + j)) := by ring
    refine ⟨j, 1000, ?_, le_rfl, by decide, by omega, by omega, by omega⟩
    rw [Figure.mk.injEq]
    exact ⟨rfl, by omega, rfl⟩
  · next hten => exact ⟨k, _, rfl, hlo, by omega, hplace, hless, hmore⟩

/-! ### The confidence stop (R118 to R120) -/

/-- The stop holds from the bits needed on, and not before. -/
theorem confident_iff {f : Figure} (hf : 0 < f.mantissa) (e n : Nat) (cl : Level) :
    confident e n cl f = true ↔ bitsNeeded e cl f ≤ n := by
  rw [confident, decide_eq_true_iff, bitsNeeded, Nat.add_one_le_iff, Nat.div_lt_iff_lt_mul (by omega)]
  rw [show 1000 * n * f.mantissa = n * (1000 * f.mantissa) by ring]

theorem Figure.valid_mantissa {f : Figure} (h : f.valid = true) : 0 < f.mantissa := by
  simp only [Figure.valid, Bool.and_eq_true, decide_eq_true_iff] at h
  omega

/-- Settles O44. -/
theorem confidenceStopAndTime : Obligations.ConfidenceStopAndTime := by
  intro e cl f hf
  have hstop := fun n => confident_iff (Figure.valid_mantissa hf) e n cl
  have hfalse (n : Nat) (h : n < bitsNeeded e cl f) : confident e n cl f = false :=
    Bool.eq_false_iff.2 fun hc => Nat.not_le.2 h ((hstop n).1 hc)
  refine ⟨fun n => decide_eq_true_iff, hfalse 0 (Nat.succ_pos _),
    fun n m hnm hc => (hstop m).2 (((hstop n).1 hc).trans hnm), (hstop _).2 le_rfl, hfalse, fun n rate ms hle hlt => ?_⟩
  have hrate : 0 < bitsPerMs rate := by
    unfold bitsPerMs
    split <;> decide
  have hms : ceilDiv (bitsNeeded e cl f - n) (bitsPerMs rate) = ms := by
    rcases hlt with rfl | hlt
    · have := lt_ceilDiv_iff (a := bitsNeeded e cl f - n) (m := 0) hrate
      omega
    · exact (ceilDiv_eq_iff hrate (Nat.pos_of_ne_zero fun h => by subst h; omega)).2 ⟨hlt, hle⟩
  rw [timeToConfidence, hms]
  rfl

end Sys2Proof.Machine

/-! Requests of the filter table (O45, O46). -/

namespace Sys2Proof.Machine

/-! ### Sixteen bits as a field -/

theorem natOf_bytes16 (w : BitVec 16) : natOf (bytes16 w) = w.toNat := by
  have hw := w.isLt
  have h : natOf (bytes16 w) = (0 * 256 + ((w >>> 8).setWidth 8).toNat) * 256 + (w.setWidth 8).toNat := rfl
  rw [h, BitVec.toNat_setWidth, BitVec.toNat_setWidth, BitVec.toNat_ushiftRight, Nat.shiftRight_eq_div_pow]
  omega

theorem ofNat_natOf_bytes16 (w : BitVec 16) : BitVec.ofNat 16 (natOf (bytes16 w)) = w := by
  rw [natOf_bytes16, BitVec.ofNat_toNat, BitVec.setWidth_eq]

/-! ### Sets of filters -/

theorem getLsbD_filterBit (i k : Fin 16) : (1#16 <<< i.val).getLsbD k.val = decide (i = k) := by
  revert i k
  decide

theorem getLsbD_foldl_filters (p : Fin 16 → Bool) (ks : List (Fin 16)) (b : BitVec 16) (k : Fin 16) :
    (ks.foldl (fun b k => if p k then b ||| (1#16 <<< k.val) else b) b).getLsbD k.val =
      (b.getLsbD k.val || (decide (k ∈ ks) && p k)) := by
  induction ks generalizing b with
  | nil => simp
  | cons i t ih =>
    have hstep : (if p i then b ||| (1#16 <<< i.val) else b).getLsbD k.val =
        (b.getLsbD k.val || (p i && decide (i = k))) := by
      cases p i
      · rw [if_neg Bool.false_ne_true, Bool.false_and, Bool.or_false]
      · rw [if_pos rfl, BitVec.getLsbD_or, getLsbD_filterBit, Bool.true_and]
    rw [List.foldl_cons, ih, hstep, Bool.or_assoc]
    congr 1
    by_cases hk : k = i
    · subst hk
      cases p k <;> simp
    · simp [hk, Ne.symm hk]

theorem getLsbD_filterSetWhere (p : Fin 16 → Bool) (k : Fin 16) : (filterSetWhere p).getLsbD k.val = p k := by
  have hzero : BitVec.getLsbD (0 : BitVec 16) k.val = false := BitVec.getLsbD_zero
  rw [filterSetWhere, getLsbD_foldl_filters, hzero, decide_eq_true (mem_filterList k), Bool.true_and, Bool.false_or]

/-- Sets of filters are the same when they hold the same filters. -/
theorem filterSet_ext {a b : BitVec 16} (h : ∀ k : Fin 16, a.getLsbD k.val = b.getLsbD k.val) : a = b :=
  BitVec.eq_of_getLsbD_eq fun i hi => h ⟨i, hi⟩

/-! ### Filters and active gates (R80) -/

theorem State.holdsActiveGate_iff (s : State) (b : LaneSet) :
    s.holdsActiveGate b = true ↔ ∃ l : Lane, b.getLsbD l.val = true ∧ (s.lane l).gate.state.active = true := by
  simp [State.holdsActiveGate, List.any_eq_true]

theorem State.filterInUse_iff (s : State) (k : Fin 16) :
    s.filterInUse k = true ↔ ∃ g l, s.filters[k] = some g ∧ g.lanes.getLsbD (Fin.val (n := 8) l) = true ∧
      (s.lane l).gate.state.active = true := by
  cases hf : s.filters[k] with
  | none => simp [State.filterInUse, hf]
  | some g => simp [State.filterInUse, hf, State.holdsActiveGate_iff]

/-- A filter that is set reaches an active gate, or the one it replaces does. -/
def State.ReachesActiveGate (s : State) (k : Fin 16) (f : Filter) : Prop :=
  ∃ l : Lane, (f.lanes.getLsbD l.val = true ∨ ∃ g, s.filters[k] = some g ∧ g.lanes.getLsbD l.val = true) ∧
    (s.lane l).gate.state.active = true

theorem State.reachesActiveGate_iff (s : State) (k : Fin 16) (f : Filter) :
    (s.filterInUse k || s.holdsActiveGate f.lanes) = true ↔ s.ReachesActiveGate k f := by
  rw [Bool.or_eq_true, State.filterInUse_iff, State.holdsActiveGate_iff]
  constructor
  · rintro (⟨g, l, hg, hl, ha⟩ | ⟨l, hl, ha⟩)
    · exact ⟨l, .inr ⟨g, hg, hl⟩, ha⟩
    · exact ⟨l, .inl hl, ha⟩
  · rintro ⟨l, hl | ⟨g, hg, hl⟩, ha⟩
    · exact .inr ⟨l, hl, ha⟩
    · exact .inl ⟨g, l, hg, hl, ha⟩

/-! ### FILTER_SET and FILTER_CLEAR (R81, R82) -/

/-- A FILTER_SET for existing lanes, its fields read back. -/
theorem filterSetAct_of {s : State} (k : Fin 16) {f : Filter} (hb : s.namesAbsent f.lanes = false) :
    filterSetAct (filterSetBody k f) s =
      if f.value &&& f.mask ≠ 0 ∨ f.directions = 0 ∨ f.lanes = 0 then (s, refuse .badFilter)
      else if s.filters[k] ≠ some f ∧ (s.filterInUse k || s.holdsActiveGate f.lanes) then (s, refuse .filterInUse)
      else ({ s with filters := s.filters.set k (some f) },
        { status := .ok, fields := .filterSet k.val f f.unmatchable }) := by
  have hk : field (filterSetBody k f) 0 1 = k.val := by
    have h : field (filterSetBody k f) 0 1 = 0 * 256 + (BitVec.ofNat 8 k.val).toNat := rfl
    rw [h, BitVec.toNat_ofNat]
    omega
  have hvalue : BitVec.ofNat 16 (field (filterSetBody k f) 1 2) = f.value := ofNat_natOf_bytes16 f.value
  have hmask : BitVec.ofNat 16 (field (filterSetBody k f) 3 2) = f.mask := ofNat_natOf_bytes16 f.mask
  have hdir : (byteAt (filterSetBody k f) 5).setWidth 2 = f.directions := by
    show (f.directions.setWidth 8).setWidth 2 = f.directions
    generalize f.directions = d
    revert d
    decide
  have hlanes : byteAt (filterSetBody k f) 6 = f.lanes := rfl
  unfold filterSetAct
  simp only [hvalue, hmask, hdir, hlanes, hk, k.isLt, dif_pos, Fin.eta]
  rw [hb]
  rfl

theorem filterClearAct_of {s : State} {set : BitVec 16} (hset : set ≠ 0)
    (hidle : ∀ k : Fin 16, set.getLsbD k.val = true → s.filterInUse k = false) :
    filterClearAct (bytes16 set) s =
      ({ s with filters := clearFilters set s.filters }, {
        status := .ok
        fields := .filterClear (filterSetWhere fun k => set.getLsbD k.val && s.filters[k].isSome)
          (filterSetWhere fun k => set.getLsbD k.val && s.filters[k].isNone) }) := by
  have hread : BitVec.ofNat 16 (field (bytes16 set) 0 2) = set := ofNat_natOf_bytes16 set
  have hfree : ¬(filterList.any fun k => set.getLsbD k.val && s.filterInUse k) = true := by
    rw [List.any_eq_true]
    rintro ⟨k, -, hk⟩
    obtain ⟨hmem, huse⟩ := Bool.and_eq_true_iff.1 hk
    rw [hidle k hmem] at huse
    cases huse
  unfold filterClearAct
  rw [hread]
  exact (if_neg hset).trans (if_neg hfree)

theorem getElem_clearFilters (set : BitVec 16) (table : Vector (Option Filter) 16) (k : Fin 16) :
    (clearFilters set table)[k] = if set.getLsbD k.val then none else table[k] := by
  simp [clearFilters]

/-- Settles O45. -/
theorem filterSetAndClear : Obligations.FilterSetAndClear := by
  intro s tag
  refine ⟨fun k f ht hexist => ?_, fun set hset ht hidle => ?_⟩
  · have hact := filterSetAct_of (s := s.popRequest) k ((s.namesAbsent_eq_false_iff f.lanes).2 hexist)
    have hgood (h1 : f.value &&& f.mask = 0) (h2 : f.directions ≠ 0) (h3 : f.lanes ≠ 0) :
        ¬(f.value &&& f.mask ≠ 0 ∨ f.directions = 0 ∨ f.lanes = 0) :=
      fun h => h.elim (fun h => h h1) fun h => h.elim h2 h3
    refine ⟨fun hbad => ?_, fun h1 h2 h3 hidle => ?_, fun h1 h2 h3 hsame => ?_, fun h1 h2 h3 hother hactive => ?_⟩
    · exact exec_own rfl rfl ht rfl (hact.trans (if_pos hbad))
    · refine exec_own rfl rfl ht rfl (hact.trans ((if_neg (hgood h1 h2 h3)).trans (if_neg ?_)))
      rintro ⟨-, huse⟩
      obtain ⟨l, hl, ha⟩ := (s.reachesActiveGate_iff k f).1 huse
      rw [hidle l hl] at ha
      cases ha
    · refine exec_own rfl rfl ht rfl (hact.trans ((if_neg (hgood h1 h2 h3)).trans
        ((if_neg fun h => h.1 hsame).trans ?_)))
      have hset : s.filters.set k (some f) = s.filters := by
        rw [← hsame]
        exact Vector.set_getElem_self _
      exact congrArg (fun t => (({ s.popRequest with filters := t } : State), _)) hset
    · exact exec_own rfl rfl ht rfl (hact.trans ((if_neg (hgood h1 h2 h3)).trans
        (if_pos ⟨hother, (s.reachesActiveGate_iff k f).2 hactive⟩)))
  · have hfree (k : Fin 16) (hk : set.getLsbD k.val = true) : s.filterInUse k = false := by
      refine Bool.eq_false_iff.2 fun huse => ?_
      obtain ⟨g, l, hg, hl, ha⟩ := (s.filterInUse_iff k).1 huse
      rw [hidle k l g hk hg hl] at ha
      cases ha
    refine ⟨_, _, _, exec_own rfl rfl ht rfl (filterClearAct_of (s := s.popRequest) hset hfree),
      fun k => ⟨getElem_clearFilters set s.filters k, ?_, ?_⟩⟩
    · rw [getLsbD_filterSetWhere, Bool.and_eq_true]
      rfl
    · rw [getLsbD_filterSetWhere, Bool.and_eq_true, Option.isNone_iff_eq_none]
      rfl

/-! ### FILTER_PROBE (R85) -/

theorem Direction.ofCode_code (d : Direction) : Direction.ofCode (natOf [d.code]) = some d := by cases d <;> rfl

theorem filterProbeAct_of {s : State} {l : Lane} (d : Direction) (ctx : BitVec 16) (hl : s.Exists l) :
    filterProbeAct ([BitVec.ofNat 8 l.val, d.code] ++ bytes16 ctx) s = (s, {
      status := .ok
      fields := .filterProbe (filterSetWhere fun k => (matching s.filters l d ctx).contains k)
        (classify s.filters l d ctx) }) := by
  have hlane : s.existingLane (byteAt ([BitVec.ofNat 8 l.val, d.code] ++ bytes16 ctx) 0) = some l :=
    State.existingLane_ofNat hl
  have hdir : Direction.ofCode (field ([BitVec.ofNat 8 l.val, d.code] ++ bytes16 ctx) 1 1) = some d :=
    Direction.ofCode_code d
  have hctx : BitVec.ofNat 16 (field ([BitVec.ofNat 8 l.val, d.code] ++ bytes16 ctx) 2 2) = ctx := ofNat_natOf_bytes16 ctx
  unfold filterProbeAct
  rw [hlane, hdir]
  dsimp only
  rw [hctx]

/-- Settles O46. -/
theorem filterProbeClassifies : Obligations.FilterProbeClassifies := by
  intro s tag l d ctx hl ht
  have hbit (k : Fin 16) : (filterSetWhere fun k => (matching s.filters l d ctx).contains k).getLsbD k.val = true ↔
      k ∈ matching s.filters l d ctx := by
    rw [getLsbD_filterSetWhere, List.contains_iff_mem]
  obtain ⟨hunmatched, hfilter, hoverlap⟩ := classify_cases s.filters l d ctx
  refine ⟨_, _, exec_own rfl rfl ht rfl (filterProbeAct_of (s := s.popRequest) d ctx hl), fun k => ?_, ?_, fun k => ?_, ?_⟩
  · rw [show s.popRequest.filters = s.filters from rfl, hbit, mem_matching]
    refine exists_congr fun f => and_congr_right fun _ => (matchesBit_iff f l d ctx).trans ?_
    exact and_congr_right fun _ => and_congr_right fun _ => forall_congr' fun i => forall_congr' fun _ =>
      forall_congr' fun _ => eq_comm
  · refine hunmatched.trans ⟨fun h => filterSet_ext fun k => ?_, fun h k hk => ?_⟩
    · exact (Bool.eq_false_iff.2 fun hk => h k ((hbit k).1 hk)).trans BitVec.getLsbD_zero.symm
    · have hset := (hbit k).2 hk
      rw [show (filterSetWhere fun k => (matching s.filters l d ctx).contains k) = 0 from h] at hset
      exact absurd (BitVec.getLsbD_zero.symm.trans hset) Bool.false_ne_true
  · refine (hfilter k).trans ⟨fun h => filterSet_ext fun j => ?_, fun h j => ?_⟩
    · rw [getLsbD_filterBit, Bool.eq_iff_iff, decide_eq_true_iff, eq_comm (a := k)]
      exact (hbit j).trans (h j)
    · rw [← hbit j, show (filterSetWhere fun k => (matching s.filters l d ctx).contains k) = 1#16 <<< k.val from h,
        getLsbD_filterBit, decide_eq_true_iff, eq_comm]
  · refine hoverlap.trans (exists_congr fun i => exists_congr fun j => and_congr_right fun _ => ?_)
    exact and_congr (hbit i).symm (hbit j).symm

end Sys2Proof.Machine
/-! Requests of the margin unit, the capture log and checker configurations (O26, O47, O50, O54). -/

namespace Sys2Proof.Machine

/-! ### SWEEP_SET (R129, R130) -/

/-- A plan whose fields fit their sizes is read back from its body. -/
theorem requestedPlan_sweepSetBody {p : Plan} (hlo : -128 ≤ p.start) (hhi : p.start ≤ 127) (hstep : p.step < 256)
    (hcount : p.count < 256) (hdwell : p.dwell < 2 ^ 32) (hlimit : p.limit < 2 ^ 32) (hwait : p.lockWait < 2 ^ 16) :
    requestedPlan (sweepSetBody p) = some p := by
  have haxis : Axis.ofCode (field (sweepSetBody p) 1 1) = some p.axis := Axis.ofCode_code p.axis
  have heye : Eye.ofCode (field (sweepSetBody p) 2 1) = some p.eye := Eye.ofCode_code p.eye
  have hmode : VerdictMode.ofCode (field (sweepSetBody p) 14 1) = some p.mode := VerdictMode.ofCode_code p.mode
  have hcont : switchOf (field (sweepSetBody p) 17 1) = some p.continuous := switchOf_switchCode p.continuous
  have hlanes : byteAt (sweepSetBody p) 0 = p.lanes := rfl
  have hstart : signedAt (sweepSetBody p) 3 = p.start := toInt_ofInt_signedByte hlo hhi
  have hstep' : field (sweepSetBody p) 4 1 = p.step := natOf_bytesOf_of_lt (k := 1) hstep
  have hcount' : field (sweepSetBody p) 5 1 = p.count := natOf_bytesOf_of_lt (k := 1) hcount
  have hdwell' : field (sweepSetBody p) 6 4 = p.dwell := natOf_bytesOf_of_lt (k := 4) hdwell
  have hlimit' : field (sweepSetBody p) 10 4 = p.limit := natOf_bytesOf_of_lt (k := 4) hlimit
  have hwait' : field (sweepSetBody p) 15 2 = p.lockWait := natOf_bytesOf_of_lt (k := 2) hwait
  simp only [requestedPlan, haxis, heye, hmode, hcont, hlanes, hstart, hstep', hcount', hdwell', hlimit', hwait']

theorem sweepSetAct_of {s : State} {p : Plan} (hb : s.MayName p.lanes)
    (hread : requestedPlan (sweepSetBody p) = some p) :
    sweepSetAct (sweepSetBody p) s =
      ({ s with margin := { s.margin with plan := p.applied } }, {
        status := if p.applied = p then .ok else .adjusted
        fields := .sweepSet p.applied p.applied.offsets }) := by
  have hlanes : byteAt (sweepSetBody p) 0 = p.lanes := rfl
  unfold sweepSetAct
  rw [hread, hlanes]
  refine (if_neg (Bool.eq_false_iff.1 hb.namesAbsent)).trans ((if_neg hb.1).trans ?_)
  dsimp only
  rw [okOr_bne]

/-- A count is lowered only where one point more would leave the range (R130). -/
theorem lt_of_appliedCount_lt {start : Int} {step count : Nat} (hstart : start ≤ 31) (hstep : 1 ≤ step)
    (h : appliedCount start step count < max 1 (min 64 count)) :
    31 < start + (appliedCount start step count : Int) * (step : Int) := by
  have hmin : appliedCount start step count = min (max 1 (min 64 count)) ((31 - start).toNat / step + 1) := rfl
  have hcount : appliedCount start step count = (31 - start).toNat / step + 1 := by omega
  have hroom : (31 - start).toNat < step * ((31 - start).toNat / step + 1) := Nat.lt_mul_div_succ _ hstep
  rw [← hcount, Nat.mul_comm] at hroom
  have hcast : ((31 - start).toNat : Int) < ((appliedCount start step count * step : Nat) : Int) := Int.ofNat_lt.2 hroom
  rw [Int.natCast_mul, Int.toNat_of_nonneg (by omega)] at hcast
  omega

/-- A list of numbers read as integers, in the form in which statements about offsets write it. -/
theorem bind_pure_cast (ns : List Nat) : (do let n ← ns; pure (n : Int)) = ns.map (Nat.cast : Nat → Int) :=
  List.flatMap_pure_eq_map Nat.cast ns

theorem Plan.offsets_eq (p : Plan) :
    p.offsets = (do let n ← List.range p.count; pure (n : Int)).map fun i => p.start + i * (p.step : Int) := by
  rw [bind_pure_cast, List.map_map]
  rfl

/-- Settles O47. -/
theorem sweepSetStoresPlan : Obligations.SweepSetStoresPlan := by
  intro s tag p hlo hhi hstep hcount hdwell hlimit hwait hb ht
  have hread := requestedPlan_sweepSetBody hlo hhi hstep hcount hdwell hlimit hwait
  obtain ⟨-, -, hstep1, -, hcount1, -, hlast, -, -, -, -⟩ := Plan.applied_inRange hb.1
  have hstart : p.applied.start ≤ 31 := (clampInt_bounds (lo := -32) (hi := 31) (by decide) p.start).2
  have hact := sweepSetAct_of (s := s.popRequest) hb hread
  rw [Plan.offsets_eq] at hact
  exact ⟨p.applied, exec_own rfl rfl ht rfl hact, rfl, rfl, rfl, hcount1,
    Nat.min_le_left _ _, hlast, lt_of_appliedCount_lt hstart hstep1, rfl, Nat.zero_max _⟩

/-! ### SWEEP_STOP (R139) -/

/-- Settles O50. -/
theorem sweepStopByState : Obligations.SweepStopByState := by
  intro s tag ht
  refine ⟨s.margin.state.stopNotices.foldl (fun c n => c.queueNotice n) s.popRequest.line, s.margin.state.hasSpot,
    s.margin.state.hasSweep, exec_own rfl rfl ht rfl rfl, fun h => ?_, fun p h => ?_, fun p sw h => ?_, fun p sw h => ?_⟩
  · rw [h]
    exact ⟨rfl, rfl, rfl⟩
  · rcases h with h | ⟨w, h⟩
    · rw [h]
      exact ⟨rfl, rfl, rfl⟩
    · rw [h]
      exact ⟨rfl, rfl, rfl⟩
  · rw [h]
    exact ⟨rfl, rfl, rfl⟩
  · rw [h]
    exact ⟨rfl, rfl, rfl⟩

/-! ### The capture log's requests (R145, R154 to R156) -/

theorem CaptureMode.ofCode_code (m : CaptureMode) : CaptureMode.ofCode (natOf [m.code]) = some m := by cases m <;> rfl

theorem ArbPolicy.ofCode_code (a : ArbPolicy) : ArbPolicy.ofCode (natOf [a.code]) = some a := by cases a <;> rfl

theorem FullPolicy.ofCode_code (f : FullPolicy) : FullPolicy.ofCode (natOf [f.code]) = some f := by cases f <;> rfl

/-- A fold over capture lanes changes the lanes of the log alone. -/
theorem foldl_modCapture_eq (f : CaptureLane → CaptureLane) (ls : List Lane) (s : State) :
    ls.foldl (fun s l => s.modCapture l f) s =
      { s with log := { s.log with lanes := (ls.foldl (fun s l => s.modCapture l f) s).log.lanes } } := by
  induction ls generalizing s with
  | nil => rfl
  | cons l ls ih => exact ih (s.modCapture l f)

theorem foldl_modCapture_lane (f : CaptureLane → CaptureLane) {ls : List Lane} (hls : ls.Nodup) (s : State) (k : Lane) :
    (ls.foldl (fun s l => s.modCapture l f) s).log.lanes[k] =
      if k ∈ ls then f s.log.lanes[k] else s.log.lanes[k] := by
  induction ls generalizing s with
  | nil => simp
  | cons l ls ih =>
    obtain ⟨hl, hls⟩ := List.nodup_cons.1 hls
    have hstep : (s.modCapture l f).log.lanes[k] = if l = k then f s.log.lanes[k] else s.log.lanes[k] := by
      simp only [State.modCapture, Fin.getElem_fin, Vector.getElem_set, Fin.val_inj]
      split
      · next h => rw [h]
      · rfl
    rw [List.foldl_cons, ih hls, hstep]
    by_cases hk : k = l
    · subst hk
      rw [if_neg hl, if_pos rfl, if_pos (List.mem_cons_self ..)]
    · rw [if_neg (Ne.symm hk)]
      simp only [List.mem_cons, hk, false_or]

theorem captureSetAct_of {s : State} {b : LaneSet} {mode : CaptureMode} {quota : Nat} (hb : s.MayName b)
    (hquota : quota < 2 ^ 16) :
    captureSetAct ([b, mode.code] ++ bytesOf 2 quota) s =
      ((lanesOf b).foldl (fun s l => s.modCapture l fun c => { c with mode := mode, quota := quota }) s, {
        status := .ok
        fields := .captureSet mode quota ((lanesOf b).map fun l => (l, s.log.lanes[l].quotaCount)) }) := by
  have hmode : CaptureMode.ofCode (field ([b, mode.code] ++ bytesOf 2 quota) 1 1) = some mode :=
    CaptureMode.ofCode_code mode
  have hquota' : field ([b, mode.code] ++ bytesOf 2 quota) 2 2 = quota := natOf_bytesOf_of_lt (k := 2) hquota
  unfold captureSetAct
  rw [hmode, hquota']
  exact (if_neg (Bool.eq_false_iff.1 hb.namesAbsent)).trans (if_neg hb.1)

theorem clampNat_eq_iff {lo hi : Nat} (h : lo ≤ hi) (n : Nat) : clampNat lo hi n = n ↔ lo ≤ n ∧ n ≤ hi := by
  rw [clampNat]
  omega

theorem logSetAct_of {s : State} (arb : ArbPolicy) (full : FullPolicy) {w : Nat} (hw : w < 2 ^ 16) :
    logSetAct ([arb.code, full.code] ++ bytesOf 2 w) s =
      (s.withLog { s.log with arb := arb, full := full, watermark := clampNat 1 512 w }, {
        status := if 1 ≤ w ∧ w ≤ 512 then .ok else .adjusted
        fields := .logSet arb full (clampNat 1 512 w) }) := by
  have harb : ArbPolicy.ofCode (field ([arb.code, full.code] ++ bytesOf 2 w) 0 1) = some arb := ArbPolicy.ofCode_code arb
  have hfull : FullPolicy.ofCode (field ([arb.code, full.code] ++ bytesOf 2 w) 1 1) = some full :=
    FullPolicy.ofCode_code full
  have hw' : field ([arb.code, full.code] ++ bytesOf 2 w) 2 2 = w := natOf_bytesOf_of_lt (k := 2) hw
  unfold logSetAct
  rw [harb, hfull, hw']
  dsimp only
  rw [okOr_bne]
  simp only [clampNat_eq_iff (show 1 ≤ 512 by decide)]

theorem logReadAct_of {s : State} {n : Nat} (hn : n < 256) :
    logReadAct (bytesOf 1 n) s =
      (s.withLog { s.log with
        records := s.log.records.drop (clampNat 1 6 n)
        fullMark := s.log.fullMark && decide (512 ≤ (s.log.records.drop (clampNat 1 6 n)).length) }, {
        status := if 1 ≤ n ∧ n ≤ 6 then .ok else .adjusted
        fields := .logRead (s.log.records.drop (clampNat 1 6 n)).length (s.log.records.take (clampNat 1 6 n)) }) := by
  have hn' : field (bytesOf 1 n) 0 1 = n := natOf_bytesOf_of_lt (k := 1) hn
  unfold logReadAct
  rw [hn']
  dsimp only
  rw [okOr_bne]
  simp only [clampNat_eq_iff (show 1 ≤ 6 by decide)]
  rfl

/-- Settles O54. -/
theorem captureAndLogRequests : Obligations.CaptureAndLogRequests := by
  intro s tag
  refine ⟨fun b mode quota hquota hb ht => ?_, fun arb full w hw ht => ?_, fun n hn ht => ?_, fun ht => ?_⟩
  · have hact := captureSetAct_of (s := s.popRequest) (mode := mode) hb hquota
    rw [foldl_modCapture_eq] at hact
    refine ⟨_, exec_own rfl rfl ht rfl hact, fun l => ?_⟩
    rw [foldl_modCapture_lane _ (nodup_lanesOf b)]
    simp only [mem_lanesOf]
    rfl
  · exact exec_own rfl rfl ht rfl (logSetAct_of (s := s.popRequest) arb full hw)
  · exact ⟨s.log.records.take (clampNat 1 6 n), s.log.records.drop (clampNat 1 6 n), (List.take_append_drop ..).symm,
      List.length_take .., exec_own rfl rfl ht rfl (logReadAct_of (s := s.popRequest) hn)⟩
  · exact exec_own rfl rfl ht rfl rfl

/-! ### CHK_SET (R46, R47) -/

theorem intervalOk_of {n : Nat} (h : n = 1 ∨ n = 10 ∨ n = 100 ∨ n = 1000) : intervalOk n = true := by
  rcases h with rfl | rfl | rfl | rfl <;> rfl

/-- Every field of the configuration fits its size. -/
def ChkConfig.FitsBytes (c : ChkConfig) : Prop :=
  c.pattern < 256 ∧ c.v < 2 ^ 16 ∧ c.a < 2 ^ 8 ∧ c.w < 2 ^ 32 ∧ c.t < 2 ^ 16 ∧ c.g < 2 ^ 16 ∧
    (c.interval = 1 ∨ c.interval = 10 ∨ c.interval = 100 ∨ c.interval = 1000)

theorem requestedChk_chkSetBody {c : ChkConfig} (b : LaneSet) (h : c.FitsBytes) :
    requestedChk (chkSetBody b c) = some c := by
  obtain ⟨hpattern, hv, ha, hw, ht, hg, hint⟩ := h
  have hpol : Polarity.ofCode (field (chkSetBody b c) 2 1) = some c.polarity := Polarity.ofCode_code c.polarity
  have hauto : switchOf (field (chkSetBody b c) 3 1) = some c.autoInvert := switchOf_switchCode c.autoInvert
  have hpattern' : field (chkSetBody b c) 1 1 = c.pattern := natOf_bytesOf_of_lt (k := 1) hpattern
  have hv' : field (chkSetBody b c) 4 2 = c.v := natOf_bytesOf_of_lt (k := 2) hv
  have ha' : field (chkSetBody b c) 6 1 = c.a := natOf_bytesOf_of_lt (k := 1) ha
  have hw' : field (chkSetBody b c) 7 4 = c.w := natOf_bytesOf_of_lt (k := 4) hw
  have ht' : field (chkSetBody b c) 11 2 = c.t := natOf_bytesOf_of_lt (k := 2) ht
  have hg' : field (chkSetBody b c) 13 2 = c.g := natOf_bytesOf_of_lt (k := 2) hg
  have hint' : field (chkSetBody b c) 15 2 = c.interval := natOf_bytesOf_of_lt (k := 2) (by omega)
  simp only [requestedChk, hpol, hauto, hpattern', hv', ha', hw', ht', hg', hint', intervalOk_of hint, if_true]

theorem chkSetAct_of {s : State} {b : LaneSet} {c : ChkConfig} (hb : s.MayName b) (hc : c.FitsBytes)
    (hcheck : s.store.checkPattern c.pattern = none) :
    chkSetAct (chkSetBody b c) s =
      if (lanesOf b).any fun l => (s.lane l).chkActive then (s, refuse .laneActive)
      else (s.onLanes b fun x => { x with chk := { x.chk with config := c.applied } }, {
        status := if c.applied = c then .ok else .adjusted
        fields := .chkSet c.applied }) := by
  have hlanes : byteAt (chkSetBody b c) 0 = b := rfl
  unfold chkSetAct
  rw [requestedChk_chkSetBody b hc, hlanes]
  refine (if_neg (Bool.eq_false_iff.1 hb.namesAbsent)).trans ((if_neg hb.1).trans ?_)
  simp only [hcheck, okOr_bne]

theorem LaneState.chkActive_iff (x : LaneState) : x.chkActive = true ↔ x.chkState ≠ .off ∧ x.chkState ≠ .held := by
  simp [LaneState.chkActive]

/-- W is rounded up to a power of two from 2^10 to 2^16 (R47). -/
theorem roundPow2_spec (n : Nat) :
    ∃ k, 10 ≤ k ∧ k ≤ 16 ∧ roundPow2 n = 2 ^ k ∧ (n ≤ 2 ^ 16 → n ≤ roundPow2 n) ∧ (2 ^ 16 < n → k = 16) ∧
      (10 < k → roundPow2 n < 2 * n) := by
  unfold roundPow2
  split_ifs
  · exact ⟨10, by decide, by decide, rfl, by omega, by omega, by omega⟩
  · exact ⟨11, by decide, by decide, rfl, by omega, by omega, by omega⟩
  · exact ⟨12, by decide, by decide, rfl, by omega, by omega, by omega⟩
  · exact ⟨13, by decide, by decide, rfl, by omega, by omega, by omega⟩
  · exact ⟨14, by decide, by decide, rfl, by omega, by omega, by omega⟩
  · exact ⟨15, by decide, by decide, rfl, by omega, by omega, by omega⟩
  · exact ⟨16, by decide, by decide, rfl, by omega, by omega, by omega⟩

/-- Settles O26. -/
theorem chkSetConfigures : Obligations.ChkSetConfigures := by
  intro s tag b c hpattern hv ha hw ht hg hint hcheck hb htakes
  have hfits : c.FitsBytes := ⟨hpattern, hv, ha, hw, ht, hg, hint⟩
  have hact := chkSetAct_of (s := s.popRequest) hb hfits hcheck
  refine ⟨fun hidle => ?_, fun ⟨l, hl, hoff, hheld⟩ => ?_⟩
  · have hnone : ¬((lanesOf b).any fun l => (s.popRequest.lane l).chkActive) = true := by
      rw [List.any_eq_true]
      rintro ⟨l, hl, hactive⟩
      obtain ⟨hoff, hheld⟩ := (LaneState.chkActive_iff _).1 hactive
      exact (hidle l ((mem_lanesOf b l).1 hl)).elim hoff hheld
    refine ⟨_, c.applied, exec_own rfl rfl htakes rfl (hact.trans (if_neg hnone)), State.onLanes_eq ..,
      fun l => ⟨fun hl => ?_, fun hl => ?_⟩, rfl, rfl, rfl, rfl, rfl, Nat.zero_max _, roundPow2_spec c.w, rfl, rfl⟩
    · rw [State.onLanes_lane, hl]
      rfl
    · rw [State.onLanes_lane, if_pos hl]
      rfl
  · refine exec_own rfl rfl htakes rfl (hact.trans (if_pos (List.any_eq_true.2 ⟨l, (mem_lanesOf b l).2 hl, ?_⟩)))
    exact (LaneState.chkActive_iff _).2 ⟨hoff, hheld⟩

end Sys2Proof.Machine

/-! How points go on and finish (O51 to O53). -/

namespace Sys2Proof.Machine

/-! ### The point in progress (R124 to R127) -/

theorem State.settleExpiry_settle {s : State} {p : Point} {d : Bool} (h : s.margin.state.point = some p)
    (hp : p.phase = .settle d) (midWord : Bool) :
    s.settleExpiry midWord =
      if d ∨ (s.lane p.settings.lane).chkState = .off ∨ (s.lane p.settings.lane).chkState = .held then
        s.finishPoint .noLock
      else if (s.lane p.settings.lane).chkState = .locked then s.setPoint { p with phase := .dwell midWord }
      else if p.settings.lockWait = 0 then s.finishPoint .noLock
      else s.setPoint { p with phase := .waitLock } := by
  simp only [State.settleExpiry, h, hp]

theorem State.settleExpiry_none {s : State} (h : s.margin.state.point = none) (midWord : Bool) :
    s.settleExpiry midWord = s := by
  simp only [State.settleExpiry, h]

theorem State.settleExpiry_other {s : State} {p : Point} (h : s.margin.state.point = some p) (midWord : Bool)
    (hp : ∀ d, p.phase ≠ .settle d) : s.settleExpiry midWord = s := by
  cases hph : p.phase with
  | settle d => exact absurd hph (hp d)
  | waitLock | dwell => simp only [State.settleExpiry, h, hph]

theorem State.lockWaitExpiry_none {s : State} (h : s.margin.state.point = none) : s.lockWaitExpiry = s := by
  simp only [State.lockWaitExpiry, h]

theorem State.lockWaitExpiry_waiting {s : State} {p : Point} (h : s.margin.state.point = some p)
    (hp : p.phase = .waitLock) : s.lockWaitExpiry = s.finishPoint .noLock := by
  simp only [State.lockWaitExpiry, h, hp]

theorem State.lockWaitExpiry_other {s : State} {p : Point} (h : s.margin.state.point = some p)
    (hp : p.phase ≠ .waitLock) : s.lockWaitExpiry = s := by
  simp only [State.lockWaitExpiry, h]

theorem State.marginTransition_at {s : State} {p : Point} {l : Lane} (h : s.margin.state.point = some p)
    (hl : p.settings.lane = l) (left entered : CheckerState) :
    s.marginTransition l left entered = s.pointTransition left entered p := by
  simp only [State.marginTransition, h, if_pos hl]

theorem State.marginTransition_elsewhere {s : State} {p : Point} {l : Lane} (h : s.margin.state.point = some p)
    (hl : p.settings.lane ≠ l) (left entered : CheckerState) : s.marginTransition l left entered = s := by
  simp only [State.marginTransition, h, if_neg hl]

theorem State.marginTransition_none {s : State} (h : s.margin.state.point = none) (l : Lane)
    (left entered : CheckerState) : s.marginTransition l left entered = s := by
  simp only [State.marginTransition, h]

theorem State.dwellWord_none {s : State} (h : s.margin.state.point = none) (l : Lane) (n : Nat) : s.dwellWord l n = s := by
  simp only [State.dwellWord, h]

/-- The point after a comparison word with `n` differing bits. -/
def Point.withWord (n : Nat) (p : Point) : Point := { p with bits := p.bits + 32, errors := p.errors + n }

theorem State.dwellWord_ends {s : State} {p : Point} {l : Lane} {v : Verdict} {n : Nat}
    (h : s.margin.state.point = some p) (hl : p.settings.lane = l) (hp : p.phase = .dwell false)
    (hv : (p.withWord n).verdict = some v) : s.dwellWord l n = (s.setPoint (p.withWord n)).finishPoint v := by
  rw [Point.withWord, hp] at hv
  simp only [State.dwellWord, h, if_pos hl, hp, hv, Point.withWord]

theorem State.dwellWord_goes_on {s : State} {p : Point} {l : Lane} {n : Nat}
    (h : s.margin.state.point = some p) (hl : p.settings.lane = l) (hp : p.phase = .dwell false)
    (hv : (p.withWord n).verdict = none) : s.dwellWord l n = s.setPoint (p.withWord n) := by
  rw [Point.withWord, hp] at hv
  simp only [State.dwellWord, h, if_pos hl, hp, hv, Point.withWord]

theorem State.dwellWord_passed {s : State} {p : Point} {l : Lane} (h : s.margin.state.point = some p)
    (hl : p.settings.lane = l) (hp : p.phase = .dwell true) (n : Nat) :
    s.dwellWord l n = s.setPoint { p with phase := .dwell false } := by
  simp only [State.dwellWord, h, if_pos hl, hp]

theorem State.dwellWord_other {s : State} {p : Point} {l : Lane} (h : s.margin.state.point = some p)
    (hp : p.settings.lane ≠ l ∨ (∃ d, p.phase = .settle d) ∨ p.phase = .waitLock) (n : Nat) : s.dwellWord l n = s := by
  rcases hp with hl | ⟨d, hd⟩ | hw
  · simp only [State.dwellWord, h, if_neg hl]
  · simp only [State.dwellWord, h, hd, ite_self]
  · simp only [State.dwellWord, h, hw, ite_self]

/-- A point's verdict by mode (the table of R126). -/
theorem Point.verdict_count {p : Point} (h : p.settings.mode = .count) :
    p.verdict = if p.settings.dwell ≤ p.bits then some (if p.errors ≤ p.settings.limit then .pass else .fail)
      else none := by
  simp only [Point.verdict, h]

theorem Point.verdict_limit {p : Point} (h : p.settings.mode = .limit) :
    p.verdict = if p.settings.limit < p.errors then some .fail
      else if p.settings.dwell ≤ p.bits then some .pass else none := by
  simp only [Point.verdict, h]

/-- What SETTLE_EXPIRY and LOCK_WAIT_EXPIRY leave of a state, before a frame may begin. -/
theorem exec_settleExpiry {s t : State} {midWord : Bool} (h : s.settleExpiry midWord = t) :
    exec (.settleExpiry midWord) s = .next t.pump := h ▸ rfl

theorem exec_lockWaitExpiry {s t : State} (h : s.lockWaitExpiry = t) : exec .lockWaitExpiry s = .next t.pump := h ▸ rfl

/-- Settles O51. -/
theorem pointPhases : Obligations.PointPhases := by
  refine ⟨fun s midWord => ⟨fun h => ⟨exec_settleExpiry (State.settleExpiry_none h _),
      exec_lockWaitExpiry (State.lockWaitExpiry_none h)⟩, fun p h => ⟨fun d chk hd hchk => ?_, fun hw => ?_, fun d hd => ?_⟩⟩,
    fun s l left entered => ⟨fun h => State.marginTransition_none h l left entered, fun p h =>
      ⟨fun hl => State.marginTransition_elsewhere h hl left entered, fun hl => ?_⟩⟩,
    fun s l n h => State.dwellWord_none h l n, fun s l n p q h hq =>
      ⟨fun hp => State.dwellWord_other h hp n, fun hl hp => State.dwellWord_passed h hl hp n, fun hl hp => ?_⟩⟩
  · have hsettle := State.settleExpiry_settle h hd midWord
    rw [hchk] at hsettle
    refine ⟨exec_lockWaitExpiry (State.lockWaitExpiry_other h (by rw [hd]; nofun)), fun hno => ?_, fun hd' hlocked => ?_,
      fun hd' hoff hheld hlocked hwait => ?_⟩
    · refine exec_settleExpiry (hsettle.trans ?_)
      rcases hno with hd' | hoff | hheld | ⟨hlocked, hwait⟩
      · exact if_pos (.inl hd')
      · exact if_pos (.inr (.inl hoff))
      · exact if_pos (.inr (.inr hheld))
      · rw [if_neg hlocked, if_pos hwait, ite_self]
    · refine exec_settleExpiry (hsettle.trans ((if_neg ?_).trans (if_pos hlocked)))
      rw [hd', hlocked]
      decide
    · refine exec_settleExpiry (hsettle.trans ((if_neg ?_).trans ((if_neg hlocked).trans (if_neg (Nat.ne_of_gt hwait)))))
      rw [hd']
      rintro (h | h | h)
      · cases h
      · exact hoff h
      · exact hheld h
  · exact ⟨exec_settleExpiry (State.settleExpiry_other h _ (by rw [hw]; nofun)),
      exec_lockWaitExpiry (State.lockWaitExpiry_waiting h hw)⟩
  · exact ⟨exec_settleExpiry (State.settleExpiry_other h _ (by rw [hd]; nofun)),
      exec_lockWaitExpiry (State.lockWaitExpiry_other h (by rw [hd]; nofun))⟩
  · rw [State.marginTransition_at h hl]
    refine ⟨fun d hd => ?_, fun hw => ?_, fun d hd => ?_⟩
    · simp only [State.pointTransition, hd]
    · simp only [State.pointTransition, hw]
    · simp only [State.pointTransition, hd]
  · subst hq
    have hcount (hm : p.settings.mode = .count) := Point.verdict_count (p := p.withWord n) hm
    have hlimit (hm : p.settings.mode = .limit) := Point.verdict_limit (p := p.withWord n) hm
    refine ⟨fun hm hmore => ?_, fun hm hdone => ?_, fun hm hover => ?_, fun hm hin hdone => ?_, fun hm hin hmore => ?_⟩
    · exact State.dwellWord_goes_on h hl hp ((hcount hm).trans (if_neg (Nat.not_le.2 hmore)))
    · exact State.dwellWord_ends h hl hp ((hcount hm).trans (if_pos hdone))
    · exact State.dwellWord_ends h hl hp ((hlimit hm).trans (if_pos hover))
    · exact State.dwellWord_ends h hl hp ((hlimit hm).trans ((if_neg (Nat.not_lt.2 hin)).trans (if_pos hdone)))
    · exact State.dwellWord_goes_on h hl hp
        ((hlimit hm).trans ((if_neg (Nat.not_lt.2 hin)).trans (if_neg (Nat.not_le.2 hmore))))

/-! ### Beginning a pass (R131, R138, R141) -/

/-- A pass of a plan has begun, from `m` to `n`, on its lowest lane `l`. -/
structure Margin.PassBegun (m n : Margin) (p : Plan) (l : Lane) : Prop where
  pass : n.passCounter = if m.passCounter < 2 ^ 32 - 1 then m.passCounter + 1 else 1
  stands : n.StandsAt p l 0 n.passCounter
  table : n.tables[l].RebuiltFor p n.passCounter
  others : ∀ k : Lane, k ≠ l → n.tables[k] = m.tables[k]

theorem Margin.passBegun {p : Plan} {l : Lane} (h : LowestOf p.lanes l) (m : Margin) :
    m.PassBegun (m.beginPass p) p l := by
  rw [← Plan.firstLane_of_lowest h]
  refine ⟨nextPass_eq _, Margin.beginSweepPoint_standsAt .., ?_, fun k hk => ?_⟩
  · rw [Margin.beginPass_table, if_pos rfl]
    exact PointTable.rebuild_rebuiltFor ..
  · rw [Margin.beginPass_table, if_neg hk.symm]

/-! ### Finishing a spot (R135, R140) -/

/-- Settles O52. -/
theorem spotFinishes : Obligations.SpotFinishes := by
  intro s v p
  refine ⟨s.finishPoint v, rfl, fun h => ?_, fun h => ?_, fun sw h => ?_, fun w l h hl => ?_⟩
  · rcases h with h | ⟨sw, h⟩ | ⟨w, h⟩ <;>
      simp only [State.finishPoint, State.queueNotices, Margin.finishNotices, Margin.finish, h] <;>
      exact ⟨rfl, rfl, rfl, rfl⟩
  · simp only [State.finishPoint, State.queueNotices, Margin.finish, h]
    exact ⟨rfl, rfl, rfl, rfl⟩
  · simp only [State.finishPoint, State.queueNotices, Margin.finish, h]
    refine ⟨Margin.beginSweepPoint_standsAt .., ?_, ?_⟩
    · rw [Margin.beginSweepPoint_eq]
    · rw [Margin.beginSweepPoint_eq]
      rfl
  · simp only [State.finishPoint, State.queueNotices, Margin.finish, h]
    obtain ⟨hpass, hstands, htable, hothers⟩ := Margin.passBegun hl { s.margin with spot := some (p.spotRecord v) }
    exact ⟨hpass, hstands, htable, hothers⟩

end Sys2Proof.Machine
/-! The finish of a sweep point: the longest run of passes, the next place, the table (O53). -/

namespace Sys2Proof.Machine

/-! ### Runs of passes (R133) -/

/-- `n` entries from `a` on are all set. -/
def RunAt (bs : List Bool) (a n : Nat) : Prop := ∀ i, i < n → bs[a + i]? = some true

/-- The longest run, the earliest of equals. -/
def IsLongest (bs : List Bool) (r : Nat × Nat) : Prop :=
  RunAt bs r.1 r.2 ∧ ∀ a n, RunAt bs a n → n ≤ r.2 ∧ (n = r.2 → 0 < n → r.1 ≤ a)

theorem RunAt.le_length {bs : List Bool} {a n : Nat} (h : RunAt bs a n) (hn : 0 < n) : a + n ≤ bs.length := by
  obtain ⟨hlt, -⟩ := List.getElem?_eq_some_iff.1 (h (n - 1) (by omega))
  omega

theorem RunAt.append {bs : List Bool} {a n : Nat} (h : RunAt bs a n) (cs : List Bool) : RunAt (bs ++ cs) a n := by
  intro i hi
  have hlt := (List.getElem?_eq_some_iff.1 (h i hi)).1
  rw [List.getElem?_append_left hlt]
  exact h i hi

/-- A run that ends before the last entry is one without it. -/
theorem RunAt.of_append {bs cs : List Bool} {a n : Nat} (h : RunAt (bs ++ cs) a n) (hn : a + n ≤ bs.length) :
    RunAt bs a n := by
  intro i hi
  rw [← List.getElem?_append_left (show a + i < bs.length by omega)]
  exact h i hi

/-- What the search knows after an opening part: the run that ends it, and the longest run in it. -/
structure RunsAfter (bs : List Bool) (start len : Nat) (best : Nat × Nat) : Prop where
  fits : len ≤ bs.length
  begins : 0 < len → start = bs.length - len
  ending : RunAt bs (bs.length - len) len
  whole : len < bs.length → bs[bs.length - len - 1]? ≠ some true
  longest : IsLongest bs best

/-- A run that ends the part searched is no longer than the one found there. -/
theorem RunsAfter.ending_le {bs : List Bool} {start len : Nat} {best : Nat × Nat} (h : RunsAfter bs start len best)
    {a n : Nat} (hrun : RunAt bs a n) (hend : a + n = bs.length) : n ≤ len := by
  by_contra hlt
  refine h.whole (by omega) ?_
  have := hrun (n - len - 1) (by omega)
  rwa [show a + (n - len - 1) = bs.length - len - 1 by omega] at this

theorem RunsAfter.stop {bs : List Bool} {start len : Nat} {best : Nat × Nat} (h : RunsAfter bs start len best) :
    RunsAfter (bs ++ [false]) start 0 best where
  fits := Nat.zero_le _
  begins h := absurd h (Nat.lt_irrefl 0)
  ending i hi := absurd hi (Nat.not_lt_zero i)
  whole _ := by
    rw [List.length_append, List.length_singleton, Nat.sub_zero, Nat.add_sub_cancel, List.getElem?_concat_length]
    nofun
  longest := by
    refine ⟨h.longest.1.append _, fun a n hrun => ?_⟩
    rcases Nat.eq_zero_or_pos n with rfl | hn
    · exact ⟨Nat.zero_le _, fun _ h => absurd h (Nat.lt_irrefl 0)⟩
    · have hle := hrun.le_length hn
      rw [List.length_append, List.length_singleton] at hle
      have hin : a + n ≤ bs.length := by
        by_contra hlast
        have hbit := hrun (n - 1) (by omega)
        rw [show a + (n - 1) = bs.length by omega, List.getElem?_concat_length] at hbit
        cases hbit
      exact h.longest.2 a n (hrun.of_append hin)

theorem RunsAfter.extend {bs : List Bool} {start len : Nat} {best : Nat × Nat} (h : RunsAfter bs start len best) :
    RunsAfter (bs ++ [true]) (if len = 0 then bs.length else start) (len + 1)
      (if best.2 < len + 1 then (if len = 0 then bs.length else start, len + 1) else best) := by
  have hfits := h.fits
  have hlength : (bs ++ [true]).length = bs.length + 1 := by rw [List.length_append, List.length_singleton]
  have hstart : (if len = 0 then bs.length else start) = bs.length - len := by
    split
    · omega
    · exact h.begins (by omega)
  have hending : RunAt (bs ++ [true]) (bs.length - len) (len + 1) := by
    intro i hi
    rcases Nat.lt_succ_iff_lt_or_eq.1 hi with hlt | rfl
    · exact h.ending.append _ i hlt
    · rw [Nat.sub_add_cancel hfits, List.getElem?_concat_length]
  have hinside {a n : Nat} (hrun : RunAt (bs ++ [true]) a n) (hn : 0 < n) (hin : a + n ≤ bs.length) :
      n ≤ best.2 ∧ (n = best.2 → 0 < n → best.1 ≤ a) := h.longest.2 a n (hrun.of_append hin)
  have hlast {a n : Nat} (hrun : RunAt (bs ++ [true]) a n) (hn : 0 < n) (hout : ¬a + n ≤ bs.length) :
      a + n = bs.length + 1 ∧ n ≤ len + 1 := by
    have hle := hrun.le_length hn
    rw [hlength] at hle
    have hshort : RunAt bs a (n - 1) :=
      RunAt.of_append (cs := [true]) (fun i hi => hrun i (by omega)) (by omega)
    have := h.ending_le hshort (by omega)
    omega
  rw [hstart]
  refine ⟨by omega, fun _ => by omega, ?_, fun hlt => ?_, ?_⟩
  · rwa [hlength, Nat.add_sub_add_right]
  · rw [hlength] at hlt ⊢
    rw [Nat.add_sub_add_right, List.getElem?_append_left (by omega)]
    exact h.whole (by omega)
  · split
    · next hmore =>
      refine ⟨hending, fun a n hrun => ?_⟩
      dsimp only
      rcases Nat.eq_zero_or_pos n with rfl | hn
      · exact ⟨Nat.zero_le _, fun _ h => absurd h (Nat.lt_irrefl 0)⟩
      · by_cases hin : a + n ≤ bs.length
        · obtain ⟨hle, -⟩ := hinside hrun hn hin
          exact ⟨by omega, fun heq => by omega⟩
        · obtain ⟨hend, hle⟩ := hlast hrun hn hin
          exact ⟨hle, fun heq _ => by omega⟩
    · next hmore =>
      refine ⟨h.longest.1.append _, fun a n hrun => ?_⟩
      rcases Nat.eq_zero_or_pos n with rfl | hn
      · exact ⟨Nat.zero_le _, fun _ h => absurd h (Nat.lt_irrefl 0)⟩
      · by_cases hin : a + n ≤ bs.length
        · exact hinside hrun hn hin
        · obtain ⟨hend, hle⟩ := hlast hrun hn hin
          have hbest := h.longest.1.le_length (show 0 < best.2 by omega)
          exact ⟨by omega, fun heq _ => by omega⟩

/-- The search finds the longest run, the earliest of equals. -/
theorem longestRun_of_prefix (bs pre : List Bool) (start len : Nat) (best : Nat × Nat)
    (h : RunsAfter pre start len best) : IsLongest (pre ++ bs) (longestRun bs pre.length start len best) := by
  induction bs generalizing pre start len best with
  | nil => rw [List.append_nil]; exact h.longest
  | cons b bs ih =>
    have hlength (b : Bool) : (pre ++ [b]).length = pre.length + 1 := by rw [List.length_append, List.length_singleton]
    rw [List.append_cons]
    cases b with
    | false =>
      rw [longestRun, ← hlength false]
      exact ih _ _ _ _ h.stop
    | true =>
      rw [longestRun, ← hlength true]
      exact ih _ _ _ _ h.extend

theorem isLongest_longestRun (bs : List Bool) : IsLongest bs (longestRun bs 0 0 0 (0, 0)) := by
  have hrun (a : Nat) : RunAt [] a 0 := fun i hi => absurd hi (Nat.not_lt_zero i)
  refine longestRun_of_prefix bs [] 0 0 (0, 0) ⟨le_rfl, fun _ => rfl, hrun _, fun h => absurd h (Nat.lt_irrefl 0), hrun _,
    fun a n h => ?_⟩
  rcases Nat.eq_zero_or_pos n with rfl | hn
  · exact ⟨le_rfl, fun _ h => absurd h (Nat.lt_irrefl 0)⟩
  · have := h.le_length hn
    rw [List.length_nil] at this
    omega

/-- The summary computed is the one R133 describes. -/
theorem eyeSummary_describes (step pass : Nat) (t : PointTable) : (eyeSummary step pass t).Describes t step pass := by
  obtain ⟨hrun, hlongest⟩ := isLongest_longestRun (t.inUse.map fun e => e.verdict == .pass)
  refine ⟨rfl, rfl, _, _, hrun, hlongest, rfl, ?_⟩
  have hcentre : (eyeSummary step pass t).centre =
      if (longestRun (t.inUse.map fun e => e.verdict == .pass) 0 0 0 (0, 0)).2 = 0 then none
      else some (((t.inUse[(longestRun (t.inUse.map fun e => e.verdict == .pass) 0 0 0 (0, 0)).1]?).map
        PointEntry.offset).getD 0 +
        ((((longestRun (t.inUse.map fun e => e.verdict == .pass) 0 0 0 (0, 0)).2 - 1) * step / 2 : Nat) : Int)) := rfl
  rw [hcentre]
  generalize longestRun (t.inUse.map fun e => e.verdict == .pass) 0 0 0 (0, 0) = r at hrun
  split
  · rfl
  · next hpos =>
    have hfirst := hrun 0 (Nat.pos_of_ne_zero hpos)
    rw [Nat.add_zero, List.getElem?_map, Option.map_eq_some_iff] at hfirst
    obtain ⟨e, he, -⟩ := hfirst
    have hin : t.entries.toList[r.1]? = some e := by
      have htake := he
      rw [PointTable.inUse, List.getElem?_take] at htake
      split at htake
      · exact htake
      · cases htake
    rw [he, hin]
    rfl

/-! ### The next place (R130, R140) -/

theorem find?_of_least {ls : List Lane} (hls : ls.Pairwise (· < ·)) {q : Lane → Bool} {l : Lane} (hl : l ∈ ls)
    (hq : q l = true) (hleast : ∀ k ∈ ls, q k = true → l ≤ k) : ls.find? q = some l := by
  induction ls with
  | nil => cases hl
  | cons a rest ih =>
    obtain ⟨ha, hrest⟩ := List.pairwise_cons.1 hls
    rw [List.find?_cons]
    by_cases hqa : q a = true
    · rw [hqa]
      have hle := hleast a (List.mem_cons_self ..) hqa
      rcases List.mem_cons.1 hl with rfl | hmem
      · rfl
      · exact absurd (ha l hmem) (not_lt.2 hle)
    · rw [Bool.eq_false_iff.2 hqa]
      have hmem : l ∈ rest := (List.mem_cons.1 hl).resolve_left fun h => hqa (h ▸ hq)
      exact ih hrest hmem fun k hk => hleast k (List.mem_cons_of_mem _ hk)

theorem Plan.next_point {p : Plan} {l : Lane} {i : Nat} (h : i + 1 < p.count) : p.next l i = some (l, i + 1) := if_pos h

theorem Plan.next_lane {p : Plan} {l m : Lane} {i : Nat} (h : p.count ≤ i + 1) (hm : p.lanes.getLsbD m.val = true)
    (hlt : l.val < m.val) (hleast : ∀ k : Lane, p.lanes.getLsbD k.val = true → l.val < k.val → m.val ≤ k.val) :
    p.next l i = some (m, 0) := by
  rw [Plan.next, if_neg (Nat.not_lt.2 h),
    find?_of_least (pairwise_lanesOf p.lanes) ((mem_lanesOf _ _).2 hm) (decide_eq_true hlt)
      fun k hk hq => hleast k ((mem_lanesOf _ _).1 hk) (of_decide_eq_true hq)]
  rfl

theorem Plan.next_none {p : Plan} {l : Lane} {i : Nat} (h : p.count ≤ i + 1)
    (hlast : ∀ k : Lane, p.lanes.getLsbD k.val = true → k.val ≤ l.val) : p.next l i = none := by
  rw [Plan.next, if_neg (Nat.not_lt.2 h), List.find?_eq_none.2 fun k hk hq =>
    absurd (of_decide_eq_true hq) (Nat.not_lt.2 (hlast k ((mem_lanesOf _ _).1 hk)))]
  rfl

/-! ### The finish (R128, R132, R140) -/

theorem PointTable.write_count (i bits errors : Nat) (v : Verdict) (t : PointTable) :
    (t.write i bits errors v).count = t.count := by
  unfold PointTable.write
  split <;> rfl

theorem PointTable.write_entry {i : Nat} (hi : i < 64) (bits errors : Nat) (v : Verdict) (t : PointTable) (k : Fin 64) :
    (t.write i bits errors v).entries[k] =
      if k.val = i then { t.entries[k] with bits := bits, errors := errors, verdict := v } else t.entries[k] := by
  rw [PointTable.write, dif_pos hi]
  simp only [Fin.getElem_fin, Vector.getElem_set, eq_comm (a := i)]
  split
  · next h => simp only [h]
  · rfl

theorem State.finishPoint_sweep {s : State} {p : Point} {sw : Sweep} (h : s.margin.state = .sweep p sw) (v : Verdict) :
    s.finishPoint v = { s with
      margin := (s.margin.recordPoint p sw v).afterPoint sw
      line := if (sw.plan.next sw.lane sw.index).isNone then s.line.queueNotice (.sweep .complete sw.pass) else s.line } := by
  simp only [State.finishPoint, State.queueNotices, Margin.finish, Margin.finishNotices, h]
  split <;> rfl

theorem Margin.afterPoint_some {m : Margin} {sw : Sweep} {l : Lane} {i : Nat}
    (h : sw.plan.next sw.lane sw.index = some (l, i)) :
    m.afterPoint sw = m.beginSweepPoint { sw with lane := l, index := i } true := by
  simp only [Margin.afterPoint, h]

theorem Margin.afterPoint_none {m : Margin} {sw : Sweep} (h : sw.plan.next sw.lane sw.index = none) :
    m.afterPoint sw = if sw.plan.continuous then m.beginPass sw.plan else m.idle := by
  simp only [Margin.afterPoint, h]

/-- What follows a point keeps the plan, the summaries and the spot record. -/
theorem Margin.afterPoint_keeps (sw : Sweep) (m : Margin) :
    (m.afterPoint sw).plan = m.plan ∧ (m.afterPoint sw).summaries = m.summaries ∧ (m.afterPoint sw).spot = m.spot := by
  unfold Margin.afterPoint
  split
  · rw [Margin.beginSweepPoint_eq]
    exact ⟨rfl, rfl, rfl⟩
  · split
    · rw [Margin.beginPass, Margin.beginSweepPoint_eq]
      exact ⟨rfl, rfl, rfl⟩
    · exact ⟨rfl, rfl, rfl⟩

/-- Settles O53. -/
theorem sweepPointFinishes : Obligations.SweepPointFinishes := by
  intro s v p sw hst hi
  obtain ⟨hplan, hsum, hspot⟩ := Margin.afterPoint_keeps sw (s.margin.recordPoint p sw v)
  refine ⟨s.finishPoint v, s.margin.tables[sw.lane].write sw.index p.bits p.errors v,
    eyeSummary sw.plan.step sw.pass (s.margin.tables[sw.lane].write sw.index p.bits p.errors v), rfl, ?_⟩
  rw [State.finishPoint_sweep hst]
  refine ⟨rfl, hplan, hspot, PointTable.write_count .., fun i => PointTable.write_entry hi .., fun hmore => ?_,
    fun hdone => ⟨eyeSummary_describes .., ?_, fun l hl hlt hleast => ?_, fun hlast => ?_⟩⟩
  · have hnext := Plan.next_point (l := sw.lane) hmore
    dsimp only
    rw [Margin.afterPoint_some hnext, hnext]
    refine ⟨rfl, Margin.beginSweepPoint_standsAt .., ?_, ?_, ?_⟩
    · rw [Margin.beginSweepPoint_eq]
      rfl
    · rw [Margin.beginSweepPoint_eq]
      exact if_pos hmore
    · rw [Margin.beginSweepPoint_eq]
      rfl
  · exact hsum.trans (if_neg (Nat.not_lt.2 hdone))
  · have hnext := Plan.next_lane hdone hl hlt hleast
    dsimp only
    rw [Margin.afterPoint_some hnext, hnext]
    have htable (k : Lane) : ((s.margin.recordPoint p sw v).beginSweepPoint { sw with lane := l, index := 0 } true).tables[k]
        = if l = k then (s.margin.recordPoint p sw v).tables[k].rebuild sw.plan sw.pass
          else (s.margin.recordPoint p sw v).tables[k] := Margin.rebuild_table ..
    refine ⟨rfl, Margin.beginSweepPoint_standsAt .., ?_, fun k hk => ?_, rfl⟩
    · rw [htable, if_pos rfl]
      exact PointTable.rebuild_rebuiltFor ..
    · rw [htable, if_neg (Ne.symm hk)]
      rfl
  · have hnext := Plan.next_none hdone hlast
    dsimp only
    rw [Margin.afterPoint_none hnext, hnext]
    refine ⟨rfl, fun hcont => ?_, fun l hcont hl => ?_⟩
    · rw [hcont]
      exact ⟨rfl, rfl, rfl, rfl⟩
    · rw [hcont]
      obtain ⟨hpass, hstands, htable, hothers⟩ := Margin.passBegun hl (s.margin.recordPoint p sw v)
      exact ⟨hpass, hstands, htable, hothers⟩

end Sys2Proof.Machine

/-! Requests about the gates (O37, O38, O40), and the notices that a line still announces after others were queued. -/

namespace Sys2Proof.Machine

/-! ### Notices that wait or are being sent (R163, R164) -/

section
variable {P : Notice → Prop} {c d : ControlLine} {n : Notice}

theorem ControlLine.Queued.enabled (h : c.Queued P d) : d.enabled = c.enabled := by rw [h.eq]

theorem ControlLine.announces_queueNotice_self (h : c.enabled.getLsbD n.kind.bit = true) : (c.queueNotice n).Announces n := by
  refine .inl ?_
  unfold ControlLine.queueNotice
  rw [if_pos h]
  exact self_mem_outboxPut n c.outbox

theorem mem_outboxPut_of_mem {m : Notice} {ob : List Notice} (hn : n ∈ ob) (hne : n.sameKey m = false) :
    n ∈ outboxPut m ob := by
  induction ob with
  | nil => cases hn
  | cons a t ih =>
    rw [outboxPut]
    split
    · next hk =>
      rcases List.mem_cons.1 hn with rfl | hn
      · exact absurd hk (by rw [hne]; exact Bool.false_ne_true)
      · exact List.mem_cons_of_mem _ hn
    · rcases List.mem_cons.1 hn with rfl | hn
      · exact List.mem_cons_self ..
      · exact List.mem_cons_of_mem _ (ih hn)

theorem ControlLine.Announces.queueNotice {m : Notice} (h : c.Announces n) (hne : n.sameKey m = false) :
    (c.queueNotice m).Announces n := by
  refine h.imp_left fun hn => ?_
  unfold ControlLine.queueNotice
  dsimp only
  split
  · exact mem_outboxPut_of_mem hn hne
  · exact hn

/-- A notice goes on being announced when notices of other kinds or lanes are queued. -/
theorem ControlLine.Queued.announces (h : c.Queued P d) (hne : ∀ m, P m → n.sameKey m = false) (hn : c.Announces n) :
    d.Announces n :=
  h.keeps (R := fun c => c.Announces n) (fun _ m hm hc => hc.queueNotice (hne m hm)) hn

/-- What the line announces after notices were queued it announced before, or it is one of them. -/
theorem ControlLine.Queued.announces_before (h : c.Queued P d) (hn : d.Announces n) (hne : ¬P n) : c.Announces n := by
  obtain ⟨ns, hns, rfl⟩ := h
  induction ns generalizing c with
  | nil => exact hn
  | cons m ns ih =>
    refine (ih (fun k hk => hns k (List.mem_cons_of_mem _ hk)) hn).imp_left fun hmem => ?_
    dsimp only [ControlLine.queueNotice] at hmem
    split at hmem
    · exact (mem_outboxPut hmem).resolve_left fun h => hne (h ▸ hns m (List.mem_cons_self ..))
    · exact hmem

/-- A frame that begins keeps announced what was. -/
theorem ControlLine.Announces.pump (h : c.Announces n) : c.pump.Announces n := by
  obtain ⟨hp, -⟩ | ⟨hfree, -, hp⟩ | ⟨hfree, -, -, m, rest, hout, hp⟩ := c.pump_cases
  · rwa [hp]
  · rw [hp]
    exact .inl (h.resolve_right fun ⟨k, hk⟩ => by rw [hfree] at hk; cases hk)
  · have hmem : n ∈ m :: rest := hout ▸ h.resolve_right fun ⟨k, hk⟩ => by rw [hfree] at hk; cases hk
    rw [hp]
    rcases List.mem_cons.1 hmem with rfl | hmem
    · exact .inr ⟨_, rfl⟩
    · exact .inl hmem

theorem ControlLine.pump_announces_iff (h : c.pump.Announces n) : c.Announces n := by
  obtain ⟨hp, -⟩ | ⟨hfree, -, hp⟩ | ⟨hfree, -, -, m, rest, hout, hp⟩ := c.pump_cases
  · rwa [hp] at h
  · rw [hp] at h
    exact .inl (h.resolve_right fun ⟨k, hk⟩ => by cases hk)
  · rw [hp] at h
    left
    rw [hout]
    rcases h with h | ⟨k, hk⟩
    · exact List.mem_cons_of_mem _ h
    · cases hk
      exact List.mem_cons_self ..

theorem ControlLine.pump_replies (c : ControlLine) : c.pump.replies = c.replies := by
  obtain ⟨hp, -⟩ | ⟨-, -, hp⟩ | ⟨-, -, -, m, rest, -, hp⟩ := c.pump_cases <;> rw [hp]

theorem ControlLine.pump_enabled (c : ControlLine) : c.pump.enabled = c.enabled := by
  obtain ⟨hp, -⟩ | ⟨-, -, hp⟩ | ⟨-, -, -, m, rest, -, hp⟩ := c.pump_cases <;> rw [hp]

end

theorem not_sameKey_of_kind {m n : Notice} (h : m.kind ≠ n.kind) : m.sameKey n = false :=
  Bool.eq_false_iff.2 fun h' => h ((Notice.sameKey_iff m n).1 h').1

/-- An event about other lanes leaves a GATE notice announced. -/
theorem gate_sameKey_of_noticeOf {L : Lane → Prop} {l : Lane} {r : EndReason} (hl : ¬L l) {m : Notice}
    (hm : noticeOf L m) : (Notice.gate l r).sameKey m = false := by
  refine Bool.eq_false_iff.2 fun h => ?_
  obtain ⟨hkind, hlane⟩ := (Notice.sameKey_iff _ _).1 h
  rcases hm l hlane.symm with h | h
  · exact hl h
  · rw [h] at hkind
    cases hkind

/-! ### Requests that may be broadcast (R161) -/

/-- A request of a broadcast kind that the line takes, its length right: the act, and its answer where it is due. -/
theorem exec_either {i : Instr} {code : BitVec 6} {bcast : Bool} {tag : Byte} {body : List Byte} {s t : State}
    {st : Status} {f : ReplyFields} (hi : requestOf i = some (code, { broadcast := bcast, tag := tag, body := body }))
    (hk : isKnownKind code = true) (hb : broadcastKind code = true)
    (ht : s.line.Takes (requestFor code { broadcast := bcast, tag := tag, body := body }))
    (hlen : bodyLengthOk code body.length = true)
    (hact : actOf code body s.popRequest = (t, { status := st, fields := f })) :
    exec i s = .next (if bcast then t.pump else t.replied code tag st f) := by
  cases bcast with
  | false => exact exec_own hi hk ht hlen hact
  | true =>
    rw [exec_request hi hk]
    exact congrArg Host.Outcome.next ((State.serve_broadcast ht hb hlen (actOf code)).trans (by rw [hact]; rfl))

/-! ### GATE_START (R89 to R91) -/

theorem StartMode.ofCode_code (m : StartMode) : StartMode.ofCode (natOf (bytesOf 1 m.code)) = some m := by cases m <;> rfl

theorem LockPolicy.ofCode_code (p : LockPolicy) : LockPolicy.ofCode (natOf (bytesOf 1 p.code)) = some p := by
  cases p <;> rfl

theorem Level.ofCode_code (l : Level) : Level.ofCode (natOf (bytesOf 1 l.code)) = some l := by cases l <;> rfl

theorem Figure.isZero_iff (f : Figure) : f.isZero = true ↔ f = .zero := by
  cases f
  simp [Figure.isZero, Figure.zero, and_assoc]

/-- Every field of GATE_START's values fits its size. -/
def GateArgs.FitsBytes (a : GateArgs) : Prop :=
  a.duration < 2 ^ 32 ∧ a.bitLimit < 2 ^ 64 ∧ a.errorLimit < 2 ^ 64 ∧ a.armTimeout < 2 ^ 16 ∧
    a.target.mantissa < 2 ^ 16 ∧ -128 ≤ a.target.exponent ∧ a.target.exponent ≤ 127

/-- GATE_START's values as applied (R90). -/
def GateArgs.applied (a : GateArgs) : GateArgs :=
  { a with bitLimit := appliedBitLimit a.bitLimit, errorLimit := appliedErrorLimit a.errorLimit }

theorem gateArgsOf_gateStartBody {a : GateArgs} (b : LaneSet) (h : a.FitsBytes) :
    gateArgsOf (gateStartBody b a) = if a.target.isZero || a.target.valid then some a.applied else none := by
  obtain ⟨hdur, hbits, herrs, harm, hmant, hexp, hexp'⟩ := h
  have hmode : StartMode.ofCode (field (gateStartBody b a) 1 1) = some a.mode := StartMode.ofCode_code a.mode
  have hpolicy : LockPolicy.ofCode (field (gateStartBody b a) 2 1) = some a.policy := LockPolicy.ofCode_code a.policy
  have hlevel : Level.ofCode (field (gateStartBody b a) 27 1) = some a.level := Level.ofCode_code a.level
  have hdur' : field (gateStartBody b a) 3 4 = a.duration := natOf_bytesOf_of_lt (k := 4) hdur
  have hbits' : field (gateStartBody b a) 7 8 = a.bitLimit := natOf_bytesOf_of_lt (k := 8) hbits
  have herrs' : field (gateStartBody b a) 15 8 = a.errorLimit := natOf_bytesOf_of_lt (k := 8) herrs
  have harm' : field (gateStartBody b a) 28 2 = a.armTimeout := natOf_bytesOf_of_lt (k := 2) harm
  have hmant' : field (gateStartBody b a) 23 2 = a.target.mantissa := natOf_bytesOf_of_lt (k := 2) hmant
  have hexp'' : signedAt (gateStartBody b a) 25 = a.target.exponent := toInt_ofInt_signedByte hexp hexp'
  have hflag (u : Bool) : (if u then 1 else 0 : Byte).getLsbD 0 = u := by cases u <;> rfl
  have hundef : (byteAt (gateStartBody b a) 26).getLsbD 0 = a.target.undef := hflag _
  have htarget : figureAt (gateStartBody b a) 23 = a.target := by rw [figureAt, hmant', hexp'', hundef]
  simp only [gateArgsOf, hmode, hpolicy, hlevel, hdur', hbits', herrs', harm', htarget]
  rfl

theorem GateArgs.applied_eq_iff (a : GateArgs) :
    a.applied = a ↔ a.applied.bitLimit = a.bitLimit ∧ a.applied.errorLimit = a.errorLimit := by
  refine ⟨fun h => ⟨congrArg _ h, congrArg _ h⟩, fun ⟨hb, he⟩ => ?_⟩
  have heq : a.applied = { a with bitLimit := a.applied.bitLimit, errorLimit := a.applied.errorLimit } := rfl
  rw [heq, hb, he]

/-- What GATE_START answers when its gates start. -/
def State.gateStartAnswer (s : State) (b : LaneSet) (a : GateArgs) : Answer :=
  { status := if a.applied = a then .ok else .adjusted
    fields := .gateStart a.applied ((lanesOf b).map fun l =>
      { lane := l, state := firstGateState a.mode (s.lane l).chkState, startStamp := s.uptime }) }

theorem gateStartAct_of {s : State} {b : LaneSet} {a : GateArgs} (hb : s.MayName b) (ha : a.FitsBytes) :
    gateStartAct (gateStartBody b a) s =
      if (a.target.isZero || a.target.valid) = false then (s, refuse .badArg)
      else if (lanesOf b).any fun l => (s.lane l).gate.state.active then (s, refuse .gateBusy)
      else if (lanesOf b).any fun l => (s.lane l).chkState == .off then (s, refuse .laneOff)
      else ((lanesOf b).foldl (fun s l => s.startGate a.applied l) s, s.gateStartAnswer b a) := by
  obtain ⟨-, hbits, herrs, -⟩ := id ha
  have hlanes : byteAt (gateStartBody b a) 0 = b := rfl
  have hbits' : field (gateStartBody b a) 7 8 = a.bitLimit := natOf_bytesOf_of_lt (k := 8) hbits
  have herrs' : field (gateStartBody b a) 15 8 = a.errorLimit := natOf_bytesOf_of_lt (k := 8) herrs
  have hstatus : okOr (a.applied.bitLimit != a.bitLimit || a.applied.errorLimit != a.errorLimit) =
      if a.applied = a then Status.ok else .adjusted := by
    unfold okOr
    by_cases h : a.applied = a
    · obtain ⟨hb, he⟩ := a.applied_eq_iff.1 h
      rw [if_pos h, hb, he]
      simp
    · rw [if_neg h, if_pos]
      rw [a.applied_eq_iff, not_and_or] at h
      simpa using h
  unfold gateStartAct
  rw [gateArgsOf_gateStartBody b ha, hlanes, hbits', herrs']
  refine (if_neg (Bool.eq_false_iff.1 hb.namesAbsent)).trans ((if_neg hb.1).trans ?_)
  cases a.target.isZero || a.target.valid with
  | false => rfl
  | true =>
    simp only [if_true]
    rw [hstatus]
    rfl

/-- Starting gates changes lanes and capture log alone. -/
theorem startGates_eq (args : GateArgs) (ls : List Lane) (s : State) :
    ls.foldl (fun s l => s.startGate args l) s =
      { s with
        lanes := (ls.foldl (fun s l => s.startGate args l) s).lanes
        log := (ls.foldl (fun s l => s.startGate args l) s).log } := by
  induction ls generalizing s with
  | nil => rfl
  | cons l ls ih => exact ih (s.startGate args l)

/-- Starting gates sets their quota counts to 0 and changes nothing else of the capture log. -/
theorem startGates_log (args : GateArgs) (ls : List Lane) (s : State) :
    (ls.foldl (fun s l => s.startGate args l) s).log =
      (ls.foldl (fun s l => s.modCapture l fun c => { c with quotaCount := 0 }) s).log := by
  suffices h : ∀ s t : State, s.log = t.log → (ls.foldl (fun s l => s.startGate args l) s).log =
      (ls.foldl (fun s l => s.modCapture l fun c => { c with quotaCount := 0 }) t).log from h s s rfl
  induction ls with
  | nil => exact fun _ _ h => h
  | cons l ls ih => exact fun s t h => ih _ _ (by simp only [State.startGate, State.modCapture, State.modLane_log, h])

/-- Settles O37. -/
theorem gateStartStarts : Obligations.GateStartStarts := by
  intro s bcast tag b a hdur hbits herrs harm hmant hexp hexp' hb ht
  have hfits : a.FitsBytes := ⟨hdur, hbits, herrs, harm, hmant, hexp, hexp'⟩
  have hact := gateStartAct_of (s := s.popRequest) hb hfits
  have hany {p : Lane → Bool} (h : ∃ l : Lane, b.getLsbD l.val = true ∧ p l = true) : (lanesOf b).any p = true :=
    List.any_eq_true.2 (h.imp fun l hl => ⟨(mem_lanesOf b l).2 hl.1, hl.2⟩)
  have hnone {p : Lane → Bool} (h : ∀ l : Lane, b.getLsbD l.val = true → ¬p l = true) : ¬(lanesOf b).any p = true :=
    fun hp => by
      obtain ⟨l, hl, hpl⟩ := List.any_eq_true.1 hp
      exact h l ((mem_lanesOf b l).1 hl) hpl
  refine ⟨fun hzero hvalid => ?_, fun htarget => ?_⟩
  · rw [if_pos (by rw [hvalid, Bool.or_false]; exact Bool.eq_false_iff.2 fun h => hzero ((Figure.isZero_iff _).1 h))] at hact
    exact exec_either rfl rfl rfl ht rfl hact
  · have hgood : ¬(a.target.isZero || a.target.valid) = false := by
      rw [Bool.not_eq_false, Bool.or_eq_true, Figure.isZero_iff]
      exact htarget
    rw [if_neg hgood] at hact
    refine ⟨fun hbusy => ?_, fun hidle hoff => ?_, fun hready => ?_⟩
    · exact exec_either rfl rfl rfl ht rfl (hact.trans (if_pos (hany hbusy)))
    · have hidle' := hnone (p := fun l => (s.lane l).gate.state.active) fun l hl => by
        rw [hidle l hl]
        exact Bool.false_ne_true
      have hany' := hany (p := fun l => (s.lane l).chkState == .off) (hoff.imp fun l hl => ⟨hl.1, beq_iff_eq.2 hl.2⟩)
      exact exec_either rfl rfl rfl ht rfl ((hact.trans (if_neg hidle')).trans (if_pos hany'))
    · have hidle := hnone (p := fun l => (s.lane l).gate.state.active) fun l hl => by
        rw [(hready l hl).1]
        exact Bool.false_ne_true
      have hon := hnone (p := fun l => (s.lane l).chkState == .off) fun l hl h =>
        (hready l hl).2 (beq_iff_eq.1 h)
      replace hact := (hact.trans (if_neg hidle)).trans (if_neg hon)
      have hlane := startGates_lane a.applied (lanesOf b) (nodup_lanesOf b) s.popRequest
      have hlog := startGates_log a.applied (lanesOf b) s.popRequest
      have hcapture := foldl_modCapture_lane (fun c => { c with quotaCount := 0 }) (nodup_lanesOf b) s.popRequest
      have hrest := startGates_eq a.applied (lanesOf b) s.popRequest
      generalize (lanesOf b).foldl (fun s l => s.startGate a.applied l) s.popRequest = t at hact hlane hlog hrest
      refine ⟨t, a.applied, _, exec_either rfl rfl rfl ht rfl hact, hrest, rfl, ?_, ?_, fun l => ⟨fun hl => ?_, fun hl => ?_⟩⟩
      · refine List.map_congr_left fun l hl => ?_
        rw [hlane, if_pos hl]
        rfl
      · rw [hlog, foldl_modCapture_eq]
        rfl
      · have hnot : l ∉ lanesOf b := fun h => Bool.false_ne_true (hl.symm.trans ((mem_lanesOf b l).1 h))
        rw [hlane, if_neg hnot, hlog, hcapture, if_neg hnot]
        exact ⟨rfl, rfl⟩
      · have hin : l ∈ lanesOf b := (mem_lanesOf b l).2 hl
        rw [hlane, if_pos hin, hlog, hcapture, if_pos hin]
        refine ⟨rfl, firstGateState a.mode (s.lane l).chkState, fun h => ?_, fun h => ?_, rfl⟩
        · rw [h]
          cases (s.lane l).chkState <;> rfl
        · rw [h]
          cases (s.lane l).chkState <;> rfl

end Sys2Proof.Machine

/-! The end of a gate, its timer, and the requests that stop, read and combine gates (O38 to O40). -/

namespace Sys2Proof.Machine

/-! ### The end of a gate (R67, R69, R103, R104) -/

/-- The bins that a gate's end leaves: those before, and the open burst's (R67). -/
theorem LaneState.closeBurst_bins_sum (x : LaneState) :
    x.closeBurst.gate.counters.bins.sum = x.gate.counters.bins.sum + x.acct.tracker.openCount := by
  unfold LaneState.closeBurst Tracker.openCount
  cases x.acct.tracker with
  | closed => rfl
  | opened k run => exact sum_addBin ..

theorem LaneState.closeBurst_bins_closed {x : LaneState} (h : x.acct.tracker = .closed) :
    x.closeBurst.gate.counters.bins = x.gate.counters.bins := by
  simp only [LaneState.closeBurst, h]

theorem LaneState.closeBurst_bins_opened {x : LaneState} {k run : Nat} (h : x.acct.tracker = .opened k run) (b : Fin 12) :
    x.closeBurst.gate.counters.bins[b] = x.gate.counters.bins[b] + if binTakes b k then 1 else 0 := by
  simp only [LaneState.closeBurst, h, getElem_addBin, binTakes_iff]

/-- A marked interval is counted at a gate's end, below the maximum (R69). -/
theorem LaneState.settleInterval_errIntervals {x : LaneState} (h : x.gate.counters.errIntervals < 2 ^ 32 - 1) :
    x.settleInterval.gate.counters.errIntervals = x.gate.counters.errIntervals + if x.acct.mark then 1 else 0 := by
  have hlt : x.gate.counters.errIntervals < Config.max32 := h
  simp only [LaneState.settleInterval, hlt, if_true]
  cases x.acct.mark <;> rfl

theorem LaneState.record_patternChanged (l : Lane) (r : EndReason) (now : Nat) (x : LaneState) :
    (x.record l r now).patternChanged = true ↔ x.gate.startPattern ≠ some x.chk.config.pattern := bne_iff_ne

theorem Gate.config_of {g : Gate} {cfg : GateSettings} (h : g.settings = some cfg) : g.config = cfg := by
  rw [Gate.config, h]
  rfl

/-! ### GATE_STOP (R102) -/

theorem stopGates_frame (ls : List Lane) (s : State) :
    SameBase s (ls.foldl (fun s l => s.stopGate l) s) ∧ (ls.foldl (fun s l => s.stopGate l) s).history = s.history ∧
      (ls.foldl (fun s l => s.stopGate l) s).margin = s.margin ∧ (ls.foldl (fun s l => s.stopGate l) s).log = s.log := by
  refine foldl_keeps (fun s t : State => SameBase s t ∧ t.history = s.history ∧ t.margin = s.margin ∧ t.log = s.log)
    (fun s => ⟨.refl s, rfl, rfl, rfl⟩) (fun _ _ _ h h' => ?_) (fun s l => s.stopGate l) (fun s l => ?_) ls s
  · obtain ⟨hbase, hhist, hmargin, hlog⟩ := h
    obtain ⟨hbase', hhist', hmargin', hlog'⟩ := h'
    exact ⟨hbase.trans hbase', hhist'.trans hhist, hmargin'.trans hmargin, hlog'.trans hlog⟩
  · refine ⟨sameBase_stopGate l s, ?_⟩
    unfold State.stopGate
    split <;> exact ⟨rfl, rfl, rfl⟩

theorem touches_stopGates {F : Lane → HistoryFlag → Prop} (ls : List Lane) (s : State) :
    Touches (· ∈ ls) F s (ls.foldl (fun s l => s.stopGate l) s) :=
  Touches.foldl _ _ (fun s _ hl => touches_stopGate s hl) s

/-- The GATE notice of each gate that is stopped is announced. -/
theorem stopGates_announces {ls : List Lane} (hls : ls.Nodup) {l : Lane} (hl : l ∈ ls) {s : State}
    (hactive : (s.lane l).gate.state.active = true) (hon : s.line.enabled.getLsbD 1 = true) :
    (ls.foldl (fun s l => s.stopGate l) s).line.Announces (.gate l .stopped) := by
  obtain ⟨before, after, rfl⟩ := List.append_of_mem hl
  obtain ⟨hbefore, hafter, hdisjoint⟩ := List.nodup_append.1 hls
  rw [List.foldl_append, List.foldl_cons]
  have hlane := stopGates_lane before hbefore s l
  rw [if_neg fun h => hdisjoint l h l (List.mem_cons_self ..) rfl] at hlane
  have hline := (touches_stopGates (F := fun _ _ => False) before s).queued.enabled
  generalize before.foldl (fun s l => s.stopGate l) s = u at hlane hline
  have hstop : u.stopGate l = u.endGate l .stopped := if_pos (by rw [hlane]; exact hactive)
  refine (touches_stopGates (F := fun _ _ => False) after _).queued.announces
    (fun m hm => gate_sameKey_of_noticeOf (List.nodup_cons.1 hafter).1 hm) ?_
  rw [hstop]
  exact ControlLine.announces_queueNotice_self (c := u.line) (n := .gate l .stopped) (by rw [hline]; exact hon)

theorem gateStopAct_of {s : State} {b : LaneSet} (hb : s.MayName b) :
    gateStopAct [b] s = ((lanesOf b).foldl (fun s l => s.stopGate l) s, {
      status := .ok
      fields := .gateStop (s.namedWhere b fun x => x.gate.state.active)
        (s.namedWhere b fun x => !x.gate.state.active) }) :=
  (if_neg (Bool.eq_false_iff.1 hb.namesAbsent)).trans (if_neg hb.1)

/-- Settles O38. -/
theorem gateStopEndsGates : Obligations.GateStopEndsGates := by
  intro s bcast tag b hb ht
  have hact := gateStopAct_of (s := s.popRequest) hb
  have hlane := stopGates_lane (lanesOf b) (nodup_lanesOf b) s.popRequest
  have hframe := stopGates_frame (lanesOf b) s.popRequest
  have hqueued := (touches_stopGates (F := fun _ _ => False) (lanesOf b) s.popRequest).queued
  have hannounces (l : Lane) (hl : l ∈ lanesOf b) := stopGates_announces (s := s.popRequest) (nodup_lanesOf b) hl
  generalize (lanesOf b).foldl (fun s l => s.stopGate l) s.popRequest = u at hact hlane hframe hqueued hannounces
  obtain ⟨hbase, hhist, hmargin, hlog⟩ := hframe
  obtain ⟨t, hexec, ht⟩ : ∃ t, exec (.gateStop { broadcast := bcast, tag := tag, body := [b] }) s = .next t ∧
      t = if bcast then u.pump else u.replied 0x21 tag .ok (.gateStop (s.namedWhere b fun x => x.gate.state.active)
        (s.namedWhere b fun x => !x.gate.state.active)) :=
    ⟨_, exec_either rfl rfl rfl ht rfl hact, rfl⟩
  refine ⟨t, s.namedWhere b fun x => x.gate.state.active, s.namedWhere b fun x => !x.gate.state.active,
    hexec, ?_, ?_, ?_, ?_, ?_, fun l => ?_⟩
  · cases bcast with
    | false => exact ht ▸ ((sameBase_popRequest s).trans hbase).trans (sameBase_replied ..)
    | true => exact ht ▸ ((sameBase_popRequest s).trans hbase).trans (sameBase_pump _)
  · cases bcast <;> exact ht ▸ hhist
  · cases bcast <;> exact ht ▸ hmargin
  · cases bcast <;> exact ht ▸ hlog
  · rw [ht]
    cases bcast with
    | false => exact (ControlLine.pump_replies _).trans (by rw [State.queueReply_replies, hqueued.replies]; rfl)
    | true => exact (ControlLine.pump_replies _).trans (by rw [hqueued.replies]; exact (List.append_nil _).symm)
  · have hstopped : t.lane l =
        if b.getLsbD l.val = true then (s.lane l).endIfActive l .stopped s.uptime else s.lane l := by
      have htu : t.lane l = u.lane l := by
        rw [ht]
        cases bcast <;> rfl
      rw [htu, hlane]
      simp only [mem_lanesOf]
      rfl
    rw [State.getLsbD_namedWhere, State.getLsbD_namedWhere, Bool.and_eq_true, Bool.and_eq_true, Bool.not_eq_true']
    refine ⟨.rfl, .rfl, fun h => ?_, fun ⟨hl, hactive⟩ => ?_⟩
    · rw [hstopped]
      split
      · next hl =>
        rw [hl, Bool.true_and] at h
        exact if_neg (Bool.eq_false_iff.1 h)
      · rfl
    · have hend : t.lane l = (s.lane l).finishGate l .stopped s.uptime :=
        (hstopped.trans (if_pos hl)).trans (if_pos hactive)
      rw [hend]
      refine ⟨fun hon => ?_, (s.lane l).closeBurst.gate.counters.bins,
        (s.lane l).closeBurst.settleInterval.record l .stopped s.uptime, LaneState.closeBurst_bins_sum _,
        fun k run h => LaneState.closeBurst_bins_opened h, LaneState.closeBurst_bins_closed, rfl,
        LaneState.settleInterval_errIntervals (x := (s.lane l).closeBurst), rfl, rfl, rfl, rfl, fun n h => ?_, rfl, rfl,
        fun cfg h => ?_, rfl, rfl, LaneState.record_patternChanged .., rfl⟩
      · have hu := hannounces l ((mem_lanesOf b l).2 hl) hactive hon
        rw [ht]
        cases bcast with
        | false => exact ControlLine.Announces.pump (c := (u.queueReply _).line) hu
        | true => exact hu.pump
      · exact congrArg (fun o : Option Nat => o.getD 0) h
      · have hcfg : (s.lane l).closeBurst.settleInterval.gate.config = cfg := Gate.config_of h
        exact ⟨hcfg, congrArg (fun c : GateSettings => boundFigure _ _ c.level) hcfg⟩

/-! ### The gate timer (R93 to R95, R99, R100) -/

theorem exec_gateTimerExpiry (l : Lane) (s : State) : exec (.gateTimerExpiry l) s = .next (s.gateExpiry l).pump := rfl

theorem State.saturateGate_flagSet (l : Lane) (s : State) : (s.saturateGate l).flagSet l .saturated = true := by
  have h := State.setFlag_flagSet l l .saturated .saturated s
  rw [decide_eq_true ⟨rfl, rfl⟩, Bool.or_true] at h
  exact h

section
variable {x : LaneState} {cfg : GateSettings}

theorem LaneState.tickRunning_counts (x : LaneState) :
    x.tickRunning.gate.counts = { x.gate.counts with
      elapsed := x.gate.counts.elapsed + 1
      unlocked := x.gate.counts.unlocked + if x.chkState = .locked then 0 else 1 } := by
  have hadd (n : Nat) : (if x.chkState = .locked then n else n + 1) = n + if x.chkState = .locked then 0 else 1 := by
    split <;> rfl
  rw [← hadd]
  unfold LaneState.tickRunning
  dsimp only
  split <;> rfl

theorem LaneState.tickRunning_settings (x : LaneState) : x.tickRunning.gate.settings = x.gate.settings := by
  unfold LaneState.tickRunning
  dsimp only
  split <;> rfl

theorem LaneState.tickRunning_tracker (x : LaneState) : x.tickRunning.acct.tracker = x.acct.tracker := by
  unfold LaneState.tickRunning
  dsimp only
  split <;> rfl

theorem LaneState.tickRunning_bits (x : LaneState) : x.tickRunning.gate.counters.bits = x.gate.counters.bits := by
  unfold LaneState.tickRunning
  dsimp only
  split <;> rfl

theorem LaneState.tickRunning_errors (x : LaneState) : x.tickRunning.gate.counters.errors = x.gate.counters.errors := by
  unfold LaneState.tickRunning
  dsimp only
  split <;> rfl

/-- An unmarked interval that is due is counted clean (R68). -/
theorem LaneState.tickRunning_cleanIntervals (h : x.gate.settings = some cfg) :
    x.tickRunning.gate.counters.cleanIntervals = x.gate.counters.cleanIntervals +
      if (x.gate.counts.elapsed + 1) % cfg.interval = 0 ∧ x.acct.mark = false then 1 else 0 := by
  unfold LaneState.tickRunning
  dsimp only
  rw [Gate.config_of h]
  by_cases hdue : (x.gate.counts.elapsed + 1) % cfg.interval = 0
  · simp only [hdue, if_true, true_and, LaneState.closeInterval]
    cases x.acct.mark <;> rfl
  · simp only [hdue, if_false, false_and]
    rfl

/-- A marked interval that is due is counted errored, and its mark clears (R68). -/
theorem LaneState.tickRunning_due (h : x.gate.settings = some cfg)
    (hdue : (x.gate.counts.elapsed + 1) % cfg.interval = 0) :
    x.tickRunning.gate.counters.errIntervals = x.gate.counters.errIntervals + (if x.acct.mark then 1 else 0) ∧
      x.tickRunning.acct.mark = false := by
  unfold LaneState.tickRunning
  dsimp only
  rw [Gate.config_of h, if_pos hdue]
  refine ⟨?_, rfl⟩
  simp only [LaneState.closeInterval]
  cases x.acct.mark <;> rfl

/-- A gate's end counts no interval that is not marked (R69). -/
theorem LaneState.finishGate_errIntervals (l : Lane) (r : EndReason) (now : Nat) (h : x.acct.mark = false) :
    (x.finishGate l r now).gate.counters.errIntervals = x.gate.counters.errIntervals := by
  simp only [LaneState.finishGate, LaneState.settleInterval, LaneState.closeBurst, h]
  rfl

theorem LaneState.confidentNow_of (h : x.gate.settings = some cfg) :
    x.confidentNow = (!cfg.target.isZero &&
      confident x.gate.counters.errors x.gate.counters.bits cfg.level cfg.target) := by
  rw [LaneState.confidentNow, Gate.config_of h]

theorem LaneState.timeUp_iff (h : x.gate.settings = some cfg) :
    x.timeUp = true ↔ cfg.duration ≠ 0 ∧ x.gate.counts.elapsed = cfg.duration := by
  rw [LaneState.timeUp, Gate.config_of h, Bool.and_eq_true, bne_iff_ne, beq_iff_eq]

theorem LaneState.gateExpiry_armed (l : Lane) (now : Nat) (h : x.gate.state = .armed) (hcfg : x.gate.settings = some cfg) :
    x.gateExpiry l now =
      if cfg.armTimeout ≠ 0 ∧ cfg.armTimeout ≤ x.gate.tickArm.counts.armWait then
        LaneState.finishGate l .armTimeout now { x with gate := x.gate.tickArm }
      else { x with gate := x.gate.tickArm } := by
  rw [LaneState.gateExpiry, h, Gate.config_of hcfg]

theorem LaneState.gateExpiry_running (l : Lane) (now : Nat) (h : x.gate.state = .running) :
    x.gateExpiry l now =
      if x.gate.counts.elapsed = Config.max32 then x.finishGate l .saturated now
      else if x.tickRunning.confidentNow then x.tickRunning.finishGate l .confident now
      else if x.tickRunning.timeUp then x.tickRunning.finishGate l .time now
      else x.tickRunning := by
  rw [LaneState.gateExpiry, h]

theorem LaneState.gateExpiry_paused (l : Lane) (now : Nat) (h : x.gate.state = .paused) :
    x.gateExpiry l now = if x.gate.counts.paused = Config.max32 then x.finishGate l .saturated now
      else { x with gate := x.gate.tickPaused } := by
  rw [LaneState.gateExpiry, h]

/-- After its tick a RUNNING gate goes on, or the confidence or the duration stop ends it; what the tick counted stays. -/
theorem LaneState.gateExpiry_keepsTick (l : Lane) (now : Nat) (h : x.gate.state = .running)
    (hmax : x.gate.counts.elapsed ≠ Config.max32) :
    (x.gateExpiry l now).gate.counts = x.tickRunning.gate.counts ∧
      (x.gateExpiry l now).gate.counters.bits = x.tickRunning.gate.counters.bits ∧
      (x.gateExpiry l now).gate.counters.errors = x.tickRunning.gate.counters.errors ∧
      (x.gateExpiry l now).gate.counters.cleanIntervals = x.tickRunning.gate.counters.cleanIntervals ∧
      (x.tickRunning.acct.mark = false →
        (x.gateExpiry l now).gate.counters.errIntervals = x.tickRunning.gate.counters.errIntervals ∧
        (x.gateExpiry l now).acct.mark = false) := by
  rw [LaneState.gateExpiry_running l now h, if_neg hmax]
  split_ifs
  · exact ⟨rfl, rfl, rfl, rfl, fun hmark => ⟨LaneState.finishGate_errIntervals _ _ _ hmark, rfl⟩⟩
  · exact ⟨rfl, rfl, rfl, rfl, fun hmark => ⟨LaneState.finishGate_errIntervals _ _ _ hmark, rfl⟩⟩
  · exact ⟨rfl, rfl, rfl, rfl, fun hmark => ⟨rfl, hmark⟩⟩

theorem LaneState.gateExpiry_confident (l : Lane) (now : Nat) (h : x.gate.state = .running)
    (hmax : x.gate.counts.elapsed ≠ Config.max32) (hcfg : x.gate.settings = some cfg) (htarget : cfg.target.isZero = false)
    (hconf : confident x.gate.counters.errors x.gate.counters.bits cfg.level cfg.target = true) :
    x.gateExpiry l now = x.tickRunning.finishGate l .confident now := by
  rw [LaneState.gateExpiry_running l now h, if_neg hmax, if_pos]
  rw [LaneState.confidentNow_of (x.tickRunning_settings.trans hcfg), htarget, x.tickRunning_errors, x.tickRunning_bits, hconf]
  rfl

theorem LaneState.gateExpiry_unsure (l : Lane) (now : Nat) (h : x.gate.state = .running)
    (hmax : x.gate.counts.elapsed ≠ Config.max32) (hcfg : x.gate.settings = some cfg)
    (hunsure : cfg.target.isZero = true ∨
      confident x.gate.counters.errors x.gate.counters.bits cfg.level cfg.target = false) :
    x.gateExpiry l now = if cfg.duration ≠ 0 ∧ x.gate.counts.elapsed + 1 = cfg.duration then
      x.tickRunning.finishGate l .time now else x.tickRunning := by
  have hticked := x.tickRunning_settings.trans hcfg
  have hno : ¬x.tickRunning.confidentNow = true := by
    rw [LaneState.confidentNow_of hticked, x.tickRunning_errors, x.tickRunning_bits]
    rcases hunsure with h | h
    · simp [h]
    · simp [h]
  rw [LaneState.gateExpiry_running l now h, if_neg hmax, if_neg hno]
  simp only [LaneState.timeUp_iff hticked, x.tickRunning_counts]

end

/-- Settles O39. -/
theorem gateTimerExpiry : Obligations.GateTimerExpiry := by
  refine ⟨fun s l h => ?_, fun s l cfg hcfg => ?_⟩
  · rw [exec_gateTimerExpiry]
    rcases h with h | h
    · rw [State.gateExpiry, h]
    · rw [State.gateExpiry, h]
  have hlane (k : Lane) : ((s.gateExpiry l).pump).lane k =
      if l = k then (s.lane k).gateExpiry l s.uptime else s.lane k := State.gateExpiry_lane l k s
  have hself := (hlane l).trans (if_pos rfl)
  have hbase : SameBase s (s.gateExpiry l) :=
    (touches_gateExpiry (L := anyLane) (F := anyFlag) s trivial trivial).sameBase
  have hsat (h : s.gateExpiry l = s.saturateGate l) : (s.gateExpiry l).pump.flagSet l .saturated = true := by
    rw [h]
    exact State.saturateGate_flagSet l s
  refine ⟨_, exec_gateTimerExpiry l s, hbase.trans (sameBase_pump _), fun k hk => (hlane k).trans (if_neg (Ne.symm hk)),
    State.gateExpiry_log l s, State.gateExpiry_margin l s, ?_⟩
  rw [hself]
  refine ⟨fun h => ?_, fun h hmax => ?_, fun h hmax => ?_, fun h hmax => ?_, fun h hmax => ?_⟩
  · rw [LaneState.gateExpiry_armed l _ h hcfg]
    by_cases hout : cfg.armTimeout ≠ 0 ∧ cfg.armTimeout ≤ (s.lane l).gate.tickArm.counts.armWait
    · rw [if_pos hout]
      refine ⟨rfl, fun hno => ?_, fun _ _ => ⟨rfl, _, rfl, rfl⟩⟩
      exact (hno.elim hout.1 fun hlt => absurd hout.2 (Nat.not_le.2 hlt)).elim
    · rw [if_neg hout]
      exact ⟨rfl, fun _ => h, fun hpos hle => absurd ⟨Nat.pos_iff_ne_zero.1 hpos, hle⟩ hout⟩
  · rw [(LaneState.gateExpiry_running l _ h).trans (if_pos hmax)]
    refine ⟨rfl, rfl, hsat ?_, _, rfl, rfl⟩
    rw [State.gateExpiry, h]
    exact if_pos hmax
  · obtain ⟨hcounts, hbits, herrors, hclean, hmark⟩ := LaneState.gateExpiry_keepsTick l s.uptime h hmax
    refine ⟨hcounts.trans (LaneState.tickRunning_counts _), hbits.trans (LaneState.tickRunning_bits _),
      herrors.trans (LaneState.tickRunning_errors _), hclean.trans (LaneState.tickRunning_cleanIntervals hcfg),
      fun hdue => ?_, fun htarget hconf => ?_, fun hunsure => ?_⟩
    · obtain ⟨herr, hclear⟩ := LaneState.tickRunning_due hcfg hdue
      obtain ⟨herr', hclear'⟩ := hmark hclear
      exact ⟨herr'.trans herr, hclear'⟩
    · rw [LaneState.gateExpiry_confident l _ h hmax hcfg htarget hconf]
      exact ⟨rfl, _, rfl, rfl⟩
    · rw [LaneState.gateExpiry_unsure l _ h hmax hcfg hunsure]
      refine ⟨fun ⟨hpos, heq⟩ => ?_, fun hno => ?_⟩
      · rw [if_pos ⟨Nat.pos_iff_ne_zero.1 hpos, heq.symm⟩]
        exact ⟨rfl, _, rfl, rfl⟩
      · rw [if_neg fun hyes => hno.elim hyes.1 fun hne => hne hyes.2.symm]
        exact ⟨(LaneState.tickRunning_state _).trans h, LaneState.tickRunning_tracker _⟩
  · exact (LaneState.gateExpiry_paused l _ h).trans (if_neg hmax)
  · rw [(LaneState.gateExpiry_paused l _ h).trans (if_pos hmax)]
    refine ⟨rfl, rfl, hsat ?_, _, rfl, rfl⟩
    rw [State.gateExpiry, h]
    exact if_pos hmax

/-! ### GATE_READ and COMBINE (R105, R106, R120, R121) -/

theorem LaneState.gateRate_of_not_done {x : LaneState} (h : x.gate.state ≠ .done) : x.gateRate = x.rate := by
  unfold LaneState.gateRate
  split
  · next hdone _ => exact absurd hdone h
  · rfl

theorem LaneState.gateRate_of_done {x : LaneState} {r : ResultRecord} (h : x.gate.state = .done)
    (hr : x.gate.result = some r) : x.gateRate = r.rate := by
  rw [LaneState.gateRate, h, hr]

theorem LaneState.snapshot_remaining {x : LaneState} {cfg : GateSettings} (now : Nat) (h : x.gate.settings = some cfg) :
    (x.snapshot now).remaining = if cfg.target.isZero then none else
      some (timeToConfidence x.gate.counters.errors x.gate.counters.bits cfg.level cfg.target x.gateRate) := by
  rw [LaneState.snapshot, Gate.config_of h]

theorem gateReadAct_snapshot {s : State} {l : Lane} (hl : s.Exists l) :
    gateReadAct [BitVec.ofNat 8 l.val, 0] s =
      (s, { status := .ok, fields := .gateSnapshot ((s.lane l).snapshot s.uptime) }) := by
  have hfound : s.existingLane (byteAt [BitVec.ofNat 8 l.val, 0] 0) = some l := State.existingLane_ofNat hl
  have hsource : sourceOf (field [BitVec.ofNat 8 l.val, 0] 1 1) = some false := rfl
  rw [gateReadAct, hfound, hsource]

theorem gateReadAct_result {s : State} {l : Lane} (hl : s.Exists l) :
    gateReadAct [BitVec.ofNat 8 l.val, 1] s =
      (s, ((s.lane l).gate.result.map fun r => { status := .ok, fields := .gateResult r }).getD (refuse .noResult)) := by
  have hfound : s.existingLane (byteAt [BitVec.ofNat 8 l.val, 1] 0) = some l := State.existingLane_ofNat hl
  have hsource : sourceOf (field [BitVec.ofNat 8 l.val, 1] 1 1) = some true := rfl
  rw [gateReadAct, hfound, hsource]
  dsimp only
  cases (s.lane l).gate.result <;> rfl

/-- The sums over a list of lanes, from sums already made. -/
theorem foldl_combineData {data : Lane → Option (Nat × Nat)} (ls : List Lane) (acc : Nat × Nat) :
    ls.foldl (fun acc l => match data l with
      | some (e, n) => (acc.1 + e, acc.2 + n)
      | none => acc) acc =
      (acc.1 + ((ls.filterMap data).map Prod.fst).sum, acc.2 + ((ls.filterMap data).map Prod.snd).sum) := by
  induction ls generalizing acc with
  | nil => rfl
  | cons l ls ih =>
    rw [List.foldl_cons, ih]
    cases hd : data l with
    | none => rw [List.filterMap_cons_none hd]
    | some d =>
      rw [List.filterMap_cons_some hd, List.map_cons, List.map_cons, List.sum_cons, List.sum_cons, ← Nat.add_assoc,
        ← Nat.add_assoc]

theorem State.combineSums_eq (s : State) (b : LaneSet) (src : Bool) :
    s.combineSums b src =
      ((((lanesOf b).filterMap fun l => (s.lane l).combineData src).map Prod.fst).sum,
        (((lanesOf b).filterMap fun l => (s.lane l).combineData src).map Prod.snd).sum) :=
  (foldl_combineData (data := fun l => (s.lane l).combineData src) (lanesOf b) (0, 0)).trans
    (by rw [Nat.zero_add, Nat.zero_add])

theorem sourceOf_sourceCode (b : Bool) : sourceOf (natOf [sourceCode b]) = some b := by cases b <;> rfl

theorem combineAct_of {s : State} {b : LaneSet} (src : Bool) (level : Level) (hb : s.MayName b) :
    combineAct ([b, sourceCode src] ++ bytesOf 1 level.code) s =
      (s, {
        status := if s.namedWhere b (fun x => (x.combineData src).isSome) = 0 then .noResult else .ok
        fields := .combine (s.combineSums b src).1 (s.combineSums b src).2
          (ratioFigure (s.combineSums b src).1 (s.combineSums b src).2)
          (boundFigure (s.combineSums b src).1 (s.combineSums b src).2 level)
          (s.namedWhere b fun x => (x.combineData src).isSome) (s.namedWhere b fun x => (x.combineData src).isNone) }) := by
  have hsource : sourceOf (field ([b, sourceCode src] ++ bytesOf 1 level.code) 1 1) = some src := sourceOf_sourceCode src
  have hlevel : Level.ofCode (field ([b, sourceCode src] ++ bytesOf 1 level.code) 2 1) = some level :=
    Level.ofCode_code level
  unfold combineAct
  rw [hsource, hlevel]
  exact (if_neg (Bool.eq_false_iff.1 hb.namesAbsent)).trans (if_neg hb.1)

/-- Settles O40. -/
theorem gateReadAndCombine : Obligations.GateReadAndCombine := by
  intro s tag
  refine ⟨fun l hl => ⟨fun ht => ?_, fun ht => ?_⟩, fun b src level data hb ht hdata => ?_⟩
  · refine ⟨(s.lane l).snapshot s.uptime, exec_own rfl rfl ht rfl (gateReadAct_snapshot (s := s.popRequest) hl), rfl, rfl,
      rfl, rfl, rfl, rfl, rfl, fun h => ?_, fun k run h => ?_, rfl, fun cfg hcfg => ⟨?_, fun hzero => ?_, fun hzero rate hlive hdone => ?_⟩⟩
    · simp only [LaneState.snapshot, h, and_true]
      rfl
    · simp only [LaneState.snapshot, h, and_true]
      rfl
    · exact congrArg (fun c : GateSettings => boundFigure _ _ c.level) (Gate.config_of hcfg)
    · rw [LaneState.snapshot_remaining _ hcfg, hzero]
      rfl
    · have hrate : (s.lane l).gateRate = rate := by
        by_cases hd : (s.lane l).gate.state = .done
        · obtain ⟨r, hr, hrr⟩ := hdone hd
          rw [LaneState.gateRate_of_done hd hr, hrr]
        · rw [LaneState.gateRate_of_not_done hd, hlive hd]
      rw [LaneState.snapshot_remaining _ hcfg, hzero, hrate]
      rfl
  · have hact := gateReadAct_result (s := s.popRequest) hl
    rw [State.popRequest_lane] at hact
    refine ⟨fun r hr => ?_, fun hr => ?_⟩
    · rw [hr] at hact
      exact exec_own rfl rfl ht rfl hact
    · rw [hr] at hact
      exact exec_own rfl rfl ht rfl hact
  · have hd (l : Lane) : (s.lane l).combineData src = data l := (hdata l).symm
    have hsums := s.combineSums_eq b src
    simp only [hd] at hsums
    refine ⟨(s.combineSums b src).1, (s.combineSums b src).2, s.namedWhere b fun x => (x.combineData src).isSome,
      s.namedWhere b fun x => (x.combineData src).isNone,
      exec_own rfl rfl ht rfl (combineAct_of (s := s.popRequest) src level hb), congrArg Prod.fst hsums,
      congrArg Prod.snd hsums, fun l => ?_⟩
    rw [State.getLsbD_namedWhere, State.getLsbD_namedWhere, Bool.and_eq_true, Bool.and_eq_true, hd, Option.isNone_iff_eq_none]
    exact ⟨.rfl, .rfl⟩

end Sys2Proof.Machine

/-! Transitions of checkers, part by part: what they leave of a lane beside captures missed, which notices they announce,
and what becomes of the candidates they offer. -/

namespace Sys2Proof.Machine

/-! ### Captures missed (R147, R150) -/

/-- The lane may have counted captures missed, which only an active gate does. -/
def LaneState.Missed (x y : LaneState) : Prop :=
  (∃ n, y = { x with gate := { x.gate with counters := { x.gate.counters with missed := n } } }) ∧
    (x.gate.state.active = false → y = x)

theorem LaneState.Missed.refl (x : LaneState) : x.Missed x := ⟨⟨_, rfl⟩, fun _ => rfl⟩

theorem LaneState.Missed.trans {x y z : LaneState} (h : x.Missed y) (h' : y.Missed z) : x.Missed z := by
  obtain ⟨⟨n, hn⟩, hidle⟩ := h
  obtain ⟨⟨m, hm⟩, hidle'⟩ := h'
  refine ⟨⟨m, ?_⟩, fun hx => ?_⟩
  · rw [hm, hn]
  · rw [hidle' (by rw [hidle hx]; exact hx), hidle hx]

theorem LaneState.Missed.sameButMissed {x y : LaneState} (h : x.Missed y) : x.SameButMissed y := h.1

section
variable {x y : LaneState}

theorem LaneState.Missed.chk (h : x.Missed y) : y.chk = x.chk := by obtain ⟨⟨n, rfl⟩, -⟩ := h; rfl

theorem LaneState.Missed.state (h : x.Missed y) : y.gate.state = x.gate.state := by obtain ⟨⟨n, rfl⟩, -⟩ := h; rfl

theorem LaneState.Missed.counts (h : x.Missed y) : y.gate.counts = x.gate.counts := by obtain ⟨⟨n, rfl⟩, -⟩ := h; rfl

theorem LaneState.Missed.result (h : x.Missed y) : y.gate.result = x.gate.result := by obtain ⟨⟨n, rfl⟩, -⟩ := h; rfl

theorem LaneState.Missed.settings (h : x.Missed y) : y.gate.settings = x.gate.settings := by obtain ⟨⟨n, rfl⟩, -⟩ := h; rfl

theorem LaneState.Missed.config (h : x.Missed y) : y.gate.config = x.gate.config := by obtain ⟨⟨n, rfl⟩, -⟩ := h; rfl

theorem LaneState.Missed.path (h : x.Missed y) : y.path = x.path := by obtain ⟨⟨n, rfl⟩, -⟩ := h; rfl

theorem LaneState.Missed.chkState (h : x.Missed y) : y.chkState = x.chkState := by obtain ⟨⟨n, rfl⟩, -⟩ := h; rfl

end

theorem missed_addMissed (x : LaneState) : x.Missed { x with gate := x.gate.addMissed } := by
  unfold Gate.addMissed
  split
  · next h =>
    rw [Bool.and_eq_true] at h
    exact ⟨⟨_, rfl⟩, fun hx => absurd h.1 (by rw [hx]; exact Bool.false_ne_true)⟩
  · exact .refl x

section
variable {L : Lane → Prop} {F : Lane → HistoryFlag → Prop} {s t : State}

theorem Micro.missed (h : Micro L F s t) {k : Lane} (hk : ¬L k) : (s.lane k).Missed (t.lane k) := by
  cases h with
  | lane l f hl =>
    rw [State.modLane_lane_ne (fun h : l = k => hk (h ▸ hl))]
    exact .refl _
  | grant l =>
    rw [State.grantTo_lane]
    split
    · exact missed_addMissed _
    · exact .refl _
  | _ => exact .refl _

/-- Beyond its lanes, an event leaves of each lane everything, but for the captures missed of an active gate. -/
theorem Touches.missed (h : Touches L F s t) {k : Lane} (hk : ¬L k) : (s.lane k).Missed (t.lane k) :=
  h.keeps (R := fun s t => (s.lane k).Missed (t.lane k)) (fun _ => .refl _) (fun _ _ _ => .trans)
    fun _ _ h => h.missed hk

end

theorem missed_grant (k : Lane) (s : State) : (s.lane k).Missed (s.grant.lane k) :=
  (touches_grant (L := fun _ => False) (F := fun _ _ => False) s).missed not_false

theorem missed_writeCompletion (k : Lane) (s : State) : (s.lane k).Missed (s.writeCompletion.lane k) :=
  (touches_writeCompletion (L := fun _ => False) (F := fun _ _ => False) s).missed not_false

theorem missed_offerLock (l k : Lane) (c : Candidate) (s : State) : (s.lane k).Missed ((s.offerLock l c).lane k) := by
  unfold State.offerLock
  split
  · rw [State.missCandidate_lane]
    split
    · exact missed_addMissed _
    · exact .refl _
  · exact .refl _

theorem missed_exitCandidate (m : Move) (k : Lane) (s : State) : (s.lane k).Missed ((s.exitCandidate m).lane k) := by
  unfold State.exitCandidate
  dsimp only
  split
  · exact missed_offerLock ..
  · exact .refl _

theorem missed_entryCandidate (m : Move) (k : Lane) (s : State) : (s.lane k).Missed ((s.entryCandidate m).lane k) := by
  unfold State.entryCandidate
  dsimp only
  split
  · exact (missed_offerLock ..).trans (missed_grant ..)
  · exact .refl _

theorem missed_exits (ms : List Move) (k : Lane) (s : State) :
    (s.lane k).Missed ((ms.foldl (fun s m => s.exitCandidate m) s).grant.lane k) :=
  (foldl_keeps (fun s t : State => (s.lane k).Missed (t.lane k)) (fun _ => .refl _) (fun _ _ _ => .trans)
    (fun s m => s.exitCandidate m) (fun s m => missed_exitCandidate m k s) ms s).trans (missed_grant ..)

/-! ### One transition -/

/-- The state in which one transition meets its gate: the phase entered, its history flag set. -/
def State.entered (s : State) (m : Move) : State :=
  (s.modLane m.lane (LaneState.enter m.phase m.reason)).setReasonFlag m.lane m.reason

/-- The state in which one transition meets entry candidate and margin unit: the gate has met it. -/
def State.gated (s : State) (m : Move) : State :=
  (s.entered m).gateTransition m.lane (s.lane m.lane).chkState m.phase.state m.reason

theorem State.applyMove_eq (s : State) (m : Move) :
    s.applyMove m = (((s.gated m).entryCandidate m).marginTransition m.lane (s.lane m.lane).chkState m.phase.state).queueNotice
      (.lock m.lane m.phase.state m.reason) := rfl

theorem State.entered_lane (s : State) (m : Move) (k : Lane) :
    (s.entered m).lane k = if m.lane = k then (s.lane k).enter m.phase m.reason else s.lane k := by
  rw [State.entered, State.setReasonFlag_lane, State.modLane_lane]

theorem State.gated_lane (s : State) (m : Move) (k : Lane) :
    (s.gated m).lane k = if m.lane = k then (s.lane k).move m s.uptime else s.lane k := by
  have hup : (s.entered m).uptime = s.uptime := State.setReasonFlag_uptime ..
  rw [State.gated, State.gateTransition_lane, State.entered_lane, hup]
  split
  · next h =>
    subst h
    rfl
  · rfl

theorem missed_applyMove (m : Move) (k : Lane) (s : State) :
    (if m.lane = k then (s.lane k).move m s.uptime else s.lane k).Missed ((s.applyMove m).lane k) := by
  rw [State.applyMove_eq, State.queueNotice_lane, State.marginTransition_lane, ← State.gated_lane]
  exact missed_entryCandidate m k _

/-- The entry candidate of a transition that does not enter LOCKED: none. -/
theorem State.entryCandidate_of_ne {m : Move} (h : m.phase.state ≠ .locked) (s : State) : s.entryCandidate m = s :=
  if_neg fun hc => h hc.1

theorem State.applyMove_lane_of_ne {m : Move} (h : m.phase.state ≠ .locked) (k : Lane) (s : State) :
    (s.applyMove m).lane k = if m.lane = k then (s.lane k).move m s.uptime else s.lane k := by
  rw [State.applyMove_eq, State.queueNotice_lane, State.marginTransition_lane, State.entryCandidate_of_ne h,
    State.gated_lane]

theorem State.gated_log (s : State) (m : Move) : (s.gated m).log = s.log := by
  rw [State.gated, State.gateTransition_log, State.entered, State.setReasonFlag_log, State.modLane_log]

theorem State.applyMove_log_of_ne {m : Move} (h : m.phase.state ≠ .locked) (s : State) : (s.applyMove m).log = s.log := by
  rw [State.applyMove_eq, State.queueNotice_log, State.marginTransition_log, State.entryCandidate_of_ne h, State.gated_log]

/-- Moves of other lanes leave a lane, but for captures missed. -/
theorem missed_moves {ms : List Move} {k : Lane} (h : ∀ m ∈ ms, m.lane ≠ k) (s : State) :
    (s.lane k).Missed ((ms.foldl State.applyMove s).lane k) := by
  refine List.foldlRecOn ms State.applyMove (motive := fun t : State => (s.lane k).Missed (t.lane k)) (.refl _)
    fun t ht m hm => ht.trans ?_
  have := missed_applyMove m k t
  rwa [if_neg (h m hm)] at this

theorem touches_moves {L : Lane → Prop} {ms : List Move} (h : ∀ m ∈ ms, L m.lane) (s : State) :
    Touches L anyFlag s (ms.foldl State.applyMove s) :=
  Touches.foldl State.applyMove ms (fun s m hm => (touches_applyMove s m).mono (fun _ hl => hl ▸ h m hm) fun _ _ _ => trivial) s

/-- A transition of distinct lanes, seen from one of its moves: the state before that move, in which the lane stands as
before but for captures missed, and what follows it, which is about other lanes. -/
theorem transition_split {ms : List Move} (hnodup : (ms.map Move.lane).Nodup) {m : Move} (hm : m ∈ ms) (s : State) :
    ∃ u : State, (s.lane m.lane).Missed (u.lane m.lane) ∧ u.uptime = s.uptime ∧ u.line.enabled = s.line.enabled ∧
      Touches (· ≠ m.lane) anyFlag (u.applyMove m) (s.transition ms) := by
  obtain ⟨before, after, rfl⟩ := List.append_of_mem hm
  rw [List.map_append, List.map_cons] at hnodup
  obtain ⟨-, hafter, hdisjoint⟩ := List.nodup_append.1 hnodup
  have hb : ∀ n ∈ before, n.lane ≠ m.lane := fun n hn =>
    hdisjoint _ (List.mem_map_of_mem hn) _ (List.mem_cons_self ..)
  have ha : ∀ n ∈ after, n.lane ≠ m.lane := fun n hn h =>
    (List.nodup_cons.1 hafter).1 (h ▸ List.mem_map_of_mem hn)
  have hexits := missed_exits (before ++ m :: after) m.lane s
  have hup := uptime_exits (before ++ m :: after) s
  have htouch : Touches anyLane anyFlag s ((before ++ m :: after).foldl (fun s m => s.exitCandidate m) s).grant :=
    (Touches.foldl (fun s m => s.exitCandidate m) _ (fun s m _ => touches_exitCandidate s trivial) s).trans
      (touches_grant _)
  unfold State.transition
  rw [List.foldl_append, List.foldl_cons]
  refine ⟨before.foldl State.applyMove _, hexits.trans (missed_moves hb _), ?_, ?_, touches_moves ha _⟩
  · exact ((SameBase.foldl State.applyMove (fun s m => sameBase_applyMove s m) before _).uptime).trans hup
  · exact ((touches_moves (L := anyLane) (fun _ _ => trivial) _).queued.enabled).trans htouch.queued.enabled

/-- In a transition of distinct lanes each lane makes its own move, captures missed aside. -/
theorem missed_transition {ms : List Move} (hnodup : (ms.map Move.lane).Nodup) {m : Move} (hm : m ∈ ms) (s : State) :
    ∃ x, (s.lane m.lane).Missed x ∧ (x.move m s.uptime).Missed ((s.transition ms).lane m.lane) := by
  obtain ⟨u, hu, hup, -, htouch⟩ := transition_split hnodup hm s
  have hmove := missed_applyMove m m.lane u
  rw [if_pos rfl, hup] at hmove
  exact ⟨_, hu, hmove.trans (htouch.missed (k := m.lane) fun h => h rfl)⟩

theorem missed_transition_other {ms : List Move} {k : Lane} (h : ∀ m ∈ ms, m.lane ≠ k) (s : State) :
    (s.lane k).Missed ((s.transition ms).lane k) :=
  (missed_exits ms k s).trans (missed_moves h _)

/-! ### What a move leaves of its lane -/

section
variable {x : LaneState} {m : Move} {now : Nat}

theorem LaneState.onlyGate_move (m : Move) (now : Nat) (x : LaneState) : (x.enter m.phase m.reason).OnlyGate (x.move m now) :=
  LaneState.onlyGate_meetTransition ..

theorem LaneState.move_chk (m : Move) (now : Nat) (x : LaneState) : (x.move m now).chk = { x.chk with phase := m.phase } :=
  congrArg LaneState.chk (LaneState.onlyGate_move m now x)

theorem LaneState.move_path (m : Move) (now : Nat) (x : LaneState) :
    (x.move m now).path = if m.reason.keepsPath then x.path else [] :=
  congrArg LaneState.path (LaneState.onlyGate_move m now x)

theorem LaneState.move_settings (m : Move) (now : Nat) (x : LaneState) :
    (x.move m now).power = x.power ∧ (x.move m now).rate = x.rate ∧ (x.move m now).loopback = x.loopback ∧
      (x.move m now).sd = x.sd ∧ (x.move m now).gen = x.gen := by
  have h : x.move m now = { x.enter m.phase m.reason with acct := (x.move m now).acct, gate := (x.move m now).gate } :=
    LaneState.onlyGate_move m now x
  rw [h]
  exact ⟨rfl, rfl, rfl, rfl, rfl⟩

theorem LaneState.closeOnExit_gate (left : CheckerState) (x : LaneState) :
    (x.closeOnExit left).gate.state = x.gate.state ∧ (x.closeOnExit left).gate.counts = x.gate.counts ∧
      (x.closeOnExit left).gate.result = x.gate.result ∧ (x.closeOnExit left).gate.config = x.gate.config ∧
      (x.closeOnExit left).gate.counters.missed = x.gate.counters.missed := by
  unfold LaneState.closeOnExit
  split <;> exact ⟨rfl, rfl, rfl, rfl, rfl⟩

/-- The reasons of a lock loss (R96). -/
def Reason.loses (r : Reason) : Prop := r = .errors ∨ r = .signal ∨ r = .held

/-- A transition that enters neither LOCKED nor OFF and is no lock loss leaves the gate as it is, or pauses it on HELD. -/
theorem LaneState.move_gate_kept (hlocked : m.phase.state ≠ .locked) (hoff : m.phase.state ≠ .off)
    (hkeep : x.gate.state ≠ .running ∨ (m.phase.state ≠ .held ∧ (x.chkState ≠ .locked ∨ ¬m.reason.loses))) :
    (x.move m now).gate.state = x.gate.state ∧ (x.move m now).gate.counts = x.gate.counts ∧
      (x.move m now).gate.result = x.gate.result := by
  have hclosed : (x.move m now) = (x.enter m.phase m.reason).closeOnExit x.chkState := by
    unfold LaneState.move LaneState.meetTransition
    rw [if_neg hlocked, if_neg hoff]
    rcases hkeep with hno | ⟨hheld, hloss⟩
    · exact if_neg hno
    · have hno : ¬(x.chkState = .locked ∧ (m.reason = .errors ∨ m.reason = .signal ∨ m.reason = .held)) := fun h =>
        hloss.elim (fun hne => hne h.1) fun hne => hne h.2
      rw [if_neg hno, if_neg hheld, ite_self]
  obtain ⟨hstate, hcounts, hresult, -⟩ := LaneState.closeOnExit_gate x.chkState (x.enter m.phase m.reason)
  rw [hclosed]
  exact ⟨hstate, hcounts, hresult⟩

/-- A lock loss reaches a RUNNING gate (R96). -/
theorem LaneState.move_of_loss (hlocked : m.phase.state ≠ .locked) (hoff : m.phase.state ≠ .off)
    (hrun : x.gate.state = .running) (hleft : x.chkState = .locked) (hloss : m.reason.loses) :
    x.move m now = ((x.enter m.phase m.reason).closeOnExit x.chkState).lockLoss m.lane (m.reason = .held) now := by
  have hrun' : (x.enter m.phase m.reason).gate.state = .running := hrun
  unfold LaneState.move LaneState.meetTransition
  rw [if_neg hlocked, if_neg hoff, if_pos hrun', if_pos ⟨hleft, hloss⟩]

/-- A gate pauses with its checker's HOLD from an unlocked state (R97). -/
theorem LaneState.move_of_held (hheld : m.phase.state = .held) (hrun : x.gate.state = .running)
    (hleft : x.chkState ≠ .locked) :
    (x.move m now).gate.state = .paused ∧ (x.move m now).gate.counts = x.gate.counts := by
  have hrun' : (x.enter m.phase m.reason).gate.state = .running := hrun
  have hpause : x.move m now = ((x.enter m.phase m.reason).closeOnExit x.chkState).pauseGate := by
    unfold LaneState.move LaneState.meetTransition
    rw [hheld, if_neg (by decide), if_neg (by decide), if_pos hrun', if_neg (fun h => hleft h.1), if_pos rfl]
  obtain ⟨-, hcounts, -⟩ := LaneState.closeOnExit_gate x.chkState (x.enter m.phase m.reason)
  rw [hpause]
  exact ⟨rfl, hcounts⟩

/-- An active gate ends with the receive power (R101). -/
theorem LaneState.move_of_off (hoff : m.phase.state = .off) (hactive : x.gate.state.active = true) :
    x.move m now = ((x.enter m.phase m.reason).closeOnExit x.chkState).finishGate m.lane .laneOff now := by
  have hactive' : ((x.enter m.phase m.reason).closeOnExit x.chkState).gate.state.active = true := by
    rw [(LaneState.closeOnExit_gate x.chkState (x.enter m.phase m.reason)).1]
    exact hactive
  unfold LaneState.move LaneState.meetTransition
  rw [hoff, if_neg (by decide), if_pos rfl, LaneState.endIfActive, if_pos hactive']

/-- A lock runs an ARMED or PAUSED gate and leaves any other (R94, R97). -/
theorem LaneState.move_of_locked (hlocked : m.phase.state = .locked) :
    (x.move m now).gate = x.gate.onLock := by
  unfold LaneState.move LaneState.meetTransition
  rw [if_pos hlocked]
  rfl

/-- No transition counts captures missed, but through a candidate (R147). -/
theorem LaneState.lockLoss_missed (l : Lane) (held : Bool) (now : Nat) (x : LaneState) :
    (x.lockLoss l held now).gate.counters.missed = x.gate.counters.missed := by
  unfold LaneState.lockLoss
  split
  · rfl
  · split
    · rfl
    · split <;> rfl

end

end Sys2Proof.Machine
/-! What a transition announces, the gates it ends, and the candidates it offers. -/

namespace Sys2Proof.Machine

/-! ### The notices of one transition -/

section
variable {P : Notice → Prop}

theorem queued_setFlag_of (halarm : ∀ k h f, P (.alarm k h f)) (l : Lane) (f : HistoryFlag) (s : State) :
    s.line.Queued P (s.setFlag l f).line := by
  unfold State.setFlag
  dsimp only
  split
  · exact .refl _
  · exact ControlLine.queued_one (halarm _ _ _) _

theorem queued_saturateGate {l : Lane} (halarm : ∀ k h f, P (.alarm k h f)) (hgate : ∀ r, P (.gate l r)) (s : State) :
    s.line.Queued P (s.saturateGate l).line :=
  (queued_setFlag_of halarm l _ s).trans (ControlLine.queued_one (hgate _) _)

theorem queued_lockLoss {l : Lane} (halarm : ∀ k h f, P (.alarm k h f)) (hgate : ∀ r, P (.gate l r)) (held : Bool)
    (s : State) : s.line.Queued P (s.lockLoss l held).line := by
  unfold State.lockLoss
  split
  · exact queued_saturateGate halarm hgate s
  · split
    · exact .refl _
    · split
      · exact .refl _
      · exact .refl _
      · exact ControlLine.queued_one (hgate _) _

theorem queued_gateTransition {l : Lane} (halarm : ∀ k h f, P (.alarm k h f)) (hgate : ∀ r, P (.gate l r))
    (left entered : CheckerState) (r : Reason) (s : State) :
    s.line.Queued P (s.gateTransition l left entered r).line := by
  unfold State.gateTransition
  dsimp only
  rw [State.closeOnExit_eq]
  split
  · exact .refl _
  · split
    · unfold State.gateLaneOff
      split
      · exact ControlLine.queued_one (hgate _) _
      · exact .refl _
    · split
      · split
        · exact queued_lockLoss halarm hgate _ _
        · split <;> exact .refl _
      · exact .refl _

theorem queued_entered (halarm : ∀ k h f, P (.alarm k h f)) (m : Move) (s : State) : s.line.Queued P (s.entered m).line := by
  unfold State.entered State.setReasonFlag
  split
  · exact queued_setFlag_of halarm _ _ _
  · exact .refl _

theorem queued_gated {m : Move} (halarm : ∀ k h f, P (.alarm k h f)) (hgate : ∀ r, P (.gate m.lane r)) (s : State) :
    s.line.Queued P (s.gated m).line :=
  (queued_entered halarm m s).trans (queued_gateTransition halarm hgate _ _ _ _)

theorem queued_offerLock (halarm : ∀ k h f, P (.alarm k h f)) (l : Lane) (c : Candidate) (s : State) :
    s.line.Queued P (s.offerLock l c).line := by
  unfold State.offerLock
  split
  · exact queued_setFlag_of halarm _ _ _
  · exact .refl _

theorem queued_offerTally (halarm : ∀ k h f, P (.alarm k h f)) (l : Lane) (c : Candidate) (s : State) :
    s.line.Queued P (s.offerTally l c).line := by
  unfold State.offerTally
  split
  · exact queued_setFlag_of halarm _ _ _
  · exact .refl _

theorem queued_grantTo_of (halarm : ∀ k h f, P (.alarm k h f)) (hfull : ∀ c q, P (.log .full c q)) (l : Lane) (s : State) :
    s.line.Queued P (s.grantTo l).line := by
  unfold State.grantTo
  split
  · unfold State.discard
    dsimp only
    split
    · exact queued_setFlag_of halarm _ _ _
    · exact (queued_setFlag_of halarm _ _ _).trans (ControlLine.queued_one (hfull _ _) _)
  · exact .refl _

theorem queued_grant (halarm : ∀ k h f, P (.alarm k h f)) (hfull : ∀ c q, P (.log .full c q)) (s : State) :
    s.line.Queued P s.grant.line := by
  suffices h : ∀ n (s : State), s.line.Queued P (s.grantRounds n).line from h 8 s
  intro n
  induction n with
  | zero => exact fun _ => .refl _
  | succ n ih =>
    intro s
    rw [State.grantRounds]
    split
    · exact (queued_grantTo_of halarm hfull _ s).trans (ih _)
    · exact .refl _

theorem queued_entryCandidate (halarm : ∀ k h f, P (.alarm k h f)) (hfull : ∀ c q, P (.log .full c q)) (m : Move)
    (s : State) : s.line.Queued P (s.entryCandidate m).line := by
  unfold State.entryCandidate
  dsimp only
  split
  · exact (queued_offerLock halarm _ _ s).trans (queued_grant halarm hfull _)
  · exact .refl _

/-- A finished point queues SPOT and SWEEP notices. -/
theorem kind_finishNotices {v : Verdict} {m : Margin} {n : Notice} (h : n ∈ m.finishNotices v) :
    n.kind = .spot ∨ n.kind = .sweep := by
  unfold Margin.finishNotices at h
  split at h
  · cases h
  · exact .inl (List.mem_singleton.1 h ▸ rfl)
  · split at h
    · exact .inr (List.mem_singleton.1 h ▸ rfl)
    · cases h
  · exact .inl (List.mem_singleton.1 h ▸ rfl)
  · exact .inl (List.mem_singleton.1 h ▸ rfl)

theorem queued_finishPoint (hpoint : ∀ n : Notice, n.kind = .spot ∨ n.kind = .sweep → P n) (v : Verdict) (s : State) :
    s.line.Queued P (s.finishPoint v).line :=
  ⟨_, fun n hn => hpoint n (kind_finishNotices hn), rfl⟩

theorem queued_marginTransition (hpoint : ∀ n : Notice, n.kind = .spot ∨ n.kind = .sweep → P n) (l : Lane)
    (left entered : CheckerState) (s : State) : s.line.Queued P (s.marginTransition l left entered).line := by
  unfold State.marginTransition State.pointTransition
  split
  · split
    · split
      · split <;> exact .refl _
      · split
        · exact .refl _
        · split
          · exact queued_finishPoint hpoint _ s
          · exact .refl _
      · split
        · exact queued_finishPoint hpoint _ s
        · exact .refl _
    · exact .refl _
  · exact .refl _

theorem queued_dwellWord (hpoint : ∀ n : Notice, n.kind = .spot ∨ n.kind = .sweep → P n) (l : Lane) (k : Nat) (s : State) :
    s.line.Queued P (s.dwellWord l k).line := by
  unfold State.dwellWord
  split
  · exact .refl _
  · split
    · split
      · exact .refl _
      · dsimp only
        split
        · exact queued_finishPoint hpoint _ _
        · exact .refl _
      · exact .refl _
    · exact .refl _

end

/-- Any notice but one of the capture log. -/
def Notice.notLog (n : Notice) : Prop := n.kind ≠ .log

/-- Any notice but the capture log's FULL. -/
def Notice.notFull (n : Notice) : Prop := ∀ c q, n ≠ .log .full c q

theorem Notice.notLog.notFull {n : Notice} (h : n.notLog) : n.notFull := fun _ _ hn => h (hn ▸ rfl)

theorem Notice.notLog_alarm (k : Lane) (h : HistorySet) (f : HistoryFlag) : (Notice.alarm k h f).notLog := nofun

theorem Notice.notLog_of_point (n : Notice) (h : n.kind = .spot ∨ n.kind = .sweep) : n.notLog := by
  rcases h with h | h <;> (intro hl; rw [h] at hl; cases hl)

theorem queued_applyMove_of_ne {m : Move} (h : m.phase.state ≠ .locked) (s : State) :
    s.line.Queued Notice.notLog (s.applyMove m).line := by
  rw [State.applyMove_eq, State.entryCandidate_of_ne h]
  exact ((queued_gated Notice.notLog_alarm (fun _ => nofun) s).trans
    (queued_marginTransition Notice.notLog_of_point ..)).trans (ControlLine.queued_one nofun _)

theorem State.applyMove_enabled (m : Move) (s : State) : (s.applyMove m).line.enabled = s.line.enabled :=
  (touches_applyMove s m).queued.enabled

/-- Each transition queues its LOCK notice (R53). -/
theorem State.applyMove_announces_lock {m : Move} {s : State} (h : s.line.enabled.getLsbD 0 = true) :
    (s.applyMove m).line.Announces (.lock m.lane m.phase.state m.reason) := by
  rw [State.applyMove_eq]
  refine ControlLine.announces_queueNotice_self ?_
  have hen := s.applyMove_enabled m
  rw [State.applyMove_eq] at hen
  exact hen ▸ h

/-- What follows the gate in a transition leaves its GATE notice announced. -/
theorem State.applyMove_announces_gate {m : Move} {s : State} {r : EndReason}
    (h : (s.gated m).line.Announces (.gate m.lane r)) : (s.applyMove m).line.Announces (.gate m.lane r) := by
  have hne : ∀ n : Notice, n.kind ≠ .gate → (Notice.gate m.lane r).sameKey n = false := fun n hn =>
    not_sameKey_of_kind (Ne.symm hn)
  rw [State.applyMove_eq]
  have hentry := (queued_entryCandidate (P := fun n => n.kind ≠ .gate) (fun _ _ _ => nofun) (fun _ _ => nofun) m
    (s.gated m)).announces hne h
  refine ((queued_marginTransition (P := fun n => n.kind ≠ .gate) (fun n hn => ?_) ..).announces hne hentry).queueNotice
    (hne _ nofun)
  rcases hn with hn | hn <;> rw [hn] <;> exact nofun

/-- In a transition of distinct lanes each transition's LOCK notice is announced. -/
theorem transition_announces_lock {ms : List Move} (hnodup : (ms.map Move.lane).Nodup) {m : Move} (hm : m ∈ ms) {s : State}
    (h : s.line.enabled.getLsbD 0 = true) :
    (s.transition ms).line.Announces (.lock m.lane m.phase.state m.reason) := by
  obtain ⟨u, -, -, hen, htouch⟩ := transition_split hnodup hm s
  refine htouch.queued.announces (fun n hn => Bool.eq_false_iff.2 fun hkey => ?_)
    (State.applyMove_announces_lock (hen ▸ h))
  obtain ⟨hkind, hlane⟩ := (Notice.sameKey_iff _ _).1 hkey
  rcases hn m.lane hlane.symm with h | h
  · exact h rfl
  · rw [h] at hkind
    cases hkind

theorem transition_enabled (ms : List Move) (s : State) : (s.transition ms).line.enabled = s.line.enabled :=
  (touches_transition ms s).queued.enabled

/-! ### Gates that a transition ends (R96, R100, R101, R103) -/

/-- The lane's record tells the end of its gate (R103, R104). -/
theorem State.gateEnded_of {t : State} {l : Lane} {r : EndReason} {now : Nat} {y : LaneState}
    (hlane : t.lane l = y.finishGate l r now)
    (hnotice : t.line.enabled.getLsbD 1 = true → t.line.Announces (.gate l r)) : t.GateEnded l r now := by
  unfold State.GateEnded
  rw [hlane]
  exact ⟨rfl, rfl, hnotice, _, rfl, rfl, rfl, rfl, rfl, rfl⟩

/-- A gate that a transition ended is DONE, and counts nothing more. -/
theorem LaneState.Missed.of_finished {l : Lane} {r : EndReason} {now : Nat} {y z : LaneState}
    (h : (y.finishGate l r now).Missed z) : z = y.finishGate l r now := h.2 rfl

theorem State.gated_of_loss {s : State} {m : Move} (hlocked : m.phase.state ≠ .locked) (hoff : m.phase.state ≠ .off)
    (hrun : (s.lane m.lane).gate.state = .running) (hleft : (s.lane m.lane).chkState = .locked) (hloss : m.reason.loses) :
    s.gated m = ((s.entered m).modLane m.lane LaneState.closeBurst).lockLoss m.lane (m.reason = .held) := by
  have hrun' : ((s.entered m).lane m.lane).gate.state = .running := by
    rw [State.entered_lane, if_pos rfl]
    exact hrun
  unfold State.gated State.gateTransition
  dsimp only
  rw [if_neg hlocked, if_neg hoff, if_pos hrun', if_pos ⟨hleft, hloss⟩, if_pos hleft]

theorem State.gated_of_off {s : State} {m : Move} (hoff : m.phase.state = .off)
    (hactive : (s.lane m.lane).gate.state.active = true) :
    s.gated m = ((s.entered m).modLane m.lane (LaneState.closeOnExit (s.lane m.lane).chkState)).endGate m.lane .laneOff := by
  have hactive' : (((s.entered m).modLane m.lane (LaneState.closeOnExit (s.lane m.lane).chkState)).lane
      m.lane).gate.state.active = true := by
    rw [State.modLane_lane_self, (LaneState.closeOnExit_gate _ _).1, State.entered_lane, if_pos rfl]
    exact hactive
  unfold State.gated State.gateTransition
  dsimp only
  rw [State.closeOnExit_eq, hoff, if_neg (by decide), if_pos rfl, State.gateLaneOff, if_pos hactive']

theorem State.entered_enabled (s : State) (m : Move) : (s.entered m).line.enabled = s.line.enabled :=
  (queued_entered (P := fun _ => True) (fun _ _ _ => trivial) m s).enabled

theorem State.endGate_announces {s : State} {l : Lane} {r : EndReason} (h : s.line.enabled.getLsbD 1 = true) :
    (s.endGate l r).line.Announces (.gate l r) :=
  ControlLine.announces_queueNotice_self (c := s.line) (n := .gate l r) h

theorem State.saturateGate_announces {s : State} {l : Lane} (h : s.line.enabled.getLsbD 1 = true) :
    (s.saturateGate l).line.Announces (.gate l .saturated) := by
  refine State.endGate_announces ?_
  rw [(queued_setFlag_of (P := fun _ => True) (fun _ _ _ => trivial) l .saturated s).enabled]
  exact h

section
variable {x : LaneState} {l : Lane} {held : Bool} {now : Nat}

theorem LaneState.lockLoss_max (h : x.gate.counts.lockLosses = Config.max32) :
    x.lockLoss l held now = x.finishGate l .saturated now := if_pos h

theorem LaneState.lockLoss_held (h : x.gate.counts.lockLosses ≠ Config.max32) (hheld : held = true) :
    x.lockLoss l held now = LaneState.pauseGate { x with gate := x.gate.addLoss } := (if_neg h).trans (if_pos hheld)

theorem LaneState.lockLoss_keep (h : x.gate.counts.lockLosses ≠ Config.max32) (hheld : ¬held = true)
    (hp : x.gate.config.policy = .keep) : x.lockLoss l held now = { x with gate := x.gate.addLoss } := by
  refine (if_neg h).trans ((if_neg hheld).trans ?_)
  rw [hp]

theorem LaneState.lockLoss_pause (h : x.gate.counts.lockLosses ≠ Config.max32) (hheld : ¬held = true)
    (hp : x.gate.config.policy = .pause) :
    x.lockLoss l held now = LaneState.pauseGate { x with gate := x.gate.addLoss } := by
  refine (if_neg h).trans ((if_neg hheld).trans ?_)
  rw [hp]

theorem LaneState.lockLoss_abort (h : x.gate.counts.lockLosses ≠ Config.max32) (hheld : ¬held = true)
    (hp : x.gate.config.policy = .abort) :
    x.lockLoss l held now = LaneState.finishGate l .lockLost now { x with gate := x.gate.addLoss } := by
  refine (if_neg h).trans ((if_neg hheld).trans ?_)
  rw [hp]

theorem State.lockLoss_abort {s : State} (h : (s.lane l).gate.counts.lockLosses ≠ Config.max32) (hheld : ¬held = true)
    (hp : (s.lane l).gate.config.policy = .abort) :
    s.lockLoss l held = (s.modGate l Gate.addLoss).endGate l .lockLost := by
  refine (if_neg h).trans ((if_neg hheld).trans ?_)
  rw [hp]

end

/-- What follows the gate in a transition. -/
theorem touches_after_gate (m : Move) (s : State) : Touches anyLane anyFlag (s.gated m) (s.applyMove m) := by
  rw [State.applyMove_eq]
  exact ((touches_entryCandidate (m := m) (s.gated m) trivial).trans (touches_marginTransition ..)).trans
    (touches_notice _ fun _ _ => trivial)

section
variable {ms : List Move} {m : Move} {s u t : State}

/-- In a transition of distinct lanes, a gate's GATE notice stays announced. -/
theorem transition_announces_gate {r : EndReason} (htouch : Touches (· ≠ m.lane) anyFlag (u.applyMove m) t)
    (h : (u.gated m).line.Announces (.gate m.lane r)) : t.line.Announces (.gate m.lane r) :=
  htouch.queued.announces (fun _ hn => gate_sameKey_of_noticeOf (fun h => h rfl) hn) (State.applyMove_announces_gate h)

/-- What one transition's lock loss leaves of a RUNNING gate, whatever other lanes do after it (R96, R100). -/
theorem lossTaken_of_touches (hlocked : m.phase.state ≠ .locked) (hoff : m.phase.state ≠ .off)
    (hrun : (u.lane m.lane).gate.state = .running) (hleft : (u.lane m.lane).chkState = .locked) (hloss : m.reason.loses)
    (htouch : Touches (· ≠ m.lane) anyFlag (u.applyMove m) t) {policy : LockPolicy}
    (hpolicy : policy = if m.reason = .held then .pause else (u.lane m.lane).gate.config.policy) :
    t.LossTaken m.lane (u.lane m.lane).gate.counts policy u.uptime := by
  have hgated := State.gated_of_loss hlocked hoff hrun hleft hloss
  have hlane := missed_applyMove m m.lane u
  rw [if_pos rfl, LaneState.move_of_loss hlocked hoff hrun hleft hloss] at hlane
  replace hlane := hlane.trans (htouch.missed (k := m.lane) fun h => h rfl)
  have hv : ((u.entered m).modLane m.lane LaneState.closeBurst).lane m.lane =
      ((u.lane m.lane).enter m.phase m.reason).closeOnExit (u.lane m.lane).chkState := by
    rw [State.modLane_lane_self, State.entered_lane, if_pos rfl, LaneState.closeOnExit, if_pos hleft]
  have hon : t.line.enabled.getLsbD 1 = true → (u.entered m).line.enabled.getLsbD 1 = true := by
    rw [htouch.queued.enabled, State.applyMove_enabled, State.entered_enabled]
    exact id
  obtain ⟨hstate, hcounts, -, hconfig, -⟩ :=
    LaneState.closeOnExit_gate (u.lane m.lane).chkState ((u.lane m.lane).enter m.phase m.reason)
  replace hcounts : _ = (u.lane m.lane).gate.counts := hcounts
  replace hconfig : _ = (u.lane m.lane).gate.config := hconfig
  replace hstate := hstate.trans hrun
  generalize ((u.lane m.lane).enter m.phase m.reason).closeOnExit (u.lane m.lane).chkState = y at *
  have hheld : ¬decide (m.reason = .held) = true ∨ m.reason = .held := (em (m.reason = .held)).symm.imp_left fun h h' =>
    h (of_decide_eq_true h')
  rw [← hcounts]
  refine ⟨fun hmax => ?_, fun hmax => ?_⟩
  · rcases hheld with hheld | hheld
    · rw [if_neg fun h => hheld (decide_eq_true h), ← hconfig] at hpolicy
      cases policy with
      | keep =>
        rw [LaneState.lockLoss_keep hmax hheld hpolicy.symm] at hlane
        exact ⟨hlane.counts, fun _ => hlane.state.trans hstate, nofun, nofun⟩
      | pause =>
        rw [LaneState.lockLoss_pause hmax hheld hpolicy.symm] at hlane
        exact ⟨hlane.counts, nofun, fun _ => hlane.state, nofun⟩
      | abort =>
        rw [LaneState.lockLoss_abort hmax hheld hpolicy.symm] at hlane
        have hz := hlane.of_finished
        refine ⟨congrArg (fun x : LaneState => x.gate.counts) hz, nofun, nofun, fun _ => State.gateEnded_of hz fun h =>
          transition_announces_gate htouch ?_⟩
        rw [hgated, State.lockLoss_abort (by rw [hv]; exact hmax) hheld (by rw [hv]; exact hpolicy.symm)]
        exact State.endGate_announces (hon h)
    · rw [if_pos hheld] at hpolicy
      subst hpolicy
      rw [LaneState.lockLoss_held hmax (decide_eq_true hheld)] at hlane
      exact ⟨hlane.counts, nofun, fun _ => hlane.state, nofun⟩
  · rw [LaneState.lockLoss_max hmax] at hlane
    have hz := hlane.of_finished
    have hsat : u.gated m = ((u.entered m).modLane m.lane LaneState.closeBurst).saturateGate m.lane := by
      rw [hgated, State.lockLoss, if_pos (by rw [hv]; exact hmax)]
    have hflag : (u.gated m).flagSet m.lane .saturated = true := by
      rw [hsat]
      exact State.saturateGate_flagSet _ _
    refine ⟨by rw [hz]; rfl,
      htouch.flagSet_mono ((touches_after_gate m u).flagSet_mono hflag), State.gateEnded_of hz fun h =>
        transition_announces_gate htouch ?_⟩
    rw [hsat]
    exact State.saturateGate_announces (hon h)

/-- What a lock loss leaves of a RUNNING gate (R96, R100). -/
theorem lossTaken_transition (hnodup : (ms.map Move.lane).Nodup) (hm : m ∈ ms) (hlocked : m.phase.state ≠ .locked)
    (hoff : m.phase.state ≠ .off) (hrun : (s.lane m.lane).gate.state = .running)
    (hleft : (s.lane m.lane).chkState = .locked) (hloss : m.reason.loses) {policy : LockPolicy}
    (hpolicy : policy = if m.reason = .held then .pause else (s.lane m.lane).gate.config.policy) :
    (s.transition ms).LossTaken m.lane (s.lane m.lane).gate.counts policy s.uptime := by
  obtain ⟨u, hu, hup, -, htouch⟩ := transition_split hnodup hm s
  rw [← hu.counts, ← hup]
  refine lossTaken_of_touches hlocked hoff (hu.state.trans hrun) (hu.chkState.trans hleft) hloss htouch ?_
  rw [hu.config]
  exact hpolicy

/-- A checker's loss of receive power ends its active gate (R101). -/
theorem gateEnded_transition (hnodup : (ms.map Move.lane).Nodup) (hm : m ∈ ms) (hoff : m.phase.state = .off)
    (hactive : (s.lane m.lane).gate.state.active = true) :
    (s.transition ms).GateEnded m.lane .laneOff s.uptime := by
  obtain ⟨u, hu, hup, hen, htouch⟩ := transition_split hnodup hm s
  have hactive' : (u.lane m.lane).gate.state.active = true := by
    rw [hu.state]
    exact hactive
  have hlane := missed_applyMove m m.lane u
  rw [if_pos rfl, LaneState.move_of_off hoff hactive', hup] at hlane
  have hz := (hlane.trans (htouch.missed (k := m.lane) fun h => h rfl)).of_finished
  refine State.gateEnded_of hz fun h => transition_announces_gate htouch ?_
  rw [transition_enabled, ← hen, ← State.entered_enabled u m] at h
  rw [State.gated_of_off hoff hactive']
  exact State.endGate_announces h

end

/-! ### Candidates offered and granted (R147 to R150) -/

/-- A lane whose slot alone is full is the arbiter's choice. -/
theorem CaptureLog.choose_of_only {c : CaptureLog} {l : Lane} (hl : c.slotFull l = true)
    (hother : ∀ k : Lane, k ≠ l → c.lanes[k].slot = none) : c.choose = some l := by
  cases hc : c.choose with
  | none =>
    have := CaptureLog.empty_of_choose hc l
    rw [CaptureLog.slotFull, this] at hl
    cases hl
  | some k =>
    have hk := slotFull_of_choose hc
    by_cases h : k = l
    · rw [h]
    · rw [CaptureLog.slotFull, hother k h] at hk
      cases hk

theorem State.grantRounds_of_empty {s : State} (h : ∀ k : Lane, s.log.lanes[k].slot = none) (n : Nat) :
    s.grantRounds n = s := by
  cases n with
  | zero => rfl
  | succ n =>
    rw [State.grantRounds]
    split
    · next l _ hc =>
      have := slotFull_of_choose hc
      rw [CaptureLog.slotFull, h l] at this
      cases this
    · rfl

theorem State.grantRounds_of_writing {s : State} (h : s.log.port ≠ .free) (n : Nat) : s.grantRounds n = s := by
  cases n with
  | zero => rfl
  | succ n =>
    rw [State.grantRounds]
    split
    · next hp _ => exact absurd hp h
    · rfl

/-- A settled log leaves the arbiter nothing to grant. -/
theorem State.grant_of_settled {s : State} (h : s.log.Settled) : s.grant = s :=
  h.elim State.grant_of_writing fun h => State.grantRounds_of_empty h 8

theorem State.grant_succ {s : State} {l : Lane} (hp : s.log.port = .free) (hc : s.log.choose = some l) :
    s.grant = (s.grantTo l).grantRounds 7 := by
  rw [State.grant, State.grantRounds, hp, hc]

section
variable {s : State} {l : Lane} {cand : Candidate}

theorem State.fillSlot_choose (hempty : ∀ k : Lane, s.log.lanes[k].slot = none) :
    (s.fillSlot l cand).log.choose = some l := by
  refine CaptureLog.choose_of_only ?_ fun k hk => ?_
  · rw [CaptureLog.slotFull, State.fillSlot, State.modCapture_captureLane, if_pos rfl]
    rfl
  · rw [State.fillSlot, State.modCapture_captureLane, if_neg (Ne.symm hk)]
    exact hempty k

/-- A candidate alone at a free port is granted and written. -/
theorem State.grant_fillSlot_write (hempty : ∀ k : Lane, s.log.lanes[k].slot = none) (hp : s.log.port = .free)
    (hroom : s.log.full = .ring ∨ s.log.records.length < 512) :
    (s.fillSlot l cand).grant = (s.fillSlot l cand).withLog { s.log with
      lanes := s.log.lanes.set l { s.log.lanes[l] with slot := some cand }
      lastGranted := l, port := .writing l s.log.full } := by
  have hfull : ¬((s.fillSlot l cand).log.full = .stop ∧ Config.logCapacity ≤ (s.fillSlot l cand).log.records.length) :=
    fun ⟨hstop, hlen⟩ => hroom.elim (fun hring => by rw [show s.log.full = .stop from hstop] at hring; cases hring)
      fun hlt => absurd hlen (Nat.not_le.2 hlt)
  rw [State.grant_succ (s := s.fillSlot l cand) hp (State.fillSlot_choose hempty), State.grantTo, if_neg hfull]
  refine State.grantRounds_of_writing (fun h => ?_) 7
  cases h

theorem CaptureLane.with_slot {c : CaptureLane} {o : Option Candidate} (h : c.slot = o) : { c with slot := o } = c := by
  subst h
  rfl

/-- A slot filled and emptied again. -/
theorem CaptureLog.set_slot_none (h : s.log.lanes[l].slot = none) :
    (s.log.lanes.set l { s.log.lanes[l] with slot := some cand }).set l
      { (s.log.lanes.set l { s.log.lanes[l] with slot := some cand })[l] with slot := none } = s.log.lanes := by
  rw [Vector.set_set, CaptureLog.set_lane, if_pos rfl]
  exact (congrArg (fun c => s.log.lanes.set l c) (CaptureLane.with_slot h)).trans (Vector.set_getElem_self _)

/-- A candidate alone at a free port is granted and discarded at a full log under STOP. -/
theorem State.grant_fillSlot_discard (hempty : ∀ k : Lane, s.log.lanes[k].slot = none) (hp : s.log.port = .free)
    (hstop : s.log.full = .stop) (hlen : 512 ≤ s.log.records.length) :
    (s.fillSlot l cand).grant = (s.fillSlot l cand).grantTo l := by
  rw [State.grant_succ (s := s.fillSlot l cand) hp (State.fillSlot_choose hempty)]
  refine State.grantRounds_of_empty (fun k => ?_) 7
  rw [State.grantTo_log, if_pos ⟨hstop, hlen⟩, CaptureLog.set_lane]
  split
  · rfl
  · next hk =>
    rw [State.fillSlot, State.modCapture_captureLane, if_neg hk]
    exact hempty k

/-- What a discard at a full log announces (R150, R153). -/
theorem State.fullAnnounced_grantTo (hstop : s.log.full = .stop) (hlen : 512 ≤ s.log.records.length) :
    s.FullAnnounced (s.grantTo l) s.log.records.length s.log.newest := by
  have hfull : s.log.full = .stop ∧ Config.logCapacity ≤ s.log.records.length := ⟨hstop, hlen⟩
  have hmiss : s.line.Queued Notice.notLog
      (((s.withLog { s.log with lastGranted := l }).modCapture l fun c => { c with slot := none }).missCandidate l).line :=
    queued_setFlag_of Notice.notLog_alarm _ _ _
  unfold State.grantTo State.discard
  dsimp only
  rw [if_pos hfull]
  refine ⟨fun hmark hon => ?_, fun hmark n q h => ?_⟩
  · have hmark' : ¬(((s.withLog { s.log with lastGranted := l }).modCapture l
        fun c => { c with slot := none }).missCandidate l).log.fullMark = true := Bool.eq_false_iff.1 hmark
    rw [if_neg hmark']
    exact ControlLine.announces_queueNotice_self (n := .log .full _ _) (by rw [← hmiss.enabled] at hon; exact hon)
  · have hmark' : (((s.withLog { s.log with lastGranted := l }).modCapture l
        fun c => { c with slot := none }).missCandidate l).log.fullMark = true := hmark
    rw [if_pos hmark'] at h
    exact hmiss.announces_before h fun hn => hn rfl

/-- A candidate offered to its lane's slot and then met by the arbiter: taken, granted, discarded or dropped
(R147 to R150). -/
theorem State.offered_grant {o : State} (hfill : s.log.lanes[l].slot = none → o = s.fillSlot l cand)
    (hdrop : ∀ old, s.log.lanes[l].slot = some old → o.log = s.log ∧ o.flagSet l .captureMissed = true) :
    s.Offered o.grant l cand := by
  refine ⟨fun hslot hport => ?_, fun hempty hport hroom => ?_, fun hempty hport hstop hlen => ?_, fun old hslot hport => ?_⟩
  · rw [hfill hslot, State.grant_of_writing]
    · rfl
    · exact hport
  · rw [hfill (hempty l), State.grant_fillSlot_write hempty hport hroom]
    rfl
  · rw [hfill (hempty l), State.grant_fillSlot_discard hempty hport hstop hlen]
    refine ⟨?_, ?_, fun r hr => ?_⟩
    · rw [State.grantTo_log]
      refine (if_pos ⟨hstop, hlen⟩).trans ?_
      exact congrArg (fun lanes => { s.log with lastGranted := l, fullMark := true, lanes := lanes })
        (CaptureLog.set_slot_none (hempty l))
    · have hflag := State.grantTo_flagSet l l .captureMissed (s.fillSlot l cand)
      rw [decide_eq_true ⟨rfl, rfl, hstop, hlen⟩, Bool.or_true] at hflag
      exact hflag
    · have hnewest : s.log.newest = r.sequence := by
        rw [CaptureLog.newest, hr]
        rfl
      rw [← hnewest]
      exact State.fullAnnounced_grantTo (s := s.fillSlot l cand) hstop hlen
  · obtain ⟨hlog, hflag⟩ := hdrop old hslot
    rw [State.grant_of_writing (by rw [hlog]; exact hport)]
    exact ⟨hlog, hflag⟩

theorem State.fillSlot_of_slotFull (h : s.log.lanes[l].slot = none) : ¬s.log.slotFull l = true := by
  rw [CaptureLog.slotFull, h]
  exact Bool.false_ne_true

theorem State.slotFull_of_some {old : Candidate} (h : s.log.lanes[l].slot = some old) : s.log.slotFull l = true := by
  rw [CaptureLog.slotFull, h]
  rfl

theorem State.offered_offerLock : s.Offered (s.offerLock l cand).grant l cand := by
  refine State.offered_grant (fun h => if_neg (State.fillSlot_of_slotFull h)) fun old h => ?_
  rw [State.offerLock, if_pos (State.slotFull_of_some h)]
  refine ⟨rfl, ?_⟩
  rw [State.missCandidate_flagSet, decide_eq_true ⟨rfl, rfl⟩, Bool.or_true]

theorem State.offered_offerTally : s.Offered (s.offerTally l cand).grant l cand := by
  refine State.offered_grant (fun h => if_neg (State.fillSlot_of_slotFull h)) fun old h => ?_
  rw [State.offerTally, if_pos (State.slotFull_of_some h)]
  refine ⟨rfl, ?_⟩
  rw [State.setFlag_flagSet, decide_eq_true ⟨rfl, rfl⟩, Bool.or_true]

/-- What is offered stays offered when other things but the capture log's happen before and after it. -/
theorem State.Offered.congr {s' u t : State} (h : s'.Offered u l cand) (hlog : s'.log = s.log)
    (hline : s.line.Queued Notice.notFull s'.line) (hlog' : t.log = u.log)
    (hflag : u.flagSet l .captureMissed = true → t.flagSet l .captureMissed = true)
    (hline' : u.line.Queued Notice.notLog t.line) : s.Offered t l cand := by
  obtain ⟨h1, h2, h3, h4⟩ := h
  rw [hlog] at h1 h2 h3 h4
  refine ⟨fun a b => hlog'.trans (h1 a b), fun a b c => hlog'.trans (h2 a b c), fun a b c d => ?_, fun old a b => ?_⟩
  · obtain ⟨hl, hf, hfull⟩ := h3 a b c d
    refine ⟨hlog'.trans hl, hflag hf, fun r hr => ⟨fun hmark hon => ?_, fun hmark n q hn => ?_⟩⟩
    · refine hline'.announces (fun n hn => not_sameKey_of_kind (Ne.symm hn)) ((hfull r hr).1 (by rw [hlog]; exact hmark) ?_)
      rw [hline.enabled]
      exact hon
    · have hu := hline'.announces_before hn fun h => h rfl
      exact hline.announces_before ((hfull r hr).2 (by rw [hlog]; exact hmark) n q hu) fun h => h n q rfl
  · obtain ⟨hl, hf⟩ := h4 old a b
    exact ⟨hlog'.trans hl, hflag hf⟩

/-- A lost candidate is a capture missed of its lane, if the gate is active and the counter below its maximum. -/
theorem State.missed_of_lost (hlost : s.log.LosesCandidate l) :
    (s.offerLock l cand).grant.lane l = { s.lane l with gate := (s.lane l).gate.addMissed } := by
  rcases hlost with ⟨hslot, hport⟩ | ⟨hempty, hport, hstop, hlen⟩
  · have hdrop : s.offerLock l cand = s.missCandidate l := if_pos hslot
    rw [hdrop, State.grant_of_writing (by exact hport), State.missCandidate_lane, if_pos rfl]
  · have hfill : s.offerLock l cand = s.fillSlot l cand := if_neg (State.fillSlot_of_slotFull (hempty l))
    rw [hfill, State.grant_fillSlot_discard hempty hport hstop hlen, State.grantTo_lane]
    exact if_pos ⟨rfl, hstop, hlen⟩

theorem Gate.addMissed_missed {g : Gate} (hactive : g.state.active = true) (hmax : g.counters.missed < 2 ^ 32 - 1) :
    g.addMissed.counters.missed = g.counters.missed + 1 := by
  have hlt : g.counters.missed < Config.max32 := hmax
  simp [Gate.addMissed, hactive, hlt]

end

end Sys2Proof.Machine

/-! Transitions by request and by signal (O27 to O30): CHK_HOLD, CHK_RELEASE, the SD events, and lock losses. -/

namespace Sys2Proof.Machine

/-! ### What a reply or a frame begun leaves -/

/-- From `t` to `t'` replies may have joined the queue and a frame may have begun; lanes, history, log, margin unit and the
notices announced are the same. -/
structure State.Shows (t t' : State) : Prop where
  lanes : t'.lanes = t.lanes
  history : t'.history = t.history
  log : t'.log = t.log
  margin : t'.margin = t.margin
  enabled : t'.line.enabled = t.line.enabled
  announces : ∀ n, t'.line.Announces n ↔ t.line.Announces n

theorem State.shows_pump (t : State) : t.Shows t.pump :=
  ⟨rfl, rfl, rfl, rfl, ControlLine.pump_enabled _, fun _ => ⟨ControlLine.pump_announces_iff, ControlLine.Announces.pump⟩⟩

theorem State.shows_replied (kind : BitVec 6) (tag : Byte) (st : Status) (f : ReplyFields) (t : State) :
    t.Shows (t.replied kind tag st f) :=
  let u := t.queueReply { kind := kind, tag := tag, answer := { status := st, fields := f } }
  ⟨rfl, rfl, rfl, rfl, ControlLine.pump_enabled u.line,
    fun _ => ⟨ControlLine.pump_announces_iff (c := u.line), ControlLine.Announces.pump (c := u.line)⟩⟩

theorem State.replied_replies (kind : BitVec 6) (tag : Byte) (st : Status) (f : ReplyFields) (t : State) :
    (t.replied kind tag st f).line.replies =
      t.line.replies ++ [{ kind := kind, tag := tag, answer := { status := st, fields := f } }] :=
  ControlLine.pump_replies _

section
variable {s t t' : State} {l : Lane}

theorem State.Shows.lane (h : t.Shows t') (k : Lane) : t'.lane k = t.lane k := by
  unfold State.lane
  rw [h.lanes]

theorem State.Shows.flagSet (h : t.Shows t') (k : Lane) (f : HistoryFlag) : t'.flagSet k f = t.flagSet k f := by
  unfold State.flagSet
  rw [h.history]

theorem State.GateEnded.shows {r : EndReason} {now : Nat} (h : t.GateEnded l r now) (hs : t.Shows t') :
    t'.GateEnded l r now := by
  unfold State.GateEnded
  rw [hs.lane, hs.enabled, hs.announces]
  exact h

theorem State.LossTaken.shows {c : GateCounts} {p : LockPolicy} {now : Nat} (h : t.LossTaken l c p now)
    (hs : t.Shows t') : t'.LossTaken l c p now := by
  obtain ⟨hbelow, hmax⟩ := h
  unfold State.LossTaken
  rw [hs.lane, hs.flagSet]
  refine ⟨fun hne => ?_, fun heq => ?_⟩
  · obtain ⟨hcounts, hkeep, hpause, habort⟩ := hbelow hne
    exact ⟨hcounts, hkeep, hpause, fun h => (habort h).shows hs⟩
  · obtain ⟨hcounts, hflag, hend⟩ := hmax heq
    exact ⟨hcounts, hflag, hend.shows hs⟩

theorem State.Offered.shows {cand : Candidate} (h : s.Offered t l cand) (hs : t.Shows t') : s.Offered t' l cand := by
  unfold State.Offered State.FullAnnounced
  simp only [hs.log, hs.flagSet, hs.announces]
  exact h

theorem State.OtherLanesKept.shows {p : Lane → Prop} (h : s.OtherLanesKept t p) (hs : t.Shows t') :
    s.OtherLanesKept t' p := by
  intro k hk
  obtain ⟨hlane, hflags⟩ := h k hk
  exact ⟨hs.lane k ▸ hlane, fun f hf => (hs.flagSet k f).trans (hflags f hf)⟩

end

/-! ### No candidate, and no grant (R146, R148) -/

theorem CaptureLane.wantsLock_iff (c : CaptureLane) : c.wantsLock = true ↔ c.RaisesLock := by
  simp [CaptureLane.wantsLock, CaptureLane.RaisesLock, CaptureLane.quotaAllows]

/-- An exit by this move offers no candidate. -/
def State.NoExit (s : State) (l : Lane) : Prop :=
  (s.lane l).chkState ≠ .locked ∨ (s.lane l).gate.state ≠ .running ∨ ¬s.log.lanes[l].RaisesLock

theorem State.exitCandidate_of_noExit {s : State} {m : Move} (h : s.NoExit m.lane) : s.exitCandidate m = s := by
  refine if_neg fun ⟨hlocked, hrun, hwants⟩ => ?_
  rcases h with h | h | h
  · exact h hlocked
  · exact h hrun
  · exact h ((CaptureLane.wantsLock_iff _).1 hwants)

theorem State.exitCandidate_of_raises {s : State} {m : Move} (hleft : (s.lane m.lane).chkState = .locked)
    (hrun : (s.lane m.lane).gate.state = .running) (h : s.log.lanes[m.lane].RaisesLock) :
    s.exitCandidate m = s.offerLock m.lane (s.lockCandidateNow m.lane (.lockLost m.phase.state m.reason)) :=
  if_pos ⟨hleft, hrun, (CaptureLane.wantsLock_iff _).2 h⟩

theorem exits_of_noExit {ms : List Move} {s : State} (h : ∀ m ∈ ms, s.NoExit m.lane) :
    ms.foldl (fun s m => s.exitCandidate m) s = s := by
  induction ms with
  | nil => rfl
  | cons m ms ih =>
    rw [List.foldl_cons, State.exitCandidate_of_noExit (h m (List.mem_cons_self ..))]
    exact ih fun n hn => h n (List.mem_cons_of_mem _ hn)

/-- A transition at a settled log, without exit candidates, is its moves alone. -/
theorem transition_of_noExit {ms : List Move} {s : State} (hset : s.log.Settled) (h : ∀ m ∈ ms, s.NoExit m.lane) :
    s.transition ms = ms.foldl State.applyMove s := by
  rw [State.transition, exits_of_noExit h, State.grant_of_settled hset]

theorem moves_log {ms : List Move} (h : ∀ m ∈ ms, m.phase.state ≠ .locked) (s : State) :
    (ms.foldl State.applyMove s).log = s.log :=
  List.foldlRecOn ms State.applyMove (motive := fun t : State => t.log = s.log) rfl
    fun t ht m hm => (State.applyMove_log_of_ne (h m hm) t).trans ht

theorem transition_log_of_noExit {ms : List Move} {s : State} (hset : s.log.Settled) (h : ∀ m ∈ ms, s.NoExit m.lane)
    (hne : ∀ m ∈ ms, m.phase.state ≠ .locked) : (s.transition ms).log = s.log := by
  rw [transition_of_noExit hset h, moves_log hne]

/-- The exit from LOCKED of one lane offers its LOCK_LOST candidate (R146, R147). -/
theorem offered_transition_one {m : Move} {s : State} (hne : m.phase.state ≠ .locked)
    (hleft : (s.lane m.lane).chkState = .locked) (hrun : (s.lane m.lane).gate.state = .running)
    (h : s.log.lanes[m.lane].RaisesLock) :
    s.Offered (s.transition [m]) m.lane (s.lockCandidateNow m.lane (.lockLost m.phase.state m.reason)) := by
  have hone : s.transition [m] = ((s.exitCandidate m).grant).applyMove m := rfl
  rw [hone, State.exitCandidate_of_raises hleft hrun h]
  exact State.offered_offerLock.congr rfl (.refl _) (State.applyMove_log_of_ne hne _)
    (fun hflag => (touches_applyMove _ m).flagSet_mono hflag) (queued_applyMove_of_ne hne _)

/-! ### What the margin unit meets (R142) -/

/-- A transition between states other than LOCKED, OFF and HELD, or out of OFF or HELD into one, is none to the margin
unit. -/
theorem State.marginTransition_idle {left entered : CheckerState} (hleft : left ≠ .locked) (hlocked : entered ≠ .locked)
    (hoff : entered ≠ .off) (hheld : entered ≠ .held) (l : Lane) (s : State) : s.marginTransition l left entered = s := by
  have hneither : ¬(entered = .off ∨ entered = .held) := fun h => h.elim hoff hheld
  unfold State.marginTransition State.pointTransition
  simp only [hneither, hleft, hlocked, if_false]
  split
  · split
    · split <;> rfl
    · rfl
  · rfl

theorem moves_margin {ms : List Move} (hnodup : (ms.map Move.lane).Nodup) {s u w : State} (hmargin : u.margin = w.margin)
    (hstate : ∀ m ∈ ms, (u.lane m.lane).chkState = (s.lane m.lane).chkState) :
    (ms.foldl State.applyMove u).margin =
      (ms.foldl (fun w m => w.marginTransition m.lane (s.lane m.lane).chkState m.phase.state) w).margin := by
  induction ms generalizing u w with
  | nil => exact hmargin
  | cons m ms ih =>
    rw [List.map_cons, List.nodup_cons] at hnodup
    rw [List.foldl_cons, List.foldl_cons]
    refine ih hnodup.2 ?_ fun n hn => ?_
    · rw [State.applyMove_margin, hstate m (List.mem_cons_self ..)]
      exact marginTransition_margin_congr hmargin ..
    · have hne : m.lane ≠ n.lane := fun h => hnodup.1 (h ▸ List.mem_map_of_mem hn)
      have hmissed := missed_applyMove m n.lane u
      rw [if_neg hne] at hmissed
      exact hmissed.chkState.trans (hstate n (List.mem_cons_of_mem _ hn))

/-- The margin unit meets the transitions of distinct lanes in their order. -/
theorem transition_margin {ms : List Move} (hnodup : (ms.map Move.lane).Nodup) (s : State) :
    (s.transition ms).margin =
      (ms.foldl (fun w m => w.marginTransition m.lane (s.lane m.lane).chkState m.phase.state) s).margin :=
  moves_margin hnodup (State.exits_margin ms s) fun m _ => (missed_exits ms m.lane s).chkState

/-! ### The lane after its move -/

theorem LaneState.SameSettings.trans {x y z : LaneState} (h : x.SameSettings y) (h' : y.SameSettings z) : x.SameSettings z := by
  obtain ⟨hpower, hrate, hloop, hsd, hgen, hconfig⟩ := h
  obtain ⟨hpower', hrate', hloop', hsd', hgen', hconfig'⟩ := h'
  exact ⟨hpower'.trans hpower, hrate'.trans hrate, hloop'.trans hloop, hsd'.trans hsd, hgen'.trans hgen,
    hconfig'.trans hconfig⟩

theorem LaneState.Missed.sameSettings {x y : LaneState} (h : x.Missed y) : x.SameSettings y := by
  obtain ⟨⟨n, rfl⟩, -⟩ := h
  exact ⟨rfl, rfl, rfl, rfl, rfl, rfl⟩

theorem LaneState.move_sameSettings (m : Move) (now : Nat) (x : LaneState) : x.SameSettings (x.move m now) := by
  obtain ⟨hpower, hrate, hloop, hsd, hgen⟩ := LaneState.move_settings m now x
  exact ⟨hpower, hrate, hloop, hsd, hgen, by rw [LaneState.move_chk]⟩

section
variable {ms : List Move} {m : Move}

theorem transition_sameSettings (hnodup : (ms.map Move.lane).Nodup) (hm : m ∈ ms) (s : State) :
    (s.lane m.lane).SameSettings ((s.transition ms).lane m.lane) := by
  obtain ⟨x, hx, hmove⟩ := missed_transition hnodup hm s
  exact (hx.sameSettings.trans (LaneState.move_sameSettings ..)).trans hmove.sameSettings

theorem transition_chk (hnodup : (ms.map Move.lane).Nodup) (hm : m ∈ ms) (s : State) :
    ((s.transition ms).lane m.lane).chk = { (s.lane m.lane).chk with phase := m.phase } := by
  obtain ⟨x, hx, hmove⟩ := missed_transition hnodup hm s
  rw [hmove.chk, LaneState.move_chk, hx.chk]

theorem transition_chkState (hnodup : (ms.map Move.lane).Nodup) (hm : m ∈ ms) (s : State) :
    ((s.transition ms).lane m.lane).chkState = m.phase.state := by
  rw [LaneState.chkState, transition_chk hnodup hm]

theorem transition_path (hnodup : (ms.map Move.lane).Nodup) (hm : m ∈ ms) (s : State) :
    ((s.transition ms).lane m.lane).path = if m.reason.keepsPath then (s.lane m.lane).path else [] := by
  obtain ⟨x, hx, hmove⟩ := missed_transition hnodup hm s
  rw [hmove.path, LaneState.move_path, hx.path]

/-- A transition that enters neither LOCKED nor OFF and is no lock loss of a RUNNING gate keeps the gate. -/
theorem transition_gate_kept (hnodup : (ms.map Move.lane).Nodup) (hm : m ∈ ms) {s : State} (hlocked : m.phase.state ≠ .locked)
    (hoff : m.phase.state ≠ .off) (hkeep : (s.lane m.lane).gate.state ≠ .running ∨
      (m.phase.state ≠ .held ∧ ((s.lane m.lane).chkState ≠ .locked ∨ ¬m.reason.loses))) :
    ((s.transition ms).lane m.lane).gate.state = (s.lane m.lane).gate.state ∧
      ((s.transition ms).lane m.lane).gate.counts = (s.lane m.lane).gate.counts ∧
      ((s.transition ms).lane m.lane).gate.result = (s.lane m.lane).gate.result := by
  obtain ⟨x, hx, hmove⟩ := missed_transition hnodup hm s
  obtain ⟨hstate, hcounts, hresult⟩ := LaneState.move_gate_kept (x := x) (now := s.uptime) hlocked hoff
    (by rw [hx.state, hx.chkState]; exact hkeep)
  exact ⟨(hmove.state.trans hstate).trans hx.state, (hmove.counts.trans hcounts).trans hx.counts,
    (hmove.result.trans hresult).trans hx.result⟩

/-- A transition's history flag is set (R54). -/
theorem transition_flagSet (hnodup : (ms.map Move.lane).Nodup) (hm : m ∈ ms) (s : State) {f : HistoryFlag}
    (hf : m.reason.flag = some f) : (s.transition ms).flagSet m.lane f = true := by
  obtain ⟨u, -, -, -, htouch⟩ := transition_split hnodup hm s
  have hentered : (u.entered m).flagSet m.lane f = true := by
    rw [State.entered, State.setReasonFlag, hf]
    dsimp only
    rw [State.setFlag_flagSet, decide_eq_true ⟨rfl, rfl⟩, Bool.or_true]
  have hgated := (touches_gateTransition (L := anyLane) (F := anyFlag) (l := m.lane) (u.lane m.lane).chkState m.phase.state m.reason
    (u.entered m) trivial trivial).flagSet_mono hentered
  exact htouch.flagSet_mono ((touches_after_gate m u).flagSet_mono hgated)

end

theorem nodup_one (m : Move) : (([m] : List Move).map Move.lane).Nodup := List.nodup_singleton _

theorem mem_one (m : Move) : m ∈ ([m] : List Move) := List.mem_singleton.2 rfl

/-! ### CHK_RELEASE (R45) -/

theorem signalDecides_state (x : LaneState) : x.signalDecides.state = if x.signal then .hunt else .noSignal := by
  unfold LaneState.signalDecides
  split <;> rfl

/-- A released checker's transition: nothing but its lane and its notice. -/
theorem State.applyMove_released {s : State} {m : Move} (hheld : (s.lane m.lane).chkState = .held)
    (hphase : m.phase.state = .hunt ∨ m.phase.state = .noSignal) (hreason : m.reason = .released) :
    s.applyMove m = (s.modLane m.lane (LaneState.enter m.phase .released)).queueNotice (.lock m.lane m.phase.state .released) := by
  have hlocked : m.phase.state ≠ .locked := by rcases hphase with h | h <;> rw [h] <;> decide
  have hoff : m.phase.state ≠ .off := by rcases hphase with h | h <;> rw [h] <;> decide
  have hnheld : m.phase.state ≠ .held := by rcases hphase with h | h <;> rw [h] <;> decide
  have hentered : s.entered m = s.modLane m.lane (LaneState.enter m.phase .released) := by
    rw [State.entered, hreason]
    rfl
  have hgated : s.gated m = s.entered m := by
    unfold State.gated State.gateTransition
    dsimp only
    rw [hheld, hreason, if_neg hlocked, if_neg hoff]
    simp [hnheld]
  rw [State.applyMove_eq, State.entryCandidate_of_ne hlocked, hgated, hheld,
    State.marginTransition_idle (by decide) hlocked hoff hnheld, hentered, hreason]

/-- Released checkers change nothing but their lanes and the line. -/
theorem releases_frame {s : State} {ls : List Lane} (hls : ls.Nodup) {u : State}
    (hheld : ∀ l ∈ ls, (u.lane l).chkState = .held) :
    ((ls.map fun l => { lane := l, phase := (s.lane l).signalDecides, reason := .released }).foldl State.applyMove u).history =
        u.history ∧
      ((ls.map fun l => { lane := l, phase := (s.lane l).signalDecides, reason := .released }).foldl State.applyMove u).log =
        u.log ∧
      ((ls.map fun l => { lane := l, phase := (s.lane l).signalDecides, reason := .released }).foldl State.applyMove u).margin =
        u.margin ∧
      ∀ k, ((ls.map fun l => { lane := l, phase := (s.lane l).signalDecides, reason := .released }).foldl
        State.applyMove u).lane k = if k ∈ ls then (u.lane k).enter (s.lane k).signalDecides .released else u.lane k := by
  induction ls generalizing u with
  | nil => exact ⟨rfl, rfl, rfl, fun _ => rfl⟩
  | cons l ls ih =>
    obtain ⟨hl, hls⟩ := List.nodup_cons.1 hls
    have hphase : (s.lane l).signalDecides.state = .hunt ∨ (s.lane l).signalDecides.state = .noSignal := by
      rw [signalDecides_state]
      split
      · exact .inl rfl
      · exact .inr rfl
    have happly := State.applyMove_released (s := u) (m := { lane := l, phase := (s.lane l).signalDecides, reason := .released })
      (hheld l (List.mem_cons_self ..)) hphase rfl
    have hlane (k : Lane) : (u.applyMove { lane := l, phase := (s.lane l).signalDecides, reason := .released }).lane k =
        if l = k then (u.lane k).enter (s.lane l).signalDecides .released else u.lane k := by
      rw [happly, State.queueNotice_lane, State.modLane_lane]
    rw [List.map_cons, List.foldl_cons]
    obtain ⟨hhist, hlog, hmargin, hlanes⟩ := ih hls (u := u.applyMove _) fun k hk => by
      rw [hlane, if_neg fun h : l = k => hl (h ▸ hk)]
      exact hheld k (List.mem_cons_of_mem _ hk)
    refine ⟨hhist.trans (by rw [happly]; rfl), hlog.trans (by rw [happly]; rfl), hmargin.trans (by rw [happly]; rfl), fun k => ?_⟩
    rw [hlanes, hlane]
    by_cases hk : l = k
    · subst hk
      rw [if_neg hl, if_pos rfl, if_pos (List.mem_cons_self ..)]
    · rw [if_neg hk]
      simp only [List.mem_cons, Ne.symm hk, false_or]

theorem chkReleaseAct_of {s : State} {b : LaneSet} (hb : s.MayName b) :
    chkReleaseAct [b] s =
      if (lanesOf b).any fun l => (s.lane l).chkState != .held then (s, refuse .notHeld)
      else (s.transition (s.releaseMoves b), {
        status := .ok, fields := .chkRelease ((lanesOf b).map fun l => (l, (s.lane l).signalDecides.state)) }) :=
  (if_neg (Bool.eq_false_iff.1 hb.namesAbsent)).trans (if_neg hb.1)

/-- Settles O28. -/
theorem chkReleaseReleases : Obligations.ChkReleaseReleases := by
  intro s tag b ht hb
  have hact := chkReleaseAct_of (s := s.popRequest) hb
  refine ⟨fun ⟨l, hl, hne⟩ => ?_, fun hset hheld => ?_⟩
  · refine exec_own rfl rfl ht rfl (hact.trans (if_pos (List.any_eq_true.2 ⟨l, (mem_lanesOf b l).2 hl, ?_⟩)))
    exact bne_iff_ne.2 hne
  · have hall : ¬((lanesOf b).any fun l => (s.popRequest.lane l).chkState != .held) = true := fun h => by
      obtain ⟨l, hl, hne⟩ := List.any_eq_true.1 h
      exact bne_iff_ne.1 hne (hheld l ((mem_lanesOf b l).1 hl))
    have hheld' : ∀ l ∈ lanesOf b, (s.popRequest.lane l).chkState = .held := fun l hl => hheld l ((mem_lanesOf b l).1 hl)
    have hmoves : s.popRequest.transition (s.popRequest.releaseMoves b) =
        (s.popRequest.releaseMoves b).foldl State.applyMove s.popRequest := by
      refine transition_of_noExit hset fun m hm => .inl ?_
      obtain ⟨l, hl, rfl⟩ := List.mem_map.1 hm
      exact (hheld' l hl).trans_ne (by decide)
    obtain ⟨hhist, hlog, hmargin, hlanes⟩ := releases_frame (s := s.popRequest) (nodup_lanesOf b) hheld'
    have htouch := touches_release b s.popRequest
    have hnotice (l : Lane) (hl : l ∈ lanesOf b) := transition_announces_lock (s := s.popRequest)
      (nodup_releaseMoves s.popRequest b) (List.mem_map_of_mem (f := fun l => ({ lane := l, phase := (s.popRequest.lane l).signalDecides, reason := .released } : Move)) hl)
    refine ⟨_, exec_own rfl rfl ht rfl (hact.trans (if_neg hall)), ?_⟩
    rw [hmoves] at htouch hnotice ⊢
    have hshows := State.shows_replied 0x16 tag .ok
      (.chkRelease ((lanesOf b).map fun l => (l, (s.popRequest.lane l).signalDecides.state)))
      ((s.popRequest.releaseMoves b).foldl State.applyMove s.popRequest)
    refine ⟨((sameBase_popRequest s).trans htouch.sameBase).trans (sameBase_replied ..), hhist, hlog, hmargin,
      fun l hl => (hlanes l).trans (if_neg ?_), ?_, fun l hl => ⟨?_, fun hon => ?_⟩⟩
    · rw [mem_lanesOf, hl]
      exact Bool.false_ne_true
    · rw [State.replied_replies, htouch.queued.replies]
      simp only [signalDecides_state]
      rfl
    · exact (hlanes l).trans (if_pos ((mem_lanesOf b l).2 hl))
    · rw [hshows.announces, ← signalDecides_state]
      exact hnotice l ((mem_lanesOf b l).2 hl) hon

/-! ### The SD events (R34, R36) -/

/-- The lane with its SD input at a level. -/
def LaneState.withSd (level : Bool) (x : LaneState) : LaneState := { x with sd := level }

theorem State.signalLevel_same {s : State} {l : Lane} {level : Bool} (h : (s.lane l).sd = level) : s.signalLevel l level = s :=
  if_pos h

theorem State.signalLevel_loopback {s : State} {l : Lane} {level : Bool} (h : (s.lane l).sd ≠ level)
    (hloop : (s.lane l).loopback = true) : s.signalLevel l level = s.modLane l (LaneState.withSd level) :=
  (if_neg h).trans (if_pos hloop)

theorem State.signalLevel_event {s : State} {l : Lane} {level : Bool} (h : (s.lane l).sd ≠ level)
    (hloop : (s.lane l).loopback = false) : s.signalLevel l level =
      (s.modLane l (LaneState.withSd level)).transition (((s.lane l).withSd level).signalMove l).toList := by
  refine ((if_neg h).trans (if_neg (Bool.eq_false_iff.1 hloop))).trans ?_
  rw [State.modLane_lane_self]
  rfl

theorem LaneState.signal_withSd {x : LaneState} (level : Bool) (h : x.loopback = false) : (x.withSd level).signal = level :=
  if_neg (Bool.eq_false_iff.1 h)

/-- A lane whose SD input alone changed. -/
theorem State.modLane_withSd (s : State) (l : Lane) (level : Bool) :
    (s.modLane l (LaneState.withSd level)).lane l = (s.lane l).withSd level := State.modLane_lane_self ..

/-- What an SD event with a transition leaves of its lane, the margin unit and the line. -/
theorem withSd_transition (s : State) (level : Bool) (m : Move) {t : State}
    (ht : t = ((s.modLane m.lane (LaneState.withSd level)).transition [m]).pump) :
    (t.lane m.lane).sd = level ∧ (t.lane m.lane).chk = { (s.lane m.lane).chk with phase := m.phase } ∧
      t.margin = (s.marginTransition m.lane (s.lane m.lane).chkState m.phase.state).margin ∧
      (∀ f, m.reason.flag = some f → t.flagSet m.lane f = true) ∧
      (s.line.enabled.getLsbD 0 = true → t.line.Announces (.lock m.lane m.phase.state m.reason)) := by
  have hset := State.modLane_withSd s m.lane level
  obtain ⟨-, -, -, hsd, -⟩ := transition_sameSettings (nodup_one m) (mem_one m) (s.modLane m.lane (LaneState.withSd level))
  have hchk := transition_chk (nodup_one m) (mem_one m) (s.modLane m.lane (LaneState.withSd level))
  have hmargin := transition_margin (nodup_one m) (s.modLane m.lane (LaneState.withSd level))
  have hshows := State.shows_pump ((s.modLane m.lane (LaneState.withSd level)).transition [m])
  rw [hset] at hsd hchk
  rw [List.foldl_cons, List.foldl_nil, hset] at hmargin
  rw [← ht] at hshows
  rw [hshows.lane, hshows.announces]
  have hm : t.margin = _ := (congrArg State.margin ht).trans hmargin
  exact ⟨hsd, hchk, hm.trans (marginTransition_margin_congr (s := s.modLane m.lane (LaneState.withSd level)) (u := s) rfl
    m.lane (s.lane m.lane).chkState m.phase.state), fun f hf =>
    (hshows.flagSet m.lane f).trans (transition_flagSet (nodup_one m) (mem_one m) _ hf),
    fun hon => transition_announces_lock (nodup_one m) (mem_one m) hon⟩

theorem exec_signal (s : State) (l : Lane) (level : Bool) :
    exec (if level then .signalRise l else .signalFall l) s = .next (s.signalLevel l level).pump := by
  cases level <;> rfl

/-- Settles O29. -/
theorem signalEvents : Obligations.SignalEvents := by
  intro s l level
  have htouch : Touches (· = l) anyFlag s (s.signalLevel l level) := touches_signalLevel level s rfl trivial trivial
  refine ⟨_, exec_signal s l level, htouch.sameBase.trans (sameBase_pump _),
    htouch.otherLanesKept.shows (State.shows_pump _), ?_⟩
  by_cases hsd : (s.lane l).sd = level
  · rw [State.signalLevel_same hsd]
    refine ⟨hsd, fun _ => rfl, fun _ => rfl, fun h => absurd rfl h, fun _ => ?_, fun _ h => absurd hsd h,
      fun _ h => absurd hsd h⟩
    rw [← hsd]
    exact .refl _
  cases hloop : (s.lane l).loopback with
  | true =>
    rw [State.signalLevel_loopback hsd hloop]
    have hlane : (s.modLane l (LaneState.withSd level)).pump.lane l = (s.lane l).withSd level := State.modLane_withSd s l level
    rw [hlane]
    exact ⟨rfl, fun h => absurd h hsd, fun _ => rfl, fun h => absurd rfl h, fun _ => .refl _, nofun, nofun⟩
  | false =>
    have hsignal := LaneState.signal_withSd level hloop
    have hset := State.modLane_withSd s l level
    have hshows (ms : List Move) := State.shows_pump ((s.modLane l (LaneState.withSd level)).transition ms)
    rw [State.signalLevel_event hsd hloop]
    rcases ((s.lane l).withSd level).signalMove_cases l with ⟨hmove, hno, hlisten⟩ | ⟨hs, hc, hmove⟩ | ⟨hs, hc, hmove⟩
    · rw [hmove]
      have hkept := missed_transition_other (ms := []) (k := l) (fun _ h => by cases h) (s.modLane l (LaneState.withSd level))
      rw [hset] at hkept
      have hlane := hkept.sameButMissed
      refine ⟨hkept.sameSettings.2.2.2.1, fun h => absurd h hsd, fun _ => State.grant_margin _,
        fun h => absurd hkept.chkState h, fun _ => hlane, fun _ _ hup hc => ?_, fun _ _ hdown hc => ?_⟩
      · have := hsignal.symm.trans (hno hc)
        rw [hup] at this
        cases this
      · have := hsignal.symm.trans (hlisten (by rcases hc with h | h | h <;> exact h ▸ rfl))
        rw [hdown] at this
        cases this
    · obtain rfl : level = true := hsignal.symm.trans hs
      have hc' : (s.lane l).chkState = .noSignal := hc
      rw [hmove]
      generalize ht : ((s.modLane l (LaneState.withSd true)).transition (Option.toList (some ({ lane := l, phase := .hunt 0 0, reason := .signalUp } : Move)))).pump = t
      obtain ⟨hlevel, hchk, hmargin, -, hlock⟩ :=
        withSd_transition s true { lane := l, phase := .hunt 0 0, reason := .signalUp } ht.symm
      have hstate : (t.lane l).chkState = .hunt := congrArg (fun c : Checker => c.phase.state) hchk
      rw [hstate, hc']
      refine ⟨hlevel, fun h => absurd h hsd, fun h => (by cases h), fun _ => hc' ▸ hmargin, fun h => ?_,
        fun _ _ _ _ => ⟨hchk, hlock⟩, fun _ _ h => (by cases h)⟩
      simp at h
    · obtain rfl : level = false := hsignal.symm.trans hs
      have hc' : (s.lane l).chkState.listening = true := hc
      rw [hmove]
      generalize ht : ((s.modLane l (LaneState.withSd false)).transition (Option.toList (some ({ lane := l, phase := .noSignal, reason := .signal } : Move)))).pump = t
      obtain ⟨hlevel, hchk, hmargin, hflag, hlock⟩ :=
        withSd_transition s false { lane := l, phase := .noSignal, reason := .signal } ht.symm
      have hstate : (t.lane l).chkState = .noSignal := congrArg (fun c : Checker => c.phase.state) hchk
      rw [hstate]
      refine ⟨hlevel, fun h => absurd h hsd, fun h => absurd h.symm (listening_ne_noSignal hc'), fun _ => hmargin,
        fun h => ?_, fun _ _ h => (by cases h), fun _ _ _ _ => ⟨hchk, hflag _ rfl, hlock⟩⟩
      rcases h with h | h | h | ⟨h, -⟩ | ⟨-, h⟩
      · cases h
      · exact absurd h (listening_ne_off hc')
      · rw [h] at hc'
        cases hc'
      · cases h
      · exact absurd h (listening_ne_noSignal hc')

end Sys2Proof.Machine

/-! CHK_HOLD (O27, R44, R96, R97) and the lock losses by signal and by errors (O30, R96, R146, R147). -/

namespace Sys2Proof.Machine

/-! ### CHK_HOLD -/

/-- The set that names one lane alone. -/
theorem lanesOf_shiftLeft (l : Lane) : lanesOf (1#8 <<< l.val) = [l] := by
  revert l
  decide

section
variable {s : State} {b : LaneSet} {l : Lane}

theorem mem_holdMoves_of (hl : l ∈ lanesOf b) (hne : (s.lane l).chkState ≠ .held) :
    ({ lane := l, phase := .held, reason := .held } : Move) ∈ s.holdMoves b :=
  List.mem_map_of_mem (f := fun l => ({ lane := l, phase := .held, reason := .held } : Move))
    (List.mem_filter.2 ⟨hl, bne_iff_ne.2 hne⟩)

theorem holdMoves_other (hheld : (s.lane l).chkState = .held) : ∀ m ∈ s.holdMoves b, m.lane ≠ l := by
  intro m hm h
  obtain ⟨k, -, hne, rfl⟩ := mem_holdMoves hm
  exact hne ((congrArg (fun k => (s.lane k).chkState) h).trans hheld)

theorem holdMoves_single (hne : (s.lane l).chkState ≠ .held) :
    s.holdMoves (1#8 <<< l.val) = [{ lane := l, phase := .held, reason := .held }] := by
  have hone : [l].filter (fun l => (s.lane l).chkState != .held) = [l] :=
    List.filter_eq_self.2 fun k hk => bne_iff_ne.2 (List.mem_singleton.1 hk ▸ hne)
  rw [State.holdMoves, lanesOf_shiftLeft, hone]
  rfl

theorem phase_of_held {p : Phase} (h : p.state = .held) : p = .held := by
  cases p with
  | held => rfl
  | _ => cases h

/-- Every named checker is HELD, its settings kept. -/
theorem hold_lane (hl : l ∈ lanesOf b) :
    ((s.transition (s.holdMoves b)).lane l).chk.phase = .held ∧
      (s.lane l).SameSettings ((s.transition (s.holdMoves b)).lane l) := by
  by_cases hheld : (s.lane l).chkState = .held
  · have hkept := missed_transition_other (holdMoves_other (b := b) hheld) s
    exact ⟨hkept.chk ▸ phase_of_held hheld, hkept.sameSettings⟩
  · have hm := mem_holdMoves_of hl hheld
    refine ⟨?_, transition_sameSettings (nodup_holdMoves s b) hm s⟩
    exact congrArg Checker.phase (transition_chk (nodup_holdMoves s b) hm s)

/-- The margin unit meets the checkers that become HELD in ascending order of their lanes. -/
theorem hold_margin : (s.transition (s.holdMoves b)).margin = s.marginAfter (s.transition (s.holdMoves b)) b := by
  have hstate (l : Lane) (hl : l ∈ lanesOf b) : ((s.transition (s.holdMoves b)).lane l).chkState = .held :=
    congrArg Phase.state (hold_lane hl).1
  have hfilter : (lanesOf b).filter (fun l => ((s.transition (s.holdMoves b)).lane l).chkState != (s.lane l).chkState) =
      (lanesOf b).filter fun l => (s.lane l).chkState != .held := by
    refine List.filter_congr fun l hl => ?_
    rw [hstate l hl]
    exact bne_comm
  rw [transition_margin (nodup_holdMoves s b), State.marginAfter, hfilter]
  generalize s.transition (s.holdMoves b) = t at hstate
  rw [State.holdMoves, List.foldl_map]
  refine congrArg State.margin (List.foldl_ext _ _ _ fun u l hl => ?_)
  rw [hstate l (List.mem_of_mem_filter hl)]
  rfl

theorem hold_log (hset : s.log.Settled) (hnone : ∀ l ∈ lanesOf b, s.NoExit l) :
    (s.transition (s.holdMoves b)).log = s.log := by
  refine transition_log_of_noExit hset (fun m hm => ?_) fun m hm => ?_
  · obtain ⟨l, hl, -, rfl⟩ := mem_holdMoves hm
    exact hnone l hl
  · obtain ⟨l, -, -, rfl⟩ := mem_holdMoves hm
    exact fun h => by cases h

end

theorem chkHoldAct_of {s : State} {b : LaneSet} (hb : s.MayName b) :
    chkHoldAct [b] s =
      if (lanesOf b).any fun l => (s.lane l).chkState == .off then (s, refuse .laneOff)
      else (s.transition (s.holdMoves b), {
        status := .ok
        fields := .chkHold (s.namedWhere b fun x => x.chkState != .held) (s.namedWhere b fun x => x.chkState == .held) }) :=
  (if_neg (Bool.eq_false_iff.1 hb.namesAbsent)).trans (if_neg hb.1)

/-- What CHK_HOLD leaves of a named lane's gate, and the candidate of a lane named alone. -/
theorem hold_gate {s : State} {b : LaneSet} {l : Lane} (hl : l ∈ lanesOf b) :
    ((s.lane l).gate.state = .running → (s.lane l).chkState = .locked →
      (s.transition (s.holdMoves b)).LossTaken l (s.lane l).gate.counts .pause s.uptime ∧
        (b = 1#8 <<< l.val → s.log.lanes[l].RaisesLock →
          s.Offered (s.transition (s.holdMoves b)) l (s.lockCandidateNow l (.lockLost .held .held)))) ∧
    ((s.lane l).gate.state = .running → (s.lane l).chkState ≠ .locked → (s.lane l).chkState ≠ .held →
      ((s.transition (s.holdMoves b)).lane l).gate.state = .paused ∧
        ((s.transition (s.holdMoves b)).lane l).gate.counts = (s.lane l).gate.counts) ∧
    ((s.lane l).gate.state ≠ .running →
      ((s.transition (s.holdMoves b)).lane l).gate.state = (s.lane l).gate.state ∧
        ((s.transition (s.holdMoves b)).lane l).gate.counts = (s.lane l).gate.counts) := by
  refine ⟨fun hrun hlocked => ?_, fun hrun hnlocked hnheld => ?_, fun hrun => ?_⟩
  · have hne : (s.lane l).chkState ≠ .held := hlocked.trans_ne (by decide)
    refine ⟨lossTaken_transition (nodup_holdMoves s b) (mem_holdMoves_of hl hne) nofun nofun hrun hlocked (.inr (.inr rfl)) rfl,
      fun hb hraises => ?_⟩
    subst hb
    rw [holdMoves_single hne]
    exact offered_transition_one (m := { lane := l, phase := .held, reason := .held }) nofun hlocked hrun hraises
  · obtain ⟨x, hx, hmove⟩ := missed_transition (nodup_holdMoves s b) (mem_holdMoves_of hl hnheld) s
    obtain ⟨hstate, hcounts⟩ := LaneState.move_of_held (x := x) (m := { lane := l, phase := .held, reason := .held })
      (now := s.uptime) rfl (hx.state.trans hrun) (hx.chkState.trans_ne hnlocked)
    exact ⟨hmove.state.trans hstate, (hmove.counts.trans hcounts).trans hx.counts⟩
  · by_cases hheld : (s.lane l).chkState = .held
    · have hkept := missed_transition_other (holdMoves_other (b := b) hheld) s
      exact ⟨hkept.state, hkept.counts⟩
    · obtain ⟨hstate, hcounts, -⟩ := transition_gate_kept (nodup_holdMoves s b) (mem_holdMoves_of hl hheld) nofun nofun
        (.inl hrun)
      exact ⟨hstate, hcounts⟩

/-- The margin unit depends on itself alone in what it meets. -/
theorem marginFold_congr {u w : State} (h : u.margin = w.margin) (left entered : Lane → CheckerState) (ls : List Lane) :
    (ls.foldl (fun u l => u.marginTransition l (left l) (entered l)) u).margin =
      (ls.foldl (fun u l => u.marginTransition l (left l) (entered l)) w).margin := by
  induction ls generalizing u w with
  | nil => exact h
  | cons l ls ih => exact ih (marginTransition_margin_congr h ..)

theorem State.OtherLanesKept.of_mem {s t : State} {b : LaneSet} (h : s.OtherLanesKept t (· ∈ lanesOf b)) :
    s.OtherLanesKept t fun l => b.getLsbD l.val = true :=
  fun k hk => h k fun hmem => hk ((mem_lanesOf b k).1 hmem)

/-- Settles O27. -/
theorem chkHoldHolds : Obligations.ChkHoldHolds := by
  intro s tag b ht hb
  have hact := chkHoldAct_of (s := s.popRequest) hb
  refine ⟨fun ⟨l, hl, hoff⟩ => ?_, fun hon => ?_⟩
  · refine exec_own rfl rfl ht rfl (hact.trans (if_pos (List.any_eq_true.2 ⟨l, (mem_lanesOf b l).2 hl, ?_⟩)))
    exact beq_iff_eq.2 hoff
  · have hnone : ¬((lanesOf b).any fun l => (s.popRequest.lane l).chkState == .off) = true := fun h => by
      obtain ⟨l, hl, hoff⟩ := List.any_eq_true.1 h
      exact hon l ((mem_lanesOf b l).1 hl) (beq_iff_eq.1 hoff)
    have htouch := touches_hold b s.popRequest
    have hlane (l : Lane) (hl : l ∈ lanesOf b) := hold_lane (s := s.popRequest) hl
    have hgate (l : Lane) (hl : l ∈ lanesOf b) := hold_gate (s := s.popRequest) hl
    have hmargin := hold_margin (s := s.popRequest) (b := b)
    have hlog := hold_log (s := s.popRequest) (b := b)
    have hlock (l : Lane) (hl : l ∈ lanesOf b) (hne : (s.popRequest.lane l).chkState ≠ .held) :=
      transition_announces_lock (s := s.popRequest) (nodup_holdMoves s.popRequest b) (mem_holdMoves_of hl hne)
    have hexec := exec_own (i := .chkHold (own tag [b])) rfl rfl ht rfl (hact.trans (if_neg hnone))
    have hshows := State.shows_replied 0x15 tag .ok (.chkHold (s.popRequest.namedWhere b fun x => x.chkState != .held)
      (s.popRequest.namedWhere b fun x => x.chkState == .held)) (s.popRequest.transition (s.popRequest.holdMoves b))
    have hreplies := State.replied_replies 0x15 tag .ok (.chkHold (s.popRequest.namedWhere b fun x => x.chkState != .held)
      (s.popRequest.namedWhere b fun x => x.chkState == .held)) (s.popRequest.transition (s.popRequest.holdMoves b))
    have hbase := htouch.sameBase.trans (sameBase_replied 0x15 tag .ok
      (.chkHold (s.popRequest.namedWhere b fun x => x.chkState != .held)
        (s.popRequest.namedWhere b fun x => x.chkState == .held)) _)
    generalize s.popRequest.transition (s.popRequest.holdMoves b) = u at *
    generalize u.replied 0x15 tag .ok (.chkHold (s.popRequest.namedWhere b fun x => x.chkState != .held)
        (s.popRequest.namedWhere b fun x => x.chkState == .held)) = t at *
    refine ⟨t, _, _, hexec, (sameBase_popRequest s).trans hbase, htouch.otherLanesKept.of_mem.shows hshows,
      hreplies.trans (by rw [htouch.queued.replies]; rfl), fun l => ⟨?_, ?_⟩, ?_, fun hset hno => ?_, fun l hl => ?_⟩
    · rw [State.getLsbD_namedWhere, Bool.and_eq_true, bne_iff_ne]
      rfl
    · rw [State.getLsbD_namedWhere, Bool.and_eq_true, beq_iff_eq]
      rfl
    · refine (hshows.margin.trans hmargin).trans ?_
      unfold State.marginAfter
      simp only [hshows.lane]
      exact marginFold_congr (u := s.popRequest) (w := s) rfl (fun l => (s.lane l).chkState) (fun l => (u.lane l).chkState) _
    · exact (hshows.log.trans (hlog hset fun l hl => hno l ((mem_lanesOf b l).1 hl)))
    · have hl' := (mem_lanesOf b l).2 hl
      obtain ⟨hphase, hsettings⟩ := hlane l hl'
      obtain ⟨hloss, hpause, hstay⟩ := hgate l hl'
      rw [hshows.lane, hshows.announces]
      refine ⟨hphase, hsettings, fun f hmiss hsat => ?_, hlock l hl', fun hrun hlocked => ?_, hpause, hstay⟩
      · exact (hshows.flagSet l f).trans (htouch.flagSet hmiss fun h => hsat h.2)
      · obtain ⟨htaken, hoffer⟩ := hloss hrun hlocked
        exact ⟨htaken.shows hshows, fun hb hraises => (hoffer hb hraises).shows hshows⟩

end Sys2Proof.Machine

/-! Lock losses (O30): by signal, and by errors at a locked word. -/

namespace Sys2Proof.Machine

/-! ### One exit from LOCKED (R96, R146, R147) -/

theorem LaneState.finishGate_missed (l : Lane) (r : EndReason) (now : Nat) (x : LaneState) :
    (x.finishGate l r now).gate.counters.missed = x.gate.counters.missed := rfl

/-- No transition counts captures missed, but through a candidate (R147). -/
theorem LaneState.move_missed (m : Move) (now : Nat) (x : LaneState) :
    (x.move m now).gate.counters.missed = x.gate.counters.missed := by
  have hclose := (LaneState.closeOnExit_gate x.chkState (x.enter m.phase m.reason)).2.2.2.2
  unfold LaneState.move LaneState.meetTransition
  split
  · rfl
  · split
    · unfold LaneState.endIfActive
      split
      · exact hclose
      · exact hclose
    · split
      · split
        · exact (LaneState.lockLoss_missed ..).trans hclose
        · split
          · exact hclose
          · exact hclose
      · exact hclose

section
variable {s : State} {m : Move}

theorem transition_one (s : State) (m : Move) : s.transition [m] = ((s.exitCandidate m).grant).applyMove m := rfl

/-- A lock loss whose candidate is lost counts one capture missed (R147, R150). -/
theorem missed_of_lost_transition (hne : m.phase.state ≠ .locked) (hleft : (s.lane m.lane).chkState = .locked)
    (hrun : (s.lane m.lane).gate.state = .running) (hraises : s.log.lanes[m.lane].RaisesLock)
    (hlost : s.log.LosesCandidate m.lane) (hmax : (s.lane m.lane).gate.counters.missed < 2 ^ 32 - 1) :
    ((s.transition [m]).lane m.lane).gate.counters.missed = (s.lane m.lane).gate.counters.missed + 1 := by
  rw [transition_one, State.exitCandidate_of_raises hleft hrun hraises, State.applyMove_lane_of_ne hne, if_pos rfl,
    LaneState.move_missed, State.missed_of_lost hlost]
  exact Gate.addMissed_missed (by rw [hrun]; rfl) hmax

/-- A lock loss whose candidate is taken, its log having no other, counts no capture missed. -/
theorem missed_of_taken_transition (hne : m.phase.state ≠ .locked) (hleft : (s.lane m.lane).chkState = .locked)
    (hrun : (s.lane m.lane).gate.state = .running) (hraises : s.log.lanes[m.lane].RaisesLock)
    (hempty : ∀ k : Lane, s.log.lanes[k].slot = none) (hport : s.log.port = .free)
    (hroom : s.log.full = .ring ∨ s.log.records.length < 512) :
    ((s.transition [m]).lane m.lane).gate.counters.missed = (s.lane m.lane).gate.counters.missed := by
  have hfill (c : Candidate) : s.offerLock m.lane c = s.fillSlot m.lane c :=
    if_neg (State.fillSlot_of_slotFull (hempty m.lane))
  rw [transition_one, State.exitCandidate_of_raises hleft hrun hraises, State.applyMove_lane_of_ne hne, if_pos rfl,
    LaneState.move_missed, hfill, State.grant_fillSlot_write hempty hport hroom]
  rfl

end

/-- A lock loss by signal (R36, R96, R146). -/
theorem lockLoss_by_signal {s : State} {l : Lane} {cfg : GateSettings}
    (hcfg : (s.lane l).gate.state = .running → (s.lane l).gate.settings = some cfg)
    (hlocked : (s.lane l).chkState = .locked) {t : State}
    (ht : t = ((s.modLane l (LaneState.withSd false)).transition [{ lane := l, phase := .noSignal, reason := .signal }]).pump) :
    ((s.lane l).gate.state ≠ .running → (t.lane l).gate.state = (s.lane l).gate.state ∧
      (t.lane l).gate.counts = (s.lane l).gate.counts ∧ (t.lane l).gate.result = (s.lane l).gate.result) ∧
    ((s.lane l).gate.state = .running → t.LossTaken l (s.lane l).gate.counts cfg.policy s.uptime) ∧
    ((s.lane l).gate.state = .running → s.log.lanes[l].RaisesLock →
      s.Offered t l (s.lockCandidateNow l (.lockLost .noSignal .signal)) ∧
      (s.log.LosesCandidate l → (s.lane l).gate.counters.missed < 2 ^ 32 - 1 →
        (t.lane l).gate.counters.missed = (s.lane l).gate.counters.missed + 1)) ∧
    (s.log.Settled → (s.lane l).gate.state ≠ .running ∨ ¬s.log.lanes[l].RaisesLock → t.log = s.log) := by
  have hset := State.modLane_withSd s l false
  have hgate : ((s.modLane l (LaneState.withSd false)).lane l).gate = (s.lane l).gate := by
    rw [hset]
    rfl
  have hleft : ((s.modLane l (LaneState.withSd false)).lane l).chkState = .locked := by
    rw [hset]
    exact hlocked
  have hone := nodup_one { lane := l, phase := .noSignal, reason := .signal }
  have hmem := mem_one { lane := l, phase := .noSignal, reason := .signal }
  have hlog : (s.modLane l (LaneState.withSd false)).log = s.log := rfl
  have huptime : (s.modLane l (LaneState.withSd false)).uptime = s.uptime := rfl
  have hline : (s.modLane l (LaneState.withSd false)).line = s.line := rfl
  have hshows := State.shows_pump ((s.modLane l (LaneState.withSd false)).transition
    [{ lane := l, phase := .noSignal, reason := .signal }])
  rw [← ht] at hshows
  clear ht
  generalize s.modLane l (LaneState.withSd false) = v at *
  rw [← hgate, ← huptime]
  refine ⟨fun hrun => ?_, fun hrun => ?_, fun hrun hraises => ⟨?_, fun hlost hmax => ?_⟩, fun hsettled hno => ?_⟩
  · rw [hshows.lane]
    exact transition_gate_kept hone hmem nofun nofun (.inl hrun)
  · refine State.LossTaken.shows ?_ hshows
    refine lossTaken_transition hone hmem nofun nofun hrun hleft (.inr (.inl rfl)) ?_
    rw [if_neg nofun, Gate.config_of (hgate ▸ hcfg (hgate ▸ hrun))]
  · have hoffered := offered_transition_one (m := { lane := l, phase := .noSignal, reason := .signal }) nofun hleft hrun
      (by rw [hlog]; exact hraises)
    have hcand : v.lockCandidateNow l (.lockLost .noSignal .signal) = s.lockCandidateNow l (.lockLost .noSignal .signal) := by
      rw [State.lockCandidateNow, hgate]
      rfl
    exact State.Offered.shows (hcand ▸ hoffered.congr hlog (hline ▸ .refl _) rfl id (.refl _)) hshows
  · rw [hshows.lane]
    exact missed_of_lost_transition (m := { lane := l, phase := .noSignal, reason := .signal }) nofun hleft hrun
      (by rw [hlog]; exact hraises) (by rw [hlog]; exact hlost) hmax
  · rw [hshows.log, ← hlog]
    refine transition_log_of_noExit (hlog ▸ hsettled) (fun m hm => ?_) fun m hm => ?_
    · rw [List.mem_singleton.1 hm]
      refine .inr (hno.imp id ?_)
      rw [hlog]
      exact id
    · rw [List.mem_singleton.1 hm]
      exact nofun

end Sys2Proof.Machine
/-! A word at a locked checker: what it is compared with, what accounting and the margin point meet (R41, R42, R49, R59),
and the lock loss it may bring. -/

namespace Sys2Proof.Machine

/-! ### The word (R41, R42) -/

/-- A word compared at a locked checker: the place in the pattern, the 15 expected bits before it, the loss block so far,
the word at the input and the path after it. -/
structure LockedWord where
  src : Source
  last : BitVec 15
  bits : Nat
  errors : Nat
  word : Word
  rest : List Bool

section
variable (s : State) (l : Lane) (q : LockedWord)

/-- The checker of the lane is locked, and this word stands at its input. -/
structure State.Compares (rx : Reception) : Prop where
  phase : (s.lane l).chk.phase = .locked q.src q.last q.bits q.errors
  input : (s.lane l).inputWord rx = some (q.word, q.rest)

/-- The word expected, and the place after it. -/
def State.nextWord : Word × Source := s.store.takeWord (s.lane l).chk.config.pattern q.src

/-- The word received, in the pattern sense. -/
def State.senseOf : Word := (s.lane l).chk.config.polarity.word q.word

/-- The word result. -/
def State.judged : WordResult := resultOf (s.lane l) l q.last (s.nextWord l q).1 (s.senseOf l q)

/-- The word's tally, at a RUNNING gate. -/
def State.wordTally : Tally :=
  tallyOf s.filters s.log.lanes[l] (s.lane l) l q.last (s.nextWord l q).1 (s.senseOf l q)

/-- The phase after the word, if no loss is declared. -/
def State.lossPhase : Phase :=
  lossBlock (s.lane l).chk.config (s.nextWord l q).2 (lastBits (s.nextWord l q).1) (q.bits + 32)
    (q.errors + (s.judged l q).bits.length)

/-- The state in which accounting meets the word. -/
def State.taken : State := s.modLane l (LaneState.takeInput q.rest (s.lossPhase l q))

/-- The state in which the margin point meets the word. -/
def State.accounted : State := (s.taken l q).account l q.last (s.judged l q)

/-- The margin-sampled bits in error. -/
def State.sampledErrors (above : List Bool) : Nat :=
  popCount ((s.nextWord l q).1 ^^^ (s.lane l).chk.config.polarity.word (s.sampledWord l above q.word))

/-- The state in which a loss may be declared. -/
def State.met (above : List Bool) : State := (s.accounted l q).dwellWord l (s.sampledErrors l q above)

/-- The word ends with more errors in the loss block than the threshold (R42). -/
def State.Loses : Prop := (s.lane l).chk.config.t < q.errors + (s.judged l q).bits.length

end

section
variable {s : State} {l : Lane} {q : LockedWord} {rx : Reception}

theorem State.Compares.lockedWord_loss (h : s.Compares l q rx) (hloss : s.Loses l q) (above : List Bool) (written : Bool) :
    s.lockedWord l rx above written = (s.met l q above).declareLoss l written := by
  simp only [State.lockedWord, h.phase, h.input]
  exact if_pos hloss

theorem State.Compares.lockedWord_kept (h : s.Compares l q rx) (hloss : ¬s.Loses l q) (above : List Bool) (written : Bool) :
    s.lockedWord l rx above written = s.met l q above := by
  simp only [State.lockedWord, h.phase, h.input]
  exact if_neg hloss

theorem State.Compares.chkState (h : s.Compares l q rx) : (s.lane l).chkState = .locked := Machine.chkState_eq h.phase

theorem State.length_judged :
    (s.judged l q).bits.length = ((List.range 32).filter fun i => (s.nextWord l q).1.getMsbD i != (s.senseOf l q).getMsbD i).length :=
  length_errorsOf ..

/-! ### Accounting (R58, R59, R70, R98) -/

theorem State.taken_lane (k : Lane) : (s.taken l q).lane k = if l = k then (s.lane k).takeInput q.rest (s.lossPhase l q)
    else s.lane k := State.modLane_lane ..

theorem State.taken_self : (s.taken l q).lane l = (s.lane l).takeInput q.rest (s.lossPhase l q) := State.modLane_lane_self ..

/-- A word is counted by a RUNNING gate alone, and whole or not at all (R58, R59, R70). -/
theorem State.accounted_eq : s.accounted l q =
    if (s.lane l).gate.state = .running then
      (if ((s.lane l).gate.counters.add (s.wordTally l q).inc).withinMax then (s.taken l q).acceptTally l (s.wordTally l q)
       else (s.taken l q).saturateGate l)
    else s.taken l q := by
  unfold State.accounted State.account
  dsimp only
  rw [State.taken_self]
  rfl

/-- The state after an accepted tally has met counters and slot, and before it meets the limits. -/
def State.counted (l : Lane) (t : Tally) (s : State) : State :=
  match t.candidate with
  | some cand => ((s.modLane l (LaneState.takeTally t)).offerTally l cand).grant
  | none => s.modLane l (LaneState.takeTally t)

theorem State.counted_some {t : Tally} {cand : Candidate} (h : t.candidate = some cand) :
    s.counted l t = ((s.modLane l (LaneState.takeTally t)).offerTally l cand).grant := by
  simp only [State.counted, h]

theorem State.counted_none {t : Tally} (h : t.candidate = none) : s.counted l t = s.modLane l (LaneState.takeTally t) := by
  simp only [State.counted, h]

theorem State.acceptTally_eq (t : Tally) : s.acceptTally l t = (s.counted l t).testLimits l := by
  unfold State.acceptTally
  cases h : t.candidate with
  | none => rw [State.counted_none h]
  | some cand => rw [State.counted_some h]

theorem State.missed_counted (t : Tally) : ((s.lane l).takeTally t).Missed ((s.counted l t).lane l) := by
  rw [← State.modLane_lane_self (f := LaneState.takeTally t) (l := l) (s := s)]
  cases h : t.candidate with
  | none =>
    rw [State.counted_none h]
    exact .refl _
  | some cand =>
    rw [State.counted_some h, ← State.offerTally_lane l l cand]
    exact missed_grant ..

/-- The gate stays below its error and bit limits with these counters (R98). -/
def Gate.Below (g : Gate) (errors bits : Nat) : Prop :=
  (g.config.errorLimit = 0 ∨ errors < g.config.errorLimit) ∧ (g.config.bitLimit = 0 ∨ bits < g.config.bitLimit)

theorem State.testLimits_below (h : (s.lane l).gate.Below (s.lane l).gate.counters.errors (s.lane l).gate.counters.bits) :
    s.testLimits l = s := by
  obtain ⟨herr, hbit⟩ := h
  unfold State.testLimits
  dsimp only
  rw [if_neg fun h => herr.elim h.1 (Nat.not_lt.2 h.2), if_neg fun h => hbit.elim h.1 (Nat.not_lt.2 h.2)]

theorem LaneState.Missed.below {x y : LaneState} (h : x.Missed y)
    (hb : x.gate.Below x.gate.counters.errors x.gate.counters.bits) :
    y.gate.Below y.gate.counters.errors y.gate.counters.bits := by
  obtain ⟨⟨n, rfl⟩, -⟩ := h
  exact hb

/-- An accepted word that reaches no limit. -/
theorem State.accounted_below (hrun : (s.lane l).gate.state = .running)
    (hmax : ((s.lane l).gate.counters.add (s.wordTally l q).inc).withinMax = true)
    (hb : (s.lane l).gate.Below ((s.lane l).gate.counters.errors + (s.wordTally l q).inc.errors)
      ((s.lane l).gate.counters.bits + 32)) :
    s.accounted l q = (s.taken l q).counted l (s.wordTally l q) := by
  rw [State.accounted_eq, if_pos hrun, if_pos hmax, State.acceptTally_eq]
  refine State.testLimits_below ((State.missed_counted _).below ?_)
  rw [State.taken_self]
  exact hb

/-- What the word leaves of its lane, but for captures missed: an accepted tally that reaches no limit. -/
theorem State.missed_below (hrun : (s.lane l).gate.state = .running)
    (hmax : ((s.lane l).gate.counters.add (s.wordTally l q).inc).withinMax = true)
    (hb : (s.lane l).gate.Below ((s.lane l).gate.counters.errors + (s.wordTally l q).inc.errors)
      ((s.lane l).gate.counters.bits + 32)) :
    (((s.lane l).takeInput q.rest (s.lossPhase l q)).takeTally (s.wordTally l q)).Missed ((s.accounted l q).lane l) := by
  rw [State.accounted_below hrun hmax hb, ← State.taken_self]
  exact State.missed_counted _

theorem State.met_lane (above : List Bool) (k : Lane) : (s.met l q above).lane k = (s.accounted l q).lane k :=
  State.dwellWord_lane ..

theorem State.met_log (above : List Bool) : (s.met l q above).log = (s.accounted l q).log := State.dwellWord_log ..

theorem touches_taken : Touches (· = l) (fun _ _ => False) s (s.taken l q) := touches_modLane _ s rfl fun _ => ⟨rfl, rfl⟩

theorem touches_accounted : Touches (· = l) (fun _ f => f = .saturated) s (s.accounted l q) :=
  (touches_taken.mono (fun _ h => h) fun _ _ => False.elim).trans (touches_account q.last _ rfl rfl rfl)

theorem touches_met (above : List Bool) : Touches (· = l) (fun _ f => f = .saturated) s (s.met l q above) :=
  touches_accounted.trans (touches_dwellWord ..)

/-- The checker and the path after the word. -/
theorem State.onlyGate_met (above : List Bool) :
    ((s.lane l).takeInput q.rest (s.lossPhase l q)).OnlyGate ((s.met l q above).lane l) := by
  rw [State.met_lane, ← State.taken_self]
  exact account_onlyGate ..

theorem State.met_chk (above : List Bool) :
    ((s.met l q above).lane l).chk = { (s.lane l).chk with phase := s.lossPhase l q } :=
  congrArg LaneState.chk (State.onlyGate_met (s := s) (l := l) (q := q) above)

theorem State.met_chkState (above : List Bool) : ((s.met l q above).lane l).chkState = .locked := by
  rw [LaneState.chkState, State.met_chk]
  exact lossBlock_state ..

theorem State.met_path (above : List Bool) : ((s.met l q above).lane l).path = q.rest :=
  congrArg LaneState.path (State.onlyGate_met (s := s) (l := l) (q := q) above)

end

/-! ### The word's candidate, and the loss's after it (R73, R146, R147) -/

/-- The capture lane may hold another candidate; its settings and quota count are the same. -/
def CaptureLane.SameButSlot (c d : CaptureLane) : Prop := ∃ o, d = { c with slot := o }

theorem CaptureLane.SameButSlot.refl (c : CaptureLane) : c.SameButSlot c := ⟨c.slot, rfl⟩

theorem CaptureLane.SameButSlot.trans {c d e : CaptureLane} (h : c.SameButSlot d) (h' : d.SameButSlot e) :
    c.SameButSlot e := by
  obtain ⟨o, rfl⟩ := h
  obtain ⟨o', rfl⟩ := h'
  exact ⟨o', rfl⟩

theorem CaptureLane.SameButSlot.raisesLock {c d : CaptureLane} (h : c.SameButSlot d) (hc : c.RaisesLock) :
    d.RaisesLock := by
  obtain ⟨o, rfl⟩ := h
  exact hc

theorem State.grantTo_sameButSlot (l k : Lane) (s : State) : s.log.lanes[k].SameButSlot (s.grantTo l).log.lanes[k] := by
  rw [State.grantTo_log]
  split
  · rw [CaptureLog.set_lane]
    split
    · next h =>
      subst h
      exact ⟨_, rfl⟩
    · exact .refl _
  · exact .refl _

theorem State.grantTo_fullMark {l : Lane} {s : State} (h : s.log.fullMark = true) : (s.grantTo l).log.fullMark = true := by
  rw [State.grantTo_log]
  split
  · rfl
  · exact h

theorem State.grant_sameButSlot (k : Lane) (s : State) : s.log.lanes[k].SameButSlot s.grant.log.lanes[k] := by
  suffices h : ∀ n (s : State), s.log.lanes[k].SameButSlot (s.grantRounds n).log.lanes[k] from h 8 s
  intro n
  induction n with
  | zero => exact fun _ => .refl _
  | succ n ih =>
    intro s
    rw [State.grantRounds]
    split
    · exact (State.grantTo_sameButSlot ..).trans (ih _)
    · exact .refl _

theorem State.queued_grantTo_marked {l : Lane} {s : State} (h : s.log.fullMark = true) :
    s.line.Queued Notice.notLog (s.grantTo l).line := by
  unfold State.grantTo State.discard
  dsimp only
  split
  · split
    · exact queued_setFlag_of Notice.notLog_alarm ..
    · next hmark => exact absurd h hmark
  · exact .refl _

/-- While the full mark stands, no grant queues a LOG notice (R150). -/
theorem State.queued_grant_marked {s : State} (h : s.log.fullMark = true) : s.line.Queued Notice.notLog s.grant.line := by
  suffices hn : ∀ n (s : State), s.log.fullMark = true → s.line.Queued Notice.notLog (s.grantRounds n).line from hn 8 s h
  intro n
  induction n with
  | zero => exact fun _ _ => .refl _
  | succ n ih =>
    intro s hs
    rw [State.grantRounds]
    split
    · next l _ _ =>
      exact (State.queued_grantTo_marked hs).trans (ih _ (State.grantTo_fullMark hs))
    · exact .refl _

section
variable {s u t : State} {l : Lane} {cand next : Candidate}

theorem State.offerLock_fullMark (h : s.log.fullMark = true) : (s.offerLock l cand).log.fullMark = true := by
  unfold State.offerLock
  split
  · exact h
  · exact h

theorem State.queued_transition_marked {m : Move} (hne : m.phase.state ≠ .locked) (h : s.log.fullMark = true) :
    s.line.Queued Notice.notLog (s.transition [m]).line := by
  have hexit : (s.exitCandidate m).log.fullMark = true ∧ s.line.Queued Notice.notLog (s.exitCandidate m).line := by
    unfold State.exitCandidate
    dsimp only
    split
    · exact ⟨State.offerLock_fullMark h, queued_offerLock Notice.notLog_alarm ..⟩
    · exact ⟨h, .refl _⟩
  exact (hexit.2.trans (State.queued_grant_marked hexit.1)).trans (queued_applyMove_of_ne hne _)

/-- A second candidate of the lane, offered after the first, changes nothing of what became of the first. -/
theorem State.Offered.again (h : s.Offered u l cand) (h' : u.Offered t l next)
    (hmono : u.flagSet l .captureMissed = true → t.flagSet l .captureMissed = true)
    (hmarked : u.log.fullMark = true → u.line.Queued Notice.notLog t.line) : s.Offered t l cand := by
  obtain ⟨htake, hwrite, hlose, hdrop⟩ := h
  obtain ⟨-, -, hlose', hdrop'⟩ := h'
  have hslot (log : CaptureLog) : (log.lanes.set l { log.lanes[l] with slot := some cand })[l].slot = some cand := by
    rw [CaptureLog.set_lane, if_pos rfl]
  refine ⟨fun hempty hport => ?_, fun hempty hport hroom => ?_, fun hempty hport hstop hlen => ?_, fun old hold hport => ?_⟩
  · have hu := htake hempty hport
    exact (hdrop' cand (by rw [hu, hslot]) (by rw [hu]; exact hport)).1.trans hu
  · have hu := hwrite hempty hport hroom
    exact (hdrop' cand (by rw [hu, hslot]) (by rw [hu]; nofun)).1.trans hu
  · obtain ⟨hu, hflag, hfull⟩ := hlose hempty hport hstop hlen
    have hmark : u.log.fullMark = true := by rw [hu]
    obtain ⟨ht, -, -⟩ := hlose' (by rw [hu]; exact hempty) (by rw [hu]; exact hport) (by rw [hu]; exact hstop)
      (by rw [hu]; exact hlen)
    refine ⟨by rw [ht, hu], hmono hflag, fun r hr => ⟨fun hfresh hon => ?_, fun hold n k hann => ?_⟩⟩
    · exact (hmarked hmark).announces (fun _ hn => not_sameKey_of_kind (Ne.symm hn)) ((hfull r hr).1 hfresh hon)
    · exact (hfull r hr).2 hold n k ((hmarked hmark).announces_before hann fun hn => hn rfl)
  · obtain ⟨hu, hflag⟩ := hdrop old hold hport
    exact ⟨(hdrop' old (by rw [hu]; exact hold) (by rw [hu]; exact hport)).1.trans hu, hmono hflag⟩

end

end Sys2Proof.Machine
/-! A lock loss by errors at a locked word (O30, R73, R96, R146, R147). -/

namespace Sys2Proof.Machine

/-- The transition of a loss (R42). -/
def lossMove (l : Lane) : Move := { lane := l, phase := .hunt 0 0, reason := .errors }

theorem State.declareLoss_eq (l : Lane) (written : Bool) (s : State) :
    s.declareLoss l written = (if written then s.writeCompletion else s).transition [lossMove l] := rfl

/-- The candidate of a loss at a word that the lane's gate has counted (R146). -/
def LaneState.lossCandidate (l : Lane) (x : LaneState) : Candidate :=
  { lane := l, elapsed := x.gate.counts.elapsed, bits := x.gate.counters.bits + 32, body := .lockLost .hunt .errors }

/-- Lane `l`, as it stands at `u`, is locked, and its gate, RUNNING at `s`, has counted one word more and runs on. -/
structure State.RunsOn (s u : State) (l : Lane) : Prop where
  chkState : (u.lane l).chkState = .locked
  state : (u.lane l).gate.state = .running
  counts : (u.lane l).gate.counts = (s.lane l).gate.counts
  config : (u.lane l).gate.config = (s.lane l).gate.config
  bits : (u.lane l).gate.counters.bits = (s.lane l).gate.counters.bits + 32
  uptime : u.uptime = s.uptime

section
variable {s u : State} {l : Lane} {q : LockedWord} {rx : Reception} {above : List Bool}

theorem State.RunsOn.missed (h : s.RunsOn u l) {v : State} (hv : (u.lane l).Missed (v.lane l)) (hup : v.uptime = u.uptime) :
    s.RunsOn v l := by
  obtain ⟨hchk, hstate, hcounts, hconfig, hbits, huptime⟩ := h
  refine ⟨hv.chkState.trans hchk, hv.state.trans hstate, hv.counts.trans hcounts, hv.config.trans hconfig, ?_,
    hup.trans huptime⟩
  obtain ⟨⟨n, hn⟩, -⟩ := hv
  rw [hn]
  exact hbits

theorem State.RunsOn.written (h : s.RunsOn u l) : s.RunsOn u.writeCompletion l :=
  h.missed (missed_writeCompletion l u)
    (touches_writeCompletion (L := fun _ => False) (F := fun _ _ => False) u).sameBase.uptime

theorem State.RunsOn.lossTaken (h : s.RunsOn u l) :
    (u.transition [lossMove l]).LossTaken l (s.lane l).gate.counts (s.lane l).gate.config.policy s.uptime := by
  rw [← h.counts, ← h.uptime, ← h.config]
  exact lossTaken_transition (nodup_one _) (mem_one (lossMove l)) nofun nofun h.state h.chkState (.inl rfl)
    (if_neg nofun).symm

theorem State.RunsOn.offered (h : s.RunsOn u l) (hraises : u.log.lanes[l].RaisesLock) :
    u.Offered (u.transition [lossMove l]) l ((s.lane l).lossCandidate l) := by
  have hoffered := offered_transition_one (m := lossMove l) nofun h.chkState h.state hraises
  rw [State.lockCandidateNow, show (lossMove l).lane = l from rfl, h.counts, h.bits] at hoffered
  exact hoffered

theorem State.RunsOn.missed_of_lost (h : s.RunsOn u l) (hraises : u.log.lanes[l].RaisesLock) (hlost : u.log.LosesCandidate l)
    (hmax : (u.lane l).gate.counters.missed < 2 ^ 32 - 1) :
    ((u.transition [lossMove l]).lane l).gate.counters.missed = (u.lane l).gate.counters.missed + 1 :=
  missed_of_lost_transition (m := lossMove l) nofun h.chkState h.state hraises hlost hmax

/-- The word's gate runs on when the word is counted and reaches no limit. -/
theorem State.runsOn_met (hrun : (s.lane l).gate.state = .running)
    (hmax : ((s.lane l).gate.counters.add (s.wordTally l q).inc).withinMax = true)
    (hb : (s.lane l).gate.Below ((s.lane l).gate.counters.errors + (s.wordTally l q).inc.errors)
      ((s.lane l).gate.counters.bits + 32)) (above : List Bool) : s.RunsOn (s.met l q above) l := by
  have hlane := State.missed_below hrun hmax hb
  rw [← State.met_lane above] at hlane
  refine ⟨State.met_chkState above, hlane.state.trans hrun, hlane.counts, hlane.config, ?_, (touches_met above).sameBase.uptime⟩
  obtain ⟨⟨n, hn⟩, -⟩ := hlane
  rw [hn]
  rfl

/-! ### What the word's own candidate leaves (R71 to R73) -/

theorem State.queued_testLimits (s : State) (l : Lane) : s.line.Queued Notice.notLog (s.testLimits l).line := by
  unfold State.testLimits
  dsimp only
  split_ifs
  · exact ControlLine.queued_one nofun _
  · exact ControlLine.queued_one nofun _
  · exact .refl _

/-- A counted word's candidate is offered to the slot (R73, R147). -/
theorem State.offered_met (hrun : (s.lane l).gate.state = .running)
    (hmax : ((s.lane l).gate.counters.add (s.wordTally l q).inc).withinMax = true) {cand : Candidate}
    (hcand : (s.wordTally l q).candidate = some cand) (above : List Bool) : s.Offered (s.met l q above) l cand := by
  have haccounted : s.accounted l q = ((s.taken l q).counted l (s.wordTally l q)).testLimits l := by
    rw [State.accounted_eq, if_pos hrun, if_pos hmax, State.acceptTally_eq]
  have hcounted : s.Offered ((s.taken l q).counted l (s.wordTally l q)) l cand := by
    rw [State.counted_some hcand]
    exact (State.offered_offerTally (s := (s.taken l q).modLane l (LaneState.takeTally (s.wordTally l q)))).congr rfl (.refl _) rfl id (.refl _)
  refine hcounted.congr rfl (.refl _) ?_ (fun hflag => ?_) ?_
  · rw [State.met_log, haccounted, State.testLimits_log]
  · have htest := (touches_testLimits (L := anyLane) (F := anyFlag) ((s.taken l q).counted l (s.wordTally l q)) (l := l) trivial).flagSet_mono hflag
    rw [← haccounted] at htest
    exact (touches_dwellWord (L := anyLane) (F := anyFlag) l _ _).flagSet_mono htest
  · have htest := State.queued_testLimits ((s.taken l q).counted l (s.wordTally l q)) l
    rw [← haccounted] at htest
    exact htest.trans (queued_dwellWord Notice.notLog_of_point ..)

/-- A word that raises no candidate, and one of no RUNNING gate or saturated, leaves the capture log. -/
theorem State.met_log_of_none (h : (s.wordTally l q).candidate = none ∨ (s.lane l).gate.state ≠ .running ∨
    ((s.lane l).gate.counters.add (s.wordTally l q).inc).withinMax = false) (above : List Bool) :
    (s.met l q above).log = s.log := by
  rw [State.met_log, State.accounted_eq]
  split
  · split
    · next hrun hmax =>
      rcases h with h | h | h
      · rw [State.acceptTally_eq, State.testLimits_log, State.counted_none h]
        rfl
      · exact absurd hrun h
      · rw [h] at hmax
        cases hmax
    · rfl
  · rfl

/-! ### The captures missed of a word and its loss (R73, R147, R150) -/

/-- The captures missed that the tally counts: one for a candidate at a full slot. -/
theorem State.wordTally_missed : (s.wordTally l q).inc.missed =
    if (s.wordTally l q).candidate.isSome && s.log.lanes[l].slot.isSome then 1 else 0 := rfl

theorem State.wordTally_missed_of_empty (h : s.log.lanes[l].slot = none) : (s.wordTally l q).inc.missed = 0 := by
  rw [State.wordTally_missed, h]
  exact if_neg (by rw [Bool.and_comm]; exact Bool.false_ne_true)

theorem State.wordTally_missed_of_none (h : (s.wordTally l q).candidate = none) : (s.wordTally l q).inc.missed = 0 := by
  rw [State.wordTally_missed, h]
  exact if_neg Bool.false_ne_true

/-- Captures missed after a word that meets no grant. -/
theorem State.counted_missed {t : Tally} (h : t.candidate = none ∨ s.log.port ≠ .free) :
    ((s.counted l t).lane l).gate.counters.missed = (s.lane l).gate.counters.missed + t.inc.missed := by
  have hlane : ((s.modLane l (LaneState.takeTally t)).lane l) = (s.lane l).takeTally t := State.modLane_lane_self ..
  cases hc : t.candidate with
  | none =>
    rw [State.counted_none hc, hlane]
    rfl
  | some cand =>
    have hport : ((s.modLane l (LaneState.takeTally t)).offerTally l cand).log.port ≠ .free := by
      have hp := h.resolve_left (by rw [hc]; nofun)
      unfold State.offerTally
      split <;> exact hp
    rw [State.counted_some hc, State.grant_of_writing hport, State.offerTally_lane, hlane]
    rfl

section
variable {t : Tally} {cand : Candidate} (hc : t.candidate = some cand) (hempty : ∀ k : Lane, s.log.lanes[k].slot = none)
  (hport : s.log.port = .free)
include hc hempty hport

/-- Captures missed after a word whose candidate is granted. -/
theorem State.counted_missed_of_write (hroom : s.log.full = .ring ∨ s.log.records.length < 512) :
    ((s.counted l t).lane l).gate.counters.missed = (s.lane l).gate.counters.missed + t.inc.missed := by
  have hlane : ((s.modLane l (LaneState.takeTally t)).lane l) = (s.lane l).takeTally t := State.modLane_lane_self ..
  have hfill : (s.modLane l (LaneState.takeTally t)).offerTally l cand = (s.modLane l (LaneState.takeTally t)).fillSlot l cand :=
    if_neg (State.fillSlot_of_slotFull (hempty l))
  have hgrant := State.grant_fillSlot_write (s := s.modLane l (LaneState.takeTally t)) (l := l) (cand := cand) hempty hport hroom
  rw [State.counted_some hc, hfill, hgrant]
  exact (congrArg (fun x : LaneState => x.gate.counters.missed) hlane)

/-- Captures missed after a word whose candidate is discarded (R150). -/
theorem State.counted_missed_of_discard (hstop : s.log.full = .stop) (hlen : 512 ≤ s.log.records.length)
    (hrun : (s.lane l).gate.state = .running) (hmax : (s.lane l).gate.counters.missed + t.inc.missed < 2 ^ 32 - 1) :
    ((s.counted l t).lane l).gate.counters.missed = (s.lane l).gate.counters.missed + t.inc.missed + 1 := by
  have hlane : ((s.modLane l (LaneState.takeTally t)).lane l) = (s.lane l).takeTally t := State.modLane_lane_self ..
  have hfill : (s.modLane l (LaneState.takeTally t)).offerTally l cand = (s.modLane l (LaneState.takeTally t)).fillSlot l cand :=
    if_neg (State.fillSlot_of_slotFull (hempty l))
  have hgranted : (((s.modLane l (LaneState.takeTally t)).fillSlot l cand).grantTo l).lane l =
      { (s.lane l).takeTally t with gate := ((s.lane l).takeTally t).gate.addMissed } := by
    rw [State.grantTo_lane, ← hlane]
    exact if_pos ⟨rfl, hstop, hlen⟩
  have hgrant := State.grant_fillSlot_discard (s := s.modLane l (LaneState.takeTally t)) (l := l) (cand := cand) hempty hport
    hstop hlen
  rw [State.counted_some hc, hfill, hgrant, hgranted]
  exact Gate.addMissed_missed (g := ((s.lane l).takeTally t).gate) ((congrArg GateState.active hrun).trans rfl) hmax

end

end

end Sys2Proof.Machine
/-! The candidates of a word and of the loss it brings (O30, R52, R73, R146, R147). -/

namespace Sys2Proof.Machine

section
variable {s u : State} {l : Lane} {q : LockedWord} {rx : Reception} {cand : Candidate}

theorem State.raisesLock_of_candidate (h : (s.wordTally l q).candidate = some cand) : s.log.lanes[l].RaisesLock := by
  have hsome : (s.wordTally l q).candidate.isSome = true := by
    rw [h]
    rfl
  obtain ⟨hquota, hmode⟩ := (tallyCandidate_isSome ..).1 hsome
  refine ⟨?_, hquota⟩
  rcases hmode with ⟨hm, -⟩ | ⟨hm, -⟩ <;> rw [hm] <;> decide

theorem State.no_candidate_of_events (h : s.log.lanes[l].mode = .events) : (s.wordTally l q).candidate = none := by
  rw [← Option.not_isSome_iff_eq_none]
  intro hsome
  obtain ⟨-, ⟨hm, -⟩ | ⟨hm, -⟩⟩ := (tallyCandidate_isSome ..).1 hsome <;>
  · rw [h] at hm
    cases hm

/-! ### A write completes between word and loss (log 43) -/

theorem CaptureLog.enter_eq (l : Lane) (policy : FullPolicy) (old : Candidate) (c : CaptureLog) :
    c.enter l policy old = c.afterWrite l policy old := rfl

theorem State.writeCompletion_eq {policy : FullPolicy} {old : Candidate} (hport : u.log.port = .writing l policy)
    (hslot : u.log.lanes[l].slot = some old) : u.writeCompletion =
      if u.log.reaches (u.log.afterWrite l policy old) then
        ((u.withLog (u.log.afterWrite l policy old)).queueNotice (.log .watermark (u.log.afterWrite l policy old).records.length
          (u.log.afterWrite l policy old).newest)).grant
      else (u.withLog (u.log.afterWrite l policy old)).grant := by
  simp only [State.writeCompletion, hport, hslot, CaptureLog.enter_eq]
  rfl

/-- A write that completes and leaves every slot empty. -/
theorem State.writeCompletion_last {policy : FullPolicy} {old : Candidate} (hport : u.log.port = .writing l policy)
    (hslot : u.log.lanes[l].slot = some old) (hempty : ∀ k : Lane, (u.log.afterWrite l policy old).lanes[k].slot = none) :
    u.writeCompletion.log = u.log.afterWrite l policy old ∧ u.line.Queued Notice.notFull u.writeCompletion.line ∧
      u.writeCompletion.lanes = u.lanes := by
  have hgrant {v : State} (h : v.log = u.log.afterWrite l policy old) : v.grant = v :=
    State.grant_of_settled (.inr (h ▸ hempty))
  rw [State.writeCompletion_eq hport hslot]
  by_cases hreach : u.log.reaches (u.log.afterWrite l policy old) = true
  · rw [if_pos hreach, hgrant rfl]
    exact ⟨rfl, ControlLine.queued_one nofun _, rfl⟩
  · rw [if_neg hreach, hgrant rfl]
    exact ⟨rfl, .refl _, rfl⟩

/-! ### What the word leaves of line and captures -/

/-- A word that brings no discard queues no LOG notice FULL. -/
theorem State.queued_counted {t : Tally} (h : t.candidate = none ∨ s.log.port ≠ .free ∨
    ((∀ k : Lane, s.log.lanes[k].slot = none) ∧ s.log.port = .free ∧ (s.log.full = .ring ∨ s.log.records.length < 512))) :
    s.line.Queued Notice.notFull (s.counted l t).line := by
  cases hc : t.candidate with
  | none =>
    rw [State.counted_none hc]
    exact .refl _
  | some cand =>
    rw [State.counted_some hc]
    rcases h.resolve_left (by rw [hc]; nofun) with hport | ⟨hempty, hport, hroom⟩
    · have hport' : ((s.modLane l (LaneState.takeTally t)).offerTally l cand).log.port ≠ .free := by
        unfold State.offerTally
        split <;> exact hport
      rw [State.grant_of_writing hport']
      exact (queued_offerTally Notice.notLog_alarm l cand (s.modLane l (LaneState.takeTally t))).mono fun _ h => h.notFull
    · have hgrant := State.grant_fillSlot_write (s := s.modLane l (LaneState.takeTally t)) (l := l) (cand := cand) hempty
        hport hroom
      have hfill : (s.modLane l (LaneState.takeTally t)).offerTally l cand =
          (s.modLane l (LaneState.takeTally t)).fillSlot l cand := if_neg (State.fillSlot_of_slotFull (hempty l))
      rw [hfill, hgrant]
      exact .refl _

theorem State.taken_missed : ((s.taken l q).lane l).gate.counters.missed = (s.lane l).gate.counters.missed := by
  rw [State.taken_self]
  rfl

section
variable (hrun : (s.lane l).gate.state = .running)
  (hmax : ((s.lane l).gate.counters.add (s.wordTally l q).inc).withinMax = true)
  (hb : (s.lane l).gate.Below ((s.lane l).gate.counters.errors + (s.wordTally l q).inc.errors)
    ((s.lane l).gate.counters.bits + 32)) (above : List Bool)
include hrun hmax hb

theorem State.queued_met (h : (s.wordTally l q).candidate = none ∨ s.log.port ≠ .free ∨
    ((∀ k : Lane, s.log.lanes[k].slot = none) ∧ s.log.port = .free ∧ (s.log.full = .ring ∨ s.log.records.length < 512))) :
    s.line.Queued Notice.notFull (s.met l q above).line := by
  have hcounted : s.line.Queued Notice.notFull ((s.taken l q).counted l (s.wordTally l q)).line :=
    State.queued_counted (s := s.taken l q) h
  rw [State.met, State.accounted_below hrun hmax hb]
  exact hcounted.trans ((queued_dwellWord Notice.notLog_of_point ..).mono fun _ h => h.notFull)

theorem State.met_missed_eq : ((s.met l q above).lane l).gate.counters.missed =
    (((s.taken l q).counted l (s.wordTally l q)).lane l).gate.counters.missed := by
  rw [State.met_lane, State.accounted_below hrun hmax hb]

/-- Captures missed after a word that meets no discard. -/
theorem State.met_missed (h : (s.wordTally l q).candidate = none ∨ s.log.port ≠ .free ∨
    ((∀ k : Lane, s.log.lanes[k].slot = none) ∧ s.log.port = .free ∧ (s.log.full = .ring ∨ s.log.records.length < 512))) :
    ((s.met l q above).lane l).gate.counters.missed =
      (s.lane l).gate.counters.missed + (s.wordTally l q).inc.missed := by
  have htaken := State.taken_missed (s := s) (l := l) (q := q)
  rw [State.met_missed_eq hrun hmax hb, ← htaken]
  cases hc : (s.wordTally l q).candidate with
  | none => exact State.counted_missed (s := s.taken l q) (.inl hc)
  | some cand =>
    rcases h.resolve_left (by rw [hc]; nofun) with hport | ⟨hempty, hport, hroom⟩
    · exact State.counted_missed (s := s.taken l q) (.inr hport)
    · exact State.counted_missed_of_write (s := s.taken l q) hc hempty hport hroom

/-- A loss at a word that raised no candidate. -/
theorem loss_without_candidate (hc : (s.wordTally l q).candidate = none) (hraises : s.log.lanes[l].RaisesLock) :
    s.Offered ((s.met l q above).transition [lossMove l]) l ((s.lane l).lossCandidate l) ∧
      (s.log.LosesCandidate l → (s.lane l).gate.counters.missed < 2 ^ 32 - 1 →
        (((s.met l q above).transition [lossMove l]).lane l).gate.counters.missed = (s.lane l).gate.counters.missed + 1) := by
  have hlog := State.met_log_of_none (s := s) (l := l) (q := q) (.inl hc) above
  have hline := State.queued_met hrun hmax hb above (.inl hc)
  have hmissed := State.met_missed hrun hmax hb above (.inl hc)
  rw [State.wordTally_missed_of_none hc, Nat.add_zero] at hmissed
  have hon := State.runsOn_met hrun hmax hb above
  generalize s.met l q above = u at *
  refine ⟨(hon.offered (by rw [hlog]; exact hraises)).congr hlog hline rfl id (.refl _), fun hlost hlt => ?_⟩
  rw [← hmissed]
  exact hon.missed_of_lost (by rw [hlog]; exact hraises) (by rw [hlog]; exact hlost) (by rw [hmissed]; exact hlt)

/-- The word's candidate leaves the lane's capture settings and quota count. -/
theorem State.met_raisesLock (hc : (s.wordTally l q).candidate = some cand) : (s.met l q above).log.lanes[l].RaisesLock := by
  refine CaptureLane.SameButSlot.raisesLock ?_ (State.raisesLock_of_candidate hc)
  rw [State.met_log, State.accounted_below hrun hmax hb, State.counted_some hc]
  refine .trans ?_ (State.grant_sameButSlot ..)
  unfold State.offerTally
  split
  · exact .refl _
  · rw [State.fillSlot, State.modCapture_captureLane, if_pos rfl]
    exact ⟨_, rfl⟩

/-- The loss's candidate changes nothing of what became of the word's (R73). -/
theorem loss_keeps_candidate (hc : (s.wordTally l q).candidate = some cand) :
    s.Offered ((s.met l q above).transition [lossMove l]) l cand := by
  have hon := State.runsOn_met hrun hmax hb above
  refine (State.offered_met hrun hmax hc above).again (hon.offered (State.met_raisesLock hrun hmax hb above hc)) (fun h => ?_)
    (State.queued_transition_marked nofun)
  exact (touches_transition [lossMove l] _).flagSet_mono h

section
variable (hc : (s.wordTally l q).candidate = some cand)
include hc

/-- Word and loss at a port that is WRITING: the slot keeps or takes one candidate, and the loss's is dropped. -/
theorem loss_while_writing (hport : s.log.port ≠ .free) :
    ((s.met l q above).transition [lossMove l]).log = { s.log with lanes := s.log.lanes.set l { s.log.lanes[l] with
        slot := some (s.log.lanes[l].slot.getD cand) } } ∧
      ((s.met l q above).transition [lossMove l]).flagSet l .captureMissed = true ∧
      ((s.lane l).gate.counters.missed + (s.wordTally l q).inc.missed < 2 ^ 32 - 1 →
        (((s.met l q above).transition [lossMove l]).lane l).gate.counters.missed =
          (s.lane l).gate.counters.missed + (s.wordTally l q).inc.missed + 1) := by
  obtain ⟨htake, -, -, hdrop⟩ := State.offered_met hrun hmax hc above
  have hmissed := State.met_missed hrun hmax hb above (.inr (.inl hport))
  have hraises := State.met_raisesLock hrun hmax hb above hc
  have hon := State.runsOn_met hrun hmax hb above
  generalize s.met l q above = u at *
  have hlog : u.log = { s.log with lanes := s.log.lanes.set l { s.log.lanes[l] with
      slot := some (s.log.lanes[l].slot.getD cand) } } := by
    cases hs : s.log.lanes[l].slot with
    | none => exact htake hs hport
    | some old =>
      rw [(hdrop old hs hport).1]
      refine congrArg (fun lanes => { s.log with lanes := lanes }) (Eq.symm ?_)
      exact (congrArg (fun c => s.log.lanes.set l c) (CaptureLane.with_slot hs)).trans (Vector.set_getElem_self _)
  have hslot : u.log.lanes[l].slot = some (s.log.lanes[l].slot.getD cand) := by
    rw [hlog, CaptureLog.set_lane, if_pos rfl]
  have huport : u.log.port ≠ .free := by
    rw [hlog]
    exact hport
  obtain ⟨-, -, -, hagain⟩ := hon.offered hraises
  obtain ⟨hsame, hflag⟩ := hagain _ hslot huport
  refine ⟨hsame.trans hlog, hflag, fun hlt => ?_⟩
  rw [← hmissed]
  exact hon.missed_of_lost hraises (.inl ⟨by rw [hslot]; rfl, huport⟩) (by rw [hmissed]; exact hlt)

section
variable (hempty : ∀ k : Lane, s.log.lanes[k].slot = none) (hport : s.log.port = .free)
include hempty hport

/-- Word and loss at a free port: the word's candidate is granted, and the loss's is dropped. -/
theorem loss_after_grant (hroom : s.log.full = .ring ∨ s.log.records.length < 512) :
    ((s.met l q above).transition [lossMove l]).log = { s.log with
        lanes := s.log.lanes.set l { s.log.lanes[l] with slot := some cand }
        lastGranted := l, port := .writing l s.log.full } ∧
      ((s.met l q above).transition [lossMove l]).flagSet l .captureMissed = true ∧
      ((s.lane l).gate.counters.missed < 2 ^ 32 - 1 →
        (((s.met l q above).transition [lossMove l]).lane l).gate.counters.missed = (s.lane l).gate.counters.missed + 1) := by
  obtain ⟨-, hwrite, -, -⟩ := State.offered_met hrun hmax hc above
  have hmissed := State.met_missed hrun hmax hb above (.inr (.inr ⟨hempty, hport, hroom⟩))
  rw [State.wordTally_missed_of_empty (hempty l), Nat.add_zero] at hmissed
  have hraises := State.met_raisesLock hrun hmax hb above hc
  have hon := State.runsOn_met hrun hmax hb above
  generalize s.met l q above = u at *
  have hlog := hwrite hempty hport hroom
  have hslot : u.log.lanes[l].slot = some cand := by
    rw [hlog, CaptureLog.set_lane, if_pos rfl]
  have huport : u.log.port ≠ .free := by
    rw [hlog]
    nofun
  obtain ⟨-, -, -, hagain⟩ := hon.offered hraises
  obtain ⟨hsame, hflag⟩ := hagain _ hslot huport
  refine ⟨hsame.trans hlog, hflag, fun hlt => ?_⟩
  rw [← hmissed]
  exact hon.missed_of_lost hraises (.inl ⟨by rw [hslot]; rfl, huport⟩) (by rw [hmissed]; exact hlt)

/-- Word and loss at a full log under STOP: both candidates are discarded. -/
theorem loss_after_discard (hstop : s.log.full = .stop) (hlen : 512 ≤ s.log.records.length) :
    ((s.met l q above).transition [lossMove l]).log = { s.log with lastGranted := l, fullMark := true } ∧
      ((s.met l q above).transition [lossMove l]).flagSet l .captureMissed = true ∧
      (∀ r, s.log.records.getLast? = some r →
        s.FullAnnounced ((s.met l q above).transition [lossMove l]) s.log.records.length r.sequence) ∧
      ((s.lane l).gate.counters.missed + 1 < 2 ^ 32 - 1 →
        (((s.met l q above).transition [lossMove l]).lane l).gate.counters.missed = (s.lane l).gate.counters.missed + 2) := by
  obtain ⟨-, -, hlose, -⟩ := loss_keeps_candidate hrun hmax hb above hc
  obtain ⟨-, -, hfirst, -⟩ := State.offered_met hrun hmax hc above
  obtain ⟨hlog, hflag, hfull⟩ := hlose hempty hport hstop hlen
  obtain ⟨hlog', -, -⟩ := hfirst hempty hport hstop hlen
  refine ⟨hlog, hflag, hfull, fun hlt => ?_⟩
  have hmissed : ((s.met l q above).lane l).gate.counters.missed = (s.lane l).gate.counters.missed + 1 := by
    have htaken := State.taken_missed (s := s) (l := l) (q := q)
    have hzero := State.wordTally_missed_of_empty (q := q) (hempty l)
    have hcounted := State.counted_missed_of_discard (s := s.taken l q) hc hempty hport hstop hlen
      (by rw [State.taken_self]; exact hrun) (by rw [htaken, hzero]; omega)
    rw [State.met_missed_eq hrun hmax hb, hcounted, htaken, hzero]
  have hraises := State.met_raisesLock hrun hmax hb above hc
  have hon := State.runsOn_met hrun hmax hb above
  generalize s.met l q above = u at *
  have hagain := hon.missed_of_lost hraises (.inr ⟨by rw [hlog']; exact hempty, by rw [hlog']; exact hport,
    by rw [hlog']; exact hstop, by rw [hlog']; exact hlen⟩) (by rw [hmissed]; exact hlt)
  rw [hagain, hmissed]

end

end

/-- Word and loss with a write of the lane completing between them (log 43). -/
theorem loss_after_write {mid after : CaptureLog} {policy : FullPolicy} {old : Candidate}
    (hmid : (s.log.port = .writing l policy ∧ s.log.lanes[l].slot = some old ∧ mid = s.log) ∨
      ((s.wordTally l q).candidate = some old ∧ (∀ k : Lane, s.log.lanes[k].slot = none) ∧ s.log.port = .free ∧
        (s.log.full = .ring ∨ s.log.records.length < 512) ∧ policy = s.log.full ∧
        mid = { s.log with
          lanes := s.log.lanes.set l { s.log.lanes[l] with slot := some old }
          lastGranted := l, port := .writing l s.log.full }))
    (hafter : after = mid.afterWrite l policy old) (hempty : ∀ k : Lane, after.lanes[k].slot = none) :
    ((s.wordTally l q).candidate.isSome = true → s.log.port ≠ .free →
      ((s.met l q above).writeCompletion.transition [lossMove l]).flagSet l .captureMissed = true) ∧
    (¬after.lanes[l].RaisesLock → ((s.met l q above).writeCompletion.transition [lossMove l]).log = after) ∧
    (after.lanes[l].RaisesLock →
      ({ s with log := after } : State).Offered ((s.met l q above).writeCompletion.transition [lossMove l]) l
        ((s.lane l).lossCandidate l) ∧
      (after.full = .ring ∨ after.records.length < 512 →
        (((s.met l q above).writeCompletion.transition [lossMove l]).lane l).gate.counters.missed =
          (s.lane l).gate.counters.missed + (s.wordTally l q).inc.missed)) := by
  have hlog : (s.met l q above).log = mid := by
    rcases hmid with ⟨hport, hslot, rfl⟩ | ⟨hc, hnone, hport, hroom, rfl, rfl⟩
    · cases hc : (s.wordTally l q).candidate with
      | none => exact State.met_log_of_none (.inl hc) above
      | some cand =>
        obtain ⟨-, -, -, hdrop⟩ := State.offered_met hrun hmax hc above
        exact (hdrop old hslot (by rw [hport]; nofun)).1
    · obtain ⟨-, hwrite, -, -⟩ := State.offered_met hrun hmax hc above
      exact hwrite hnone hport hroom
  have hmet : (s.wordTally l q).candidate = none ∨ s.log.port ≠ .free ∨
      ((∀ k : Lane, s.log.lanes[k].slot = none) ∧ s.log.port = .free ∧
        (s.log.full = .ring ∨ s.log.records.length < 512)) := by
    rcases hmid with ⟨hport, -, -⟩ | ⟨-, hnone, hport, hroom, -, -⟩
    · exact .inr (.inl (by rw [hport]; nofun))
    · exact .inr (.inr ⟨hnone, hport, hroom⟩)
  have hline := State.queued_met hrun hmax hb above hmet
  have hmissed := State.met_missed hrun hmax hb above hmet
  have hon := State.runsOn_met hrun hmax hb above
  have hdropped : (s.wordTally l q).candidate.isSome = true → s.log.port ≠ .free →
      (s.met l q above).flagSet l .captureMissed = true := fun hsome hport => by
    obtain ⟨cand, hc⟩ := Option.isSome_iff_exists.1 hsome
    obtain ⟨-, -, -, hdrop⟩ := State.offered_met hrun hmax hc above
    rcases hmid with ⟨-, hslot, -⟩ | ⟨-, -, hfree, -⟩
    · exact (hdrop old hslot hport).2
    · exact absurd hfree hport
  generalize s.met l q above = u at *
  have hport : u.log.port = .writing l policy := by
    rcases hmid with ⟨hport, -, rfl⟩ | ⟨-, -, -, -, rfl, rfl⟩
    · rw [hlog, hport]
    · rw [hlog]
  have hslot : u.log.lanes[l].slot = some old := by
    rcases hmid with ⟨-, hslot, rfl⟩ | ⟨-, -, -, -, -, rfl⟩
    · rw [hlog, hslot]
    · rw [hlog, CaptureLog.set_lane, if_pos rfl]
  rw [← hlog] at hafter
  obtain ⟨hwlog, hwline, hwlanes⟩ := State.writeCompletion_last hport hslot (hafter ▸ hempty)
  rw [← hafter] at hwlog
  have hon' := hon.written
  have hmissed' : (u.writeCompletion.lane l).gate.counters.missed = (u.lane l).gate.counters.missed := by
    unfold State.lane
    rw [hwlanes]
  have hflag := (touches_writeCompletion (L := anyLane) (F := anyFlag) u).flagSet_mono (k := l) (g := .captureMissed)
  generalize u.writeCompletion = w at *
  refine ⟨fun hsome hfree => ?_, fun hno => ?_, fun hraises => ⟨?_, fun hroom => ?_⟩⟩
  · exact (touches_transition [lossMove l] w).flagSet_mono (hflag (hdropped hsome hfree))
  · refine (transition_log_of_noExit (.inr (hwlog ▸ hempty)) (fun m hm => ?_) fun m hm => ?_).trans hwlog
    · rw [List.mem_singleton.1 hm]
      exact .inr (.inr (hwlog ▸ hno))
    · rw [List.mem_singleton.1 hm]
      exact nofun
  · exact (hon'.offered (hwlog ▸ hraises)).congr (s := { s with log := after }) hwlog (hline.trans hwline) rfl id (.refl _)
  · rw [← hmissed, ← hmissed']
    refine missed_of_taken_transition (m := lossMove l) nofun hon'.chkState hon'.state (hwlog ▸ hraises) (hwlog ▸ hempty) ?_
      (hwlog ▸ hroom)
    rw [hwlog, hafter]
    rfl

end

end

end Sys2Proof.Machine
/-! Lock losses settled (O30). -/

namespace Sys2Proof.Machine

theorem exec_wordResult (s : State) (l : Lane) (rx : Reception) (above : List Bool) (written : Bool) :
    exec (.wordResult l rx ⟨above, written⟩) s = .next (s.lockedWord l rx above written).pump := rfl

section
variable {s : State} {l : Lane} {q : LockedWord}

theorem State.declareLoss_false : s.declareLoss l false = s.transition [lossMove l] := rfl

theorem State.declareLoss_true : s.declareLoss l true = s.writeCompletion.transition [lossMove l] := rfl

theorem missed_written (written : Bool) (k : Lane) (s : State) :
    (s.lane k).Missed ((if written then s.writeCompletion else s).lane k) := by
  split
  · exact missed_writeCompletion k s
  · exact .refl _

theorem State.met_gate_idle (hrun : (s.lane l).gate.state ≠ .running) (above : List Bool) :
    ((s.met l q above).lane l).gate = (s.lane l).gate := by
  rw [State.met_lane, State.accounted_eq, if_neg hrun, State.taken_self]
  rfl

/-- A loss by errors leaves a gate that is not RUNNING. -/
theorem loss_of_idle (hrun : (s.lane l).gate.state ≠ .running) (above : List Bool) (written : Bool) :
    (((s.met l q above).declareLoss l written).lane l).gate.state = (s.lane l).gate.state ∧
      (((s.met l q above).declareLoss l written).lane l).gate.counts = (s.lane l).gate.counts ∧
      (((s.met l q above).declareLoss l written).lane l).gate.result = (s.lane l).gate.result := by
  have hgate := State.met_gate_idle (q := q) hrun above
  have hmissed := missed_written written l (s.met l q above)
  have hstate := hmissed.state
  have hcounts := hmissed.counts
  have hresult := hmissed.result
  rw [hgate] at hstate hcounts hresult
  rw [State.declareLoss_eq]
  obtain ⟨h1, h2, h3⟩ := transition_gate_kept (nodup_one _) (mem_one (lossMove l))
    (s := if written then (s.met l q above).writeCompletion else s.met l q above) nofun nofun
    (.inl (by rw [show (lossMove l).lane = l from rfl, hstate]; exact hrun))
  exact ⟨h1.trans hstate, h2.trans hcounts, h3.trans hresult⟩

/-- A loss by errors at a word that the gate counts and that reaches no limit takes the gate by its policy (R96). -/
theorem loss_of_counted (hrun : (s.lane l).gate.state = .running)
    (hmax : ((s.lane l).gate.counters.add (s.wordTally l q).inc).withinMax = true)
    (hb : (s.lane l).gate.Below ((s.lane l).gate.counters.errors + (s.wordTally l q).inc.errors)
      ((s.lane l).gate.counters.bits + 32)) (above : List Bool) (written : Bool) :
    ((s.met l q above).declareLoss l written).LossTaken l (s.lane l).gate.counts (s.lane l).gate.config.policy s.uptime := by
  have hon := State.runsOn_met hrun hmax hb above
  rw [State.declareLoss_eq]
  split
  · exact hon.written.lossTaken
  · exact hon.lossTaken

end

/-- Settles O30. -/
theorem lockLossByPolicy : Obligations.LockLossByPolicy := by
  intro s l cfg hcfg
  refine ⟨fun hsd hloop hlocked => ?_, fun rx above written w rest src last c e exp rcv tally hphase hinput hexp hrcv htally
    hloss => ?_⟩
  · have hevent := State.signalLevel_event (s := s) (l := l) (level := false) (by rw [hsd]; exact nofun) hloop
    have hmove : ((s.lane l).withSd false).signalMove l = some { lane := l, phase := .noSignal, reason := .signal } := by
      have hsignal := LaneState.signal_withSd (x := s.lane l) false hloop
      have hchk : ((s.lane l).withSd false).chkState = .locked := hlocked
      rw [LaneState.signalMove, hsignal, hchk]
    rw [hmove] at hevent
    refine ⟨_, (exec_signal s l false).trans (by rw [hevent]), ?_⟩
    exact lockLoss_by_signal hcfg hlocked rfl
  · obtain ⟨q, hq⟩ : ∃ q : LockedWord, q = ⟨src, last, c, e, w, rest⟩ := ⟨_, rfl⟩
    have hcompares : s.Compares l q rx := by
      subst hq
      exact ⟨hphase, hinput⟩
    have hloses : s.Loses l q := by
      subst hq hexp hrcv
      unfold State.Loses
      rw [State.length_judged]
      exact hloss
    obtain rfl : tally = s.wordTally l q := by
      subst hq hexp hrcv
      exact htally
    clear hq hexp hrcv htally hloss
    have hexec := exec_wordResult s l rx above written
    rw [hcompares.lockedWord_loss hloses] at hexec
    have hshows := State.shows_pump ((s.met l q above).declareLoss l written)
    refine ⟨_, hexec, ?_⟩
    generalize ((s.met l q above).declareLoss l written).pump = t at *
    have hannounced {count newest : Nat} (h : s.FullAnnounced ((s.met l q above).declareLoss l written)
        count newest) : s.FullAnnounced t count newest := by
      unfold State.FullAnnounced
      simp only [hshows.announces]
      exact h
    rw [hshows.lane, hshows.log, hshows.flagSet]
    refine ⟨fun hrun => loss_of_idle hrun above written, fun hrun hmax herr hbit => ?_⟩
    have hconfig := Gate.config_of (hcfg hrun)
    have hb : (s.lane l).gate.Below ((s.lane l).gate.counters.errors + (s.wordTally l q).inc.errors)
        ((s.lane l).gate.counters.bits + 32) := by
      unfold Gate.Below
      rw [hconfig]
      exact ⟨herr, hbit⟩
    have htaken := loss_of_counted hrun hmax hb above written
    rw [hconfig] at htaken
    refine ⟨htaken.shows hshows, fun hwritten hraises hnone => ?_, fun cand hc hwritten => ?_,
      fun mid after policy old hwritten hmid hafter hempty => ?_⟩
    · rw [hwritten, State.declareLoss_false] at hshows ⊢
      have hnone' := hnone.elim State.no_candidate_of_events id
      obtain ⟨hoffered, hmissed⟩ := loss_without_candidate hrun hmax hb above hnone' hraises
      exact ⟨hoffered.shows hshows, hmissed⟩
    · rw [hwritten, State.declareLoss_false] at hannounced ⊢
      refine ⟨loss_while_writing hrun hmax hb above hc, loss_after_grant hrun hmax hb above hc,
        fun hempty hport hstop hlen => ?_⟩
      obtain ⟨hlog, hflag, hfull, hmissed⟩ := loss_after_discard hrun hmax hb above hc hempty hport hstop hlen
      exact ⟨hlog, hflag, fun r hr => hannounced (hfull r hr), hmissed⟩
    · rw [hwritten, State.declareLoss_true] at hshows ⊢
      obtain ⟨hflag, hlog, hoffer⟩ := loss_after_write hrun hmax hb above hmid hafter hempty
      refine ⟨hflag, hlog, fun hraises => ?_⟩
      obtain ⟨hoffered, hmissed⟩ := hoffer hraises
      exact ⟨hoffered.shows hshows, hmissed⟩

end Sys2Proof.Machine

/-! A locked word at the loss detector and the margin sampler (O34, R41, R42, R123, R126). -/

namespace Sys2Proof.Machine

/-! ### Bits pushed into a register -/

theorem getLsbD_push {n : Nat} (w : BitVec n) (b : Bool) {i : Nat} (hi : i < n) :
    ((w <<< 1) ||| (if b then 1 else 0)).getLsbD i = if i = 0 then b else w.getLsbD (i - 1) := by
  rw [BitVec.getLsbD_or, BitVec.getLsbD_shiftLeft]
  cases b with
  | false =>
    by_cases h : i = 0
    · simp [h]
    · simp [h, hi]
  | true =>
    by_cases h : i = 0
    · subst h
      simp [hi]
    · simp [h, hi]

/-- Bit `i` of a register after bits have been pushed: the bit pushed `i` places before the last, else of the register
before. -/
theorem getLsbD_foldl_push {n : Nat} (bits : List Bool) (w : BitVec n) {i : Nat} (hi : i < n) :
    (bits.foldl (fun (w : BitVec n) b => (w <<< 1) ||| (if b then 1 else 0)) w).getLsbD i =
      bits.reverse[i]?.getD (w.getLsbD (i - bits.length)) := by
  induction bits generalizing w with
  | nil => simp
  | cons b bits ih =>
    rw [List.foldl_cons, ih, List.reverse_cons, List.length_cons]
    by_cases h : i < bits.length
    · rw [List.getElem?_append_left (by simpa using h), List.getElem?_eq_getElem (by simpa using h)]
      rfl
    · rw [List.getElem?_eq_none (by simpa using h), List.getElem?_append_right (by simpa using h), List.length_reverse,
        Option.getD_none, getLsbD_push w b (by omega)]
      by_cases h' : i = bits.length
      · simp [h']
      · have hne : i - bits.length ≠ 0 := by omega
        rw [if_neg hne, List.getElem?_eq_none (by simp; omega), Option.getD_none, Nat.sub_sub]

/-- Bit `k` in the order sent of the word that bits make. -/
theorem getMsbD_wordOfBits {bits : List Bool} (hlen : 32 ≤ bits.length) {k : Nat} (hk : k < 32) {b : Bool}
    (hb : bits[k]? = some b) : (wordOfBits bits).getMsbD k = b := by
  have hrev : (bits.take 32).reverse[31 - k]? = some b := by
    rw [List.getElem?_reverse (by rw [List.length_take]; omega), List.length_take,
      show min 32 bits.length - 1 - (31 - k) = k by omega, List.getElem?_take_of_lt hk, hb]
  rw [wordOfBits, BitVec.getMsbD, decide_eq_true hk, Bool.true_and, getLsbD_foldl_push _ _ (by omega), hrev]
  rfl

/-! ### The margin sampler (R123) -/

/-- Entry by entry, a list of pairs. -/
theorem getElem?_flatMap_pairs {α : Type} {f : α → List Bool} (hf : ∀ a, (f a).length = 2) (xs : List α) (j : Nat) {r : Nat}
    (hr : r < 2) : (xs.flatMap f)[2 * j + r]? = xs[j]?.bind fun a => (f a)[r]? := by
  induction xs generalizing j with
  | nil => rfl
  | cons a xs ih =>
    rw [List.flatMap_cons]
    cases j with
    | zero =>
      rw [List.getElem?_append_left (by rw [hf]; omega), Nat.mul_zero, Nat.zero_add]
      rfl
    | succ j =>
      rw [List.getElem?_append_right (by rw [hf]; omega), hf, show 2 * (j + 1) + r - 2 = 2 * j + r by omega, ih]
      rfl

theorem symbolLevel_of_bits {w : Word} {j : Nat} {v : PamLevel} (h0 : (levelBits v)[0]? = some (w.getMsbD (2 * j)))
    (h1 : (levelBits v)[1]? = some (w.getMsbD (2 * j + 1))) : symbolLevel w j = v := by
  unfold symbolLevel
  generalize w.getMsbD (2 * j) = a at *
  generalize w.getMsbD (2 * j + 1) = b at *
  revert v a b
  decide

section
variable {s : State} {l : Lane} {place : SamplerPlace}

/-- A sampler at the lane reads the decisions beside its word, one for each symbol. -/
theorem State.sampledWord_at (hs : s.margin.sampler = some place) (hl : place.lane = l) (hloop : (s.lane l).loopback = false)
    {above : List Bool} {w : Word} (hlen : (sampledBits (s.lane l).pam4 place.eye w above).length = 32) :
    s.sampledWord l above w = wordOfBits (sampledBits (s.lane l).pam4 place.eye w above) := by
  simp only [State.sampledWord, hs]
  exact if_pos ⟨hl, hloop, hlen⟩

/-- An NRZ symbol by its moved boundary (R123). -/
theorem State.sampledWord_nrz (hs : s.margin.sampler = some place) (hl : place.lane = l)
    (hloop : (s.lane l).loopback = false) (hnrz : (s.lane l).pam4 = false) {above : List Bool} (hlen : above.length = 32)
    (w : Word) {i : Nat} {a : Bool} (ha : above[i]? = some a) : (s.sampledWord l above w).getMsbD i = a := by
  have hi : i < 32 := hlen ▸ (List.getElem?_eq_some_iff.1 ha).1
  have hbits : sampledBits (s.lane l).pam4 place.eye w above = above := by
    rw [hnrz]
    rfl
  rw [State.sampledWord_at hs hl hloop (by rw [hbits, hlen]), hbits]
  exact getMsbD_wordOfBits (Nat.le_of_eq hlen.symm) hi ha

/-- A PAM4 symbol by the moved boundary of its eye (R123). -/
theorem State.symbolLevel_sampledWord (hs : s.margin.sampler = some place) (hl : place.lane = l)
    (hloop : (s.lane l).loopback = false) (hpam : (s.lane l).pam4 = true) {above : List Bool} (hlen : above.length = 16)
    (w : Word) {j : Nat} {a : Bool} (ha : above[j]? = some a) :
    symbolLevel (s.sampledWord l above w) j = place.eye.sampledLevel (symbolLevel w j) a := by
  have hj : j < 16 := hlen ▸ (List.getElem?_eq_some_iff.1 ha).1
  have hlen' : (sampledBits (s.lane l).pam4 place.eye w above).length = 32 := by
    rw [hpam, length_sampledBits_pam4, hlen]
  have hbit {r : Nat} (hr : r < 2) : (sampledBits (s.lane l).pam4 place.eye w above)[2 * j + r]? =
      (levelBits (place.eye.sampledLevel (symbolLevel w j) a))[r]? := by
    rw [hpam, sampledBits, if_pos rfl, getElem?_flatMap_pairs (fun _ => length_levelBits _) _ _ hr, List.getElem?_zipIdx, ha]
    simp
  rw [State.sampledWord_at hs hl hloop hlen']
  have hword {r : Nat} (hr : r < 2) : (levelBits (place.eye.sampledLevel (symbolLevel w j) a))[r]? =
      some ((wordOfBits (sampledBits (s.lane l).pam4 place.eye w above)).getMsbD (2 * j + r)) := by
    have hget := List.getElem?_eq_getElem (l := sampledBits (s.lane l).pam4 place.eye w above) (i := 2 * j + r) (by omega)
    rw [getMsbD_wordOfBits (Nat.le_of_eq hlen'.symm) (by omega) hget, ← hbit hr, hget]
  exact symbolLevel_of_bits (hword Nat.two_pos) (hword Nat.one_lt_two)

end

theorem Eye.below_of {eye : Eye} {low : PamLevel} (hl : eye = .lower → low = 0) (hm : eye = .middle → low = 1)
    (hu : eye = .upper → low = 2) : eye.below = low := by
  cases eye with
  | lower => exact (hl rfl).symm
  | middle => exact (hm rfl).symm
  | upper => exact (hu rfl).symm

theorem Eye.sampledLevel_cases (eye : Eye) (own : PamLevel) (a : Bool) :
    (own = eye.below ∨ own = eye.below + 1 → eye.sampledLevel own a = if a then eye.below + 1 else eye.below) ∧
      (own ≠ eye.below → own ≠ eye.below + 1 → eye.sampledLevel own a = own) :=
  ⟨fun h => if_pos h, fun h h' => if_neg fun h'' => h''.elim h h'⟩

/-! ### The word at the margin unit and the loss detector -/

theorem dwellWord_margin_congr {s u : State} (h : s.margin = u.margin) (l : Lane) (n : Nat) :
    (s.dwellWord l n).margin = (u.dwellWord l n).margin := by
  unfold State.dwellWord State.finishPoint State.setPoint
  rw [h]
  split
  · exact h
  · split
    · split
      · rfl
      · dsimp only
        split <;> rfl
      · exact h
    · exact h

section
variable {s : State} {l : Lane} {q : LockedWord} {rx : Reception} {above : List Bool}

/-- A received bit in the pattern sense differs from the expected one. -/
theorem countBelow_sense (pol : Polarity) (exp w : Word) :
    ((List.range 32).filter fun i => exp.getMsbD i != (pol.word w).getMsbD i) =
      (List.range 32).filter fun i => exp.getMsbD i != (w.getMsbD i ^^ decide (pol = .inverted)) :=
  List.filter_congr fun i hi => by rw [getMsbD_polarityWord pol w (List.mem_range.1 hi)]

theorem State.judged_errors : (s.judged l q).bits.length =
    ((List.range 32).filter fun i => (s.nextWord l q).1.getMsbD i !=
      (q.word.getMsbD i ^^ decide ((s.lane l).chk.config.polarity = .inverted))).length := by
  rw [State.length_judged, State.senseOf, countBelow_sense]

theorem State.sampledErrors_eq (above : List Bool) : s.sampledErrors l q above =
    ((List.range 32).filter fun i => (s.nextWord l q).1.getMsbD i !=
      ((s.sampledWord l above q.word).getMsbD i ^^ decide ((s.lane l).chk.config.polarity = .inverted))).length := by
  rw [State.sampledErrors, popCount_eq, ← countBelow_sense]
  refine congrArg List.length (List.filter_congr fun i _ => ?_)
  rw [BitVec.getMsbD_xor]

theorem State.met_margin (above : List Bool) :
    (s.met l q above).margin = (s.dwellWord l (s.sampledErrors l q above)).margin :=
  dwellWord_margin_congr (s := s.accounted l q) (u := s) (State.account_margin ..) ..

/-- What a loss by errors leaves of checker, path, flags, margin unit and line (R42, R53, R54, R142). -/
theorem loss_effects (above : List Bool) (written : Bool) :
    (((s.met l q above).declareLoss l written).lane l).chk = { (s.lane l).chk with phase := .hunt 0 0 } ∧
      (((s.met l q above).declareLoss l written).lane l).path = q.rest ∧
      ((s.met l q above).declareLoss l written).flagSet l .lockLost = true ∧
      (s.line.enabled.getLsbD 0 = true →
        ((s.met l q above).declareLoss l written).line.Announces (.lock l .hunt .errors)) ∧
      ((s.met l q above).declareLoss l written).margin =
        ((s.dwellWord l (s.sampledErrors l q above)).marginTransition l .locked .hunt).margin := by
  have hchk := State.met_chk (s := s) (l := l) (q := q) above
  have hpath := State.met_path (s := s) (l := l) (q := q) above
  have hstate := State.met_chkState (s := s) (l := l) (q := q) above
  have hmargin := State.met_margin (s := s) (l := l) (q := q) above
  have hon : s.line.enabled = (s.met l q above).line.enabled := (touches_met above).queued.enabled.symm
  generalize s.met l q above = u at *
  rw [State.declareLoss_eq]
  have hmissed := missed_written written l u
  have hwmargin : (if written then u.writeCompletion else u).margin = u.margin := by
    split
    · exact State.writeCompletion_margin u
    · rfl
  have hwon : (if written then u.writeCompletion else u).line.enabled = u.line.enabled := by
    split
    · exact (touches_writeCompletion (L := anyLane) (F := anyFlag) u).queued.enabled
    · rfl
  generalize (if written then u.writeCompletion else u) = v at *
  have hmem := mem_one (lossMove l)
  refine ⟨?_, ?_, transition_flagSet (nodup_one _) hmem v rfl, fun h => ?_, ?_⟩
  · refine (transition_chk (nodup_one _) hmem v).trans ?_
    rw [show (lossMove l).lane = l from rfl, hmissed.chk, hchk]
    rfl
  · refine (transition_path (nodup_one _) hmem v).trans ?_
    rw [show (lossMove l).lane = l from rfl, hmissed.path, hpath]
    rfl
  · exact transition_announces_lock (nodup_one _) hmem (by rw [hwon, ← hon]; exact h)
  · refine (transition_margin (nodup_one _) v).trans ?_
    rw [List.foldl_cons, List.foldl_nil, show (lossMove l).lane = l from rfl, hmissed.chkState, hstate]
    exact marginTransition_margin_congr (hwmargin.trans hmargin) ..

end

/-- Settles O34. -/
theorem wordResultLossDetector : Obligations.WordResultLossDetector := by
  intro s l rx above written w rest src last c e hphase hinput
  obtain ⟨q, hq⟩ : ∃ q : LockedWord, q = ⟨src, last, c, e, w, rest⟩ := ⟨_, rfl⟩
  have hcompares : s.Compares l q rx := by
    subst hq
    exact ⟨hphase, hinput⟩
  have htouch := touches_lockedWord (L := (· = l)) (F := anyFlag) rx above written s rfl trivial trivial
  have hexec := exec_wordResult s l rx above written
  have hshows := State.shows_pump (s.lockedWord l rx above written)
  have hbad := State.judged_errors (s := s) (l := l) (q := q)
  have hoff := State.sampledErrors_eq (s := s) (l := l) (q := q) above
  refine ⟨_, s.nextWord l q, s.sampledWord l above w, (s.judged l q).bits.length, s.sampledErrors l q above, hexec,
    htouch.sameBase.trans (sameBase_pump _), htouch.otherLanesKept.shows hshows, by subst hq; rfl, by subst hq; exact hbad,
    by subst hq; exact hoff, fun hloop => sampledWord_loopback l above w s hloop, fun place hs hl hloop =>
      ⟨fun hnrz hlen i a => State.sampledWord_nrz hs hl hloop hnrz hlen w,
        fun hpam4 hlen j a low ha hlow hmid hup => ?_⟩, ?_, fun hloss => ?_, fun hkeep => ?_⟩
  · have hlevel := State.symbolLevel_sampledWord hs hl hloop hpam4 hlen w ha
    obtain ⟨hnear, hfar⟩ := place.eye.sampledLevel_cases (symbolLevel w j) a
    rw [Eye.below_of hlow hmid hup] at hnear hfar
    exact ⟨fun h => hlevel.trans (hnear h), fun h h' => hlevel.trans (hfar h h')⟩
  · rw [hshows.lane]
    by_cases hloss : s.Loses l q
    · rw [hcompares.lockedWord_loss hloss, (loss_effects above written).2.1, hq]
    · rw [hcompares.lockedWord_kept hloss, State.met_path, hq]
  · have hloses : s.Loses l q := by
      subst hq
      exact hloss
    obtain ⟨hchk, -, hflag, hlock, hmargin⟩ := loss_effects (s := s) (l := l) (q := q) above written
    rw [hshows.lane, hshows.flagSet, hshows.announces, hshows.margin, hcompares.lockedWord_loss hloses]
    exact ⟨hchk, hflag, hlock, hmargin⟩
  · have hkept : ¬s.Loses l q := by
      subst hq
      exact Nat.not_lt.2 hkeep
    rw [hshows.lane, hshows.margin, hcompares.lockedWord_kept hkept, State.met_chk]
    refine ⟨State.met_margin above, rfl, ?_⟩
    subst hq
    rfl

end Sys2Proof.Machine
/-! A locked word at the gate (O35, R58 to R67, R70, R73, R98). -/

namespace Sys2Proof.Machine

/-! ### What follows a tally leaves of its counters -/

/-- The lane may have closed its open burst, counted captures missed and settled its interval; its other counters are the
same. -/
def LaneState.ClosedFrom (x y : LaneState) : Prop :=
  (∃ (bins : Vector Nat 12) (missed marked : Nat), y.gate.counters = { x.gate.counters with
    bins := bins, missed := missed, errIntervals := marked }) ∧
  ((y.acct.tracker = x.acct.tracker ∧ y.gate.counters.bins = x.gate.counters.bins) ∨
    (y.acct.tracker = .closed ∧ y.gate.counters.bins = x.closeBurst.gate.counters.bins))

section
variable {x y z : LaneState} {l : Lane} {now : Nat}

theorem LaneState.closeBurst_bins_congr (ht : y.acct.tracker = x.acct.tracker)
    (hb : y.gate.counters.bins = x.gate.counters.bins) :
    y.closeBurst.gate.counters.bins = x.closeBurst.gate.counters.bins := by
  unfold LaneState.closeBurst
  rw [ht, hb]

theorem LaneState.ClosedFrom.trans (h : x.ClosedFrom y) (h' : y.ClosedFrom z) : x.ClosedFrom z := by
  obtain ⟨⟨b, n, i, hc⟩, hbins⟩ := h
  obtain ⟨⟨b', n', i', hc'⟩, hbins'⟩ := h'
  refine ⟨⟨b', n', i', by rw [hc', hc]⟩, ?_⟩
  rcases hbins with ⟨ht, hb⟩ | ⟨ht, hb⟩
  · exact hbins'.imp (fun ⟨ht', hb'⟩ => ⟨ht'.trans ht, hb'.trans hb⟩)
      fun ⟨ht', hb'⟩ => ⟨ht', hb'.trans (LaneState.closeBurst_bins_congr ht hb)⟩
  · refine .inr ?_
    rcases hbins' with ⟨ht', hb'⟩ | ⟨ht', hb'⟩
    · exact ⟨ht'.trans ht, hb'.trans hb⟩
    · exact ⟨ht', (hb'.trans (LaneState.closeBurst_bins_closed ht)).trans hb⟩

theorem LaneState.ClosedFrom.of_eq (hc : y.gate.counters = x.gate.counters) (ht : y.acct.tracker = x.acct.tracker) :
    x.ClosedFrom y := ⟨⟨_, _, _, hc⟩, .inl ⟨ht, congrArg Counters.bins hc⟩⟩

theorem LaneState.ClosedFrom.refl (x : LaneState) : x.ClosedFrom x := .of_eq rfl rfl

theorem LaneState.Missed.closedFrom (h : x.Missed y) : x.ClosedFrom y := by
  obtain ⟨⟨n, rfl⟩, -⟩ := h
  exact ⟨⟨_, n, _, rfl⟩, .inl ⟨rfl, rfl⟩⟩

theorem LaneState.closedFrom_closeBurst (x : LaneState) : x.ClosedFrom x.closeBurst :=
  ⟨⟨_, _, _, rfl⟩, .inr ⟨rfl, rfl⟩⟩

theorem LaneState.closedFrom_finishGate (l : Lane) (r : EndReason) (now : Nat) (x : LaneState) :
    x.ClosedFrom (x.finishGate l r now) := ⟨⟨_, _, _, rfl⟩, .inr ⟨rfl, rfl⟩⟩

theorem LaneState.closedFrom_closeOnExit (left : CheckerState) (x : LaneState) : x.ClosedFrom (x.closeOnExit left) := by
  unfold LaneState.closeOnExit
  split
  · exact x.closedFrom_closeBurst
  · exact .refl x

theorem LaneState.closedFrom_meetLimits (l : Lane) (now : Nat) (x : LaneState) : x.ClosedFrom (x.meetLimits l now) := by
  unfold LaneState.meetLimits
  split_ifs
  · exact x.closedFrom_finishGate ..
  · exact x.closedFrom_finishGate ..
  · exact .refl x

theorem LaneState.closedFrom_lockLoss (l : Lane) (held : Bool) (now : Nat) (x : LaneState) :
    x.ClosedFrom (x.lockLoss l held now) := by
  have hloss : x.ClosedFrom { x with gate := x.gate.addLoss } := .of_eq rfl rfl
  unfold LaneState.lockLoss
  split
  · exact x.closedFrom_finishGate ..
  · split
    · exact hloss.trans ⟨⟨_, _, _, rfl⟩, .inr ⟨rfl, rfl⟩⟩
    · split
      · exact hloss
      · exact hloss.trans ⟨⟨_, _, _, rfl⟩, .inr ⟨rfl, rfl⟩⟩
      · exact hloss.trans (LaneState.closedFrom_finishGate ..)

/-- A lost lock leaves no burst open (R67). -/
theorem LaneState.lockLoss_tracker {held : Bool} (h : x.acct.tracker = .closed) :
    (x.lockLoss l held now).acct.tracker = .closed := by
  unfold LaneState.lockLoss
  split
  · rfl
  · split
    · rfl
    · split
      · exact h
      · rfl
      · rfl

/-- The lane of a loss by errors: closed and, by its policy, lost. -/
theorem LaneState.move_lossMove (l : Lane) (now : Nat) (x : LaneState) (hleft : x.chkState = .locked) :
    x.move (lossMove l) now =
      if x.gate.state = .running then (x.enter (.hunt 0 0) .errors).closeBurst.lockLoss l false now
      else (x.enter (.hunt 0 0) .errors).closeBurst := by
  have hclose : (x.enter (.hunt 0 0) .errors).closeOnExit .locked = (x.enter (.hunt 0 0) .errors).closeBurst := if_pos rfl
  unfold LaneState.move LaneState.meetTransition
  rw [hleft, if_neg nofun, if_neg nofun]
  refine (congrFun (congrArg (ite _) (if_pos ⟨rfl, .inl rfl⟩)) _).trans ?_
  rw [show (lossMove l).phase = .hunt 0 0 from rfl, show (lossMove l).reason = .errors from rfl, hclose]
  rfl

theorem LaneState.closedFrom_lossMove (l : Lane) (now : Nat) (x : LaneState) (hleft : x.chkState = .locked) :
    x.ClosedFrom (x.move (lossMove l) now) := by
  have henter : x.ClosedFrom (x.enter (.hunt 0 0) .errors) := .of_eq rfl rfl
  have hclosed := henter.trans (LaneState.closedFrom_closeBurst _)
  rw [LaneState.move_lossMove l now x hleft]
  split
  · exact hclosed.trans (LaneState.closedFrom_lockLoss ..)
  · exact hclosed

theorem LaneState.lossMove_tracker (l : Lane) (now : Nat) (x : LaneState) (hleft : x.chkState = .locked) :
    (x.move (lossMove l) now).acct.tracker = .closed := by
  rw [LaneState.move_lossMove l now x hleft]
  split
  · exact LaneState.lockLoss_tracker rfl
  · rfl

/-- A gate that has ended, its burst closed, does not notice its checker's loss. -/
theorem LaneState.lossMove_of_done (l : Lane) (now : Nat) (hleft : x.chkState = .locked) (hrun : x.gate.state ≠ .running)
    (ht : x.acct.tracker = .closed) :
    (x.move (lossMove l) now).gate = x.gate ∧ (x.move (lossMove l) now).acct.tracker = .closed := by
  refine ⟨?_, LaneState.lossMove_tracker l now x hleft⟩
  rw [LaneState.move_lossMove l now x hleft, if_neg hrun]
  have hbins := LaneState.closeBurst_bins_closed (x := x.enter (.hunt 0 0) .errors) ht
  exact congrArg (fun bins => { x.gate with counters := { x.gate.counters with bins := bins } }) hbins

theorem LaneState.Missed.tracker (h : x.Missed y) : y.acct.tracker = x.acct.tracker := by
  obtain ⟨⟨n, rfl⟩, -⟩ := h
  rfl

end

/-! ### A loss after the word -/

section
variable {s u : State} {l : Lane} {q : LockedWord}

/-- The lane after a loss by errors, captures missed aside. -/
theorem lane_declareLoss (l : Lane) (written : Bool) (u : State) :
    ∃ x, (u.lane l).Missed x ∧ (x.move (lossMove l) u.uptime).Missed ((u.declareLoss l written).lane l) := by
  rw [State.declareLoss_eq]
  have hw := missed_written written l u
  have hup : (if written then u.writeCompletion else u).uptime = u.uptime := by
    split
    · exact (touches_writeCompletion (L := anyLane) (F := anyFlag) u).sameBase.uptime
    · rfl
  obtain ⟨x, hx, hmove⟩ := missed_transition (nodup_one _) (mem_one (lossMove l))
    (if written then u.writeCompletion else u)
  rw [hup] at hmove
  exact ⟨x, hw.trans hx, hmove⟩

theorem closedFrom_declareLoss (hleft : (u.lane l).chkState = .locked) (written : Bool) :
    (u.lane l).ClosedFrom ((u.declareLoss l written).lane l) := by
  obtain ⟨x, hx, hmove⟩ := lane_declareLoss l written u
  exact (hx.closedFrom.trans (x.closedFrom_lossMove l _ (hx.chkState.trans hleft))).trans hmove.closedFrom

theorem tracker_declareLoss (hleft : (u.lane l).chkState = .locked) (written : Bool) :
    ((u.declareLoss l written).lane l).acct.tracker = .closed := by
  obtain ⟨x, hx, hmove⟩ := lane_declareLoss l written u
  exact hmove.tracker.trans (x.lossMove_tracker l _ (hx.chkState.trans hleft))

/-- A gate that has ended stays as it ended. -/
theorem gate_declareLoss_of_done (hleft : (u.lane l).chkState = .locked) (hdone : (u.lane l).gate.state = .done)
    (ht : (u.lane l).acct.tracker = .closed) (written : Bool) :
    ((u.declareLoss l written).lane l).gate = (u.lane l).gate := by
  obtain ⟨x, hx, hmove⟩ := lane_declareLoss l written u
  have hidle : (u.lane l).gate.state.active = false := by
    rw [hdone]
    rfl
  obtain rfl := hx.2 hidle
  obtain ⟨hgate, -⟩ := LaneState.lossMove_of_done l u.uptime hleft (by rw [hdone]; decide) ht
  rw [hmove.2 (by rw [hgate]; exact hidle), hgate]

theorem State.gated_of_idle {m : Move} (hlocked : m.phase.state ≠ .locked) (hoff : m.phase.state ≠ .off)
    (hrun : (u.lane m.lane).gate.state ≠ .running) :
    u.gated m = (u.entered m).modLane m.lane (LaneState.closeOnExit (u.lane m.lane).chkState) := by
  have hrun' : ¬((u.entered m).lane m.lane).gate.state = .running := by
    rw [State.entered_lane, if_pos rfl]
    exact hrun
  unfold State.gated State.gateTransition
  dsimp only
  rw [if_neg hlocked, if_neg hoff, if_neg hrun', State.closeOnExit_eq]

/-- A loss queues no GATE notice of a gate that is not RUNNING. -/
theorem queued_loss_of_idle (hrun : (u.lane l).gate.state ≠ .running) :
    u.line.Queued (fun n => n.kind ≠ .gate) (u.transition [lossMove l]).line := by
  have hexit : u.exitCandidate (lossMove l) = u := State.exitCandidate_of_noExit (.inr (.inl hrun))
  have hgrant : u.line.Queued (fun n => n.kind ≠ .gate) u.grant.line := queued_grant (fun _ _ _ => nofun) (fun _ _ => nofun) u
  have hrun' : (u.grant.lane l).gate.state ≠ .running := by
    rw [(missed_grant l u).state]
    exact hrun
  rw [transition_one, hexit]
  refine hgrant.trans ?_
  rw [State.applyMove_eq, State.entryCandidate_of_ne (m := lossMove l) nofun, State.gated_of_idle (m := lossMove l) nofun nofun hrun']
  have hentered := queued_entered (P := fun n => n.kind ≠ .gate) (fun _ _ _ h => by cases h) (lossMove l) u.grant
  refine (hentered.trans (queued_marginTransition (s := ((u.grant.entered (lossMove l)).modLane (lossMove l).lane
    (LaneState.closeOnExit (u.grant.lane (lossMove l).lane).chkState))) (fun n hn => ?_) ..)).trans
    (ControlLine.queued_one (fun h => by cases h) _)
  rcases hn with hn | hn <;> rw [hn] <;> exact nofun

theorem State.GateEnded.declareLoss {r : EndReason} {now : Nat} (h : u.GateEnded l r now)
    (hleft : (u.lane l).chkState = .locked) (ht : (u.lane l).acct.tracker = .closed) (written : Bool) :
    (u.declareLoss l written).GateEnded l r now := by
  obtain ⟨hstate, hstamp, hnotice, hrecord⟩ := h
  have hgate := gate_declareLoss_of_done hleft hstate ht written
  have hwgate := (missed_written written l u).state
  have hline : ((if written then u.writeCompletion else u).line.enabled = u.line.enabled) ∧
      ∀ n : EndReason, u.line.Announces (.gate l n) →
        (if written then u.writeCompletion else u).line.Announces (.gate l n) := by
    have hw := (touches_writeCompletion (L := fun _ => False) (F := anyFlag) u).queued
    split
    · exact ⟨hw.enabled, fun n => hw.announces fun _ hn => gate_sameKey_of_noticeOf not_false hn⟩
    · exact ⟨rfl, fun _ => id⟩
  rw [State.GateEnded, hgate]
  rw [State.declareLoss_eq]
  generalize (if written then u.writeCompletion else u) = w at *
  obtain ⟨hon, hkeep⟩ := hline
  refine ⟨hstate, hstamp, fun hen => ?_, hrecord⟩
  rw [transition_enabled, hon] at hen
  refine (queued_loss_of_idle (l := l) ?_).announces (fun n hn => not_sameKey_of_kind (Ne.symm hn)) (hkeep r (hnotice hen))
  rw [hwgate, hstate]
  decide

end

end Sys2Proof.Machine

/-! The accounting of a locked word, settled (O35). -/

namespace Sys2Proof.Machine

/-! ### The directions of a word (R61) -/

section
variable (table : Vector (Option Filter) 16) (l : Lane)

theorem addBit_onesToZero (c : Counters) (e : ErroredBit) :
    (Counters.addBit table l c e).onesToZero = c.onesToZero + if e.direction == .onesToZero then 1 else 0 := by
  unfold Counters.addBit
  cases e.direction <;> dsimp only <;> split <;> rfl

theorem addBit_zerosToOne (c : Counters) (e : ErroredBit) :
    (Counters.addBit table l c e).zerosToOne = c.zerosToOne + if e.direction == .zerosToOne then 1 else 0 := by
  unfold Counters.addBit
  cases e.direction <;> dsimp only <;> split <;> rfl

end

section
variable {s u t : State} {l : Lane} {q : LockedWord} {above : List Bool} {written : Bool}

theorem State.wordTally_onesToZero : (s.wordTally l q).inc.onesToZero =
    ((List.range 32).filter fun i => (s.nextWord l q).1.getMsbD i && !(s.senseOf l q).getMsbD i).length := by
  have h := foldl_addBit (f := Counters.onesToZero) s.filters l (addBit_onesToZero s.filters l)
    (errorsOf q.last (s.nextWord l q).1 (s.senseOf l q)) .zero
  rw [length_filter_errorsOf _ _ _ fun e => e.direction == .onesToZero] at h
  refine (h.trans (Nat.zero_add _)).trans (countBelow_congr fun i _ => ?_)
  unfold errsAt directionOf
  cases (s.nextWord l q).1.getMsbD i <;> cases (s.senseOf l q).getMsbD i <;> rfl

theorem State.wordTally_zerosToOne : (s.wordTally l q).inc.zerosToOne =
    ((List.range 32).filter fun i => !(s.nextWord l q).1.getMsbD i && (s.senseOf l q).getMsbD i).length := by
  have h := foldl_addBit (f := Counters.zerosToOne) s.filters l (addBit_zerosToOne s.filters l)
    (errorsOf q.last (s.nextWord l q).1 (s.senseOf l q)) .zero
  rw [length_filter_errorsOf _ _ _ fun e => e.direction == .zerosToOne] at h
  refine (h.trans (Nat.zero_add _)).trans (countBelow_congr fun i _ => ?_)
  unfold errsAt directionOf
  cases (s.nextWord l q).1.getMsbD i <;> cases (s.senseOf l q).getMsbD i <;> rfl

theorem State.wordTally_errors : (s.wordTally l q).inc.errors =
    ((List.range 32).filter fun i => (s.nextWord l q).1.getMsbD i != (s.senseOf l q).getMsbD i).length :=
  tallyOf_errors ..

/-! ### The end of WORD_RESULT -/

/-- What WORD_RESULT leaves before a frame may begin: the word met, and a loss if one is declared. -/
def State.WordEnds (s : State) (l : Lane) (q : LockedWord) (above : List Bool) (written : Bool) (t : State) : Prop :=
  (s.Loses l q ∧ t = (s.met l q above).declareLoss l written) ∨ (¬s.Loses l q ∧ t = s.met l q above)

theorem State.Compares.wordEnds {rx : Reception} (h : s.Compares l q rx) (above : List Bool) (written : Bool) :
    s.WordEnds l q above written (s.lockedWord l rx above written) := by
  by_cases hloss : s.Loses l q
  · exact .inl ⟨hloss, h.lockedWord_loss hloss ..⟩
  · exact .inr ⟨hloss, h.lockedWord_kept hloss ..⟩

theorem State.WordEnds.closedFrom_met (h : s.WordEnds l q above written t) :
    ((s.met l q above).lane l).ClosedFrom (t.lane l) := by
  rcases h with ⟨-, rfl⟩ | ⟨-, rfl⟩
  · exact closedFrom_declareLoss (State.met_chkState above) written
  · exact .refl _

/-- A word that no RUNNING gate counts leaves the counters but for captures missed. -/
theorem State.WordEnds.closedFrom_uncounted (h : s.WordEnds l q above written t)
    (hno : (s.lane l).gate.state ≠ .running ∨ ((s.lane l).gate.counters.add (s.wordTally l q).inc).withinMax = false) :
    (s.lane l).ClosedFrom (t.lane l) := by
  have htaken : (s.lane l).ClosedFrom ((s.taken l q).lane l) := by
    rw [State.taken_self]
    exact .of_eq rfl rfl
  refine LaneState.ClosedFrom.trans ?_ h.closedFrom_met
  rw [State.met_lane, State.accounted_eq]
  split
  · next hrun =>
    rw [if_neg (by rw [hno.resolve_left fun h => h hrun]; exact Bool.false_ne_true), State.saturateGate_lane, if_pos rfl]
    exact htaken.trans (LaneState.closedFrom_finishGate ..)
  · exact htaken

theorem State.accounted_counted (hrun : (s.lane l).gate.state = .running)
    (hmax : ((s.lane l).gate.counters.add (s.wordTally l q).inc).withinMax = true) :
    s.accounted l q = ((s.taken l q).counted l (s.wordTally l q)).testLimits l := by
  rw [State.accounted_eq, if_pos hrun, if_pos hmax, State.acceptTally_eq]

/-- The lane that has counted a word. -/
theorem State.missed_taken_counted :
    (((s.lane l).takeInput q.rest (s.lossPhase l q)).takeTally (s.wordTally l q)).Missed
      (((s.taken l q).counted l (s.wordTally l q)).lane l) := by
  rw [← State.taken_self]
  exact State.missed_counted _

theorem State.WordEnds.closedFrom_counted (h : s.WordEnds l q above written t) (hrun : (s.lane l).gate.state = .running)
    (hmax : ((s.lane l).gate.counters.add (s.wordTally l q).inc).withinMax = true) :
    (((s.lane l).takeInput q.rest (s.lossPhase l q)).takeTally (s.wordTally l q)).ClosedFrom (t.lane l) := by
  refine (State.missed_taken_counted.closedFrom.trans ?_).trans h.closedFrom_met
  rw [State.met_lane, State.accounted_counted hrun hmax, State.testLimits_lane, if_pos rfl]
  exact LaneState.closedFrom_meetLimits ..

/-! ### Gates that the word ends (R70, R98) -/

/-- The lane's gate has ended so, with these counts, and no burst is open. -/
structure State.GateStopped (t : State) (l : Lane) (r : EndReason) (now : Nat) (c : GateCounts) : Prop where
  ended : t.GateEnded l r now
  counts : (t.lane l).gate.counts = c
  closed : (t.lane l).acct.tracker = .closed

theorem State.gateStopped_endGate (r : EndReason) (u : State) :
    (u.endGate l r).GateStopped l r u.uptime (u.lane l).gate.counts := by
  have hlane : (u.endGate l r).lane l = (u.lane l).finishGate l r u.uptime := (State.endGate_lane ..).trans (if_pos rfl)
  refine ⟨State.gateEnded_of hlane fun h => State.endGate_announces ?_, by rw [hlane]; rfl, by rw [hlane]; rfl⟩
  exact h

theorem State.gateStopped_saturateGate (u : State) :
    (u.saturateGate l).GateStopped l .saturated u.uptime (u.lane l).gate.counts :=
  State.gateStopped_endGate .saturated (u.setFlag l .saturated)

section
variable {r : EndReason} {now : Nat} {c : GateCounts}

theorem State.GateStopped.dwellWord (h : u.GateStopped l r now c) (n : Nat) : (u.dwellWord l n).GateStopped l r now c := by
  obtain ⟨⟨hstate, hstamp, hnotice, hrecord⟩, hcounts, hclosed⟩ := h
  have hqueued := (touches_dwellWord (L := fun _ => False) (F := anyFlag) l n u).queued
  refine ⟨?_, by rw [State.dwellWord_lane]; exact hcounts, by rw [State.dwellWord_lane]; exact hclosed⟩
  unfold State.GateEnded
  rw [State.dwellWord_lane, hqueued.enabled]
  exact ⟨hstate, hstamp, fun hon => hqueued.announces (fun _ hn => gate_sameKey_of_noticeOf not_false hn) (hnotice hon),
    hrecord⟩

theorem State.WordEnds.gateStopped (h : s.WordEnds l q above written t) (hstop : (s.accounted l q).GateStopped l r now c) :
    t.GateStopped l r now c := by
  have hmet : (s.met l q above).GateStopped l r now c := hstop.dwellWord _
  rcases h with ⟨-, rfl⟩ | ⟨-, rfl⟩
  · obtain ⟨hended, hcounts, hclosed⟩ := hmet
    have hleft := State.met_chkState (s := s) (l := l) (q := q) above
    refine ⟨hended.declareLoss hleft hclosed written, ?_, tracker_declareLoss hleft written⟩
    rw [gate_declareLoss_of_done hleft hended.1 hclosed, hcounts]
  · exact hmet

end

/-- A tally that fails the test ends the gate SATURATED (R70). -/
theorem State.accounted_saturated (hrun : (s.lane l).gate.state = .running)
    (hmax : ((s.lane l).gate.counters.add (s.wordTally l q).inc).withinMax = false) :
    s.accounted l q = (s.taken l q).saturateGate l := by
  rw [State.accounted_eq, if_pos hrun, if_neg (by rw [hmax]; exact Bool.false_ne_true)]

theorem State.taken_counts : ((s.taken l q).lane l).gate.counts = (s.lane l).gate.counts := by
  rw [State.taken_self]
  rfl

/-- The gate as the limits meet it: its settings and counts those before the word, its counters with the tally. -/
theorem State.counted_gate :
    (((s.taken l q).counted l (s.wordTally l q)).lane l).gate.config = (s.lane l).gate.config ∧
      (((s.taken l q).counted l (s.wordTally l q)).lane l).gate.counts = (s.lane l).gate.counts ∧
      (((s.taken l q).counted l (s.wordTally l q)).lane l).gate.counters.errors =
        (s.lane l).gate.counters.errors + (s.wordTally l q).inc.errors ∧
      (((s.taken l q).counted l (s.wordTally l q)).lane l).gate.counters.bits = (s.lane l).gate.counters.bits + 32 := by
  obtain ⟨⟨n, hn⟩, -⟩ := State.missed_taken_counted (s := s) (l := l) (q := q)
  rw [hn]
  exact ⟨rfl, rfl, rfl, rfl⟩

theorem State.counted_uptime (v : State) (l : Lane) (t : Tally) : (v.counted l t).uptime = v.uptime := by
  cases h : t.candidate with
  | none =>
    rw [State.counted_none h]
    rfl
  | some cand =>
    have hoffer : ((v.modLane l (LaneState.takeTally t)).offerTally l cand).uptime = v.uptime := by
      unfold State.offerTally
      split <;> rfl
    rw [State.counted_some h, (sameBase_grant _).uptime, hoffer]

section
variable (hrun : (s.lane l).gate.state = .running)
  (hmax : ((s.lane l).gate.counters.add (s.wordTally l q).inc).withinMax = true)
include hrun hmax

theorem State.accounted_of_errors (hpos : 0 < (s.lane l).gate.config.errorLimit)
    (hreach : (s.lane l).gate.config.errorLimit ≤ (s.lane l).gate.counters.errors + (s.wordTally l q).inc.errors) :
    (s.accounted l q).GateStopped l .errors s.uptime (s.lane l).gate.counts := by
  obtain ⟨hconfig, hcounts, herrors, -⟩ := State.counted_gate (s := s) (l := l) (q := q)
  have htest : ((s.taken l q).counted l (s.wordTally l q)).testLimits l =
      ((s.taken l q).counted l (s.wordTally l q)).endGate l .errors :=
    if_pos ⟨by rw [hconfig]; exact Nat.ne_of_gt hpos, by rw [hconfig, herrors]; exact hreach⟩
  have hstop := State.gateStopped_endGate (l := l) .errors ((s.taken l q).counted l (s.wordTally l q))
  rw [State.counted_uptime, hcounts] at hstop
  rw [State.accounted_counted hrun hmax, htest]
  exact hstop

theorem State.accounted_of_bits
    (hbelow : (s.lane l).gate.config.errorLimit = 0 ∨
      (s.lane l).gate.counters.errors + (s.wordTally l q).inc.errors < (s.lane l).gate.config.errorLimit)
    (hpos : 0 < (s.lane l).gate.config.bitLimit)
    (hreach : (s.lane l).gate.config.bitLimit ≤ (s.lane l).gate.counters.bits + 32) :
    (s.accounted l q).GateStopped l .bits s.uptime (s.lane l).gate.counts := by
  obtain ⟨hconfig, hcounts, herrors, hbits⟩ := State.counted_gate (s := s) (l := l) (q := q)
  have htest : ((s.taken l q).counted l (s.wordTally l q)).testLimits l =
      ((s.taken l q).counted l (s.wordTally l q)).endGate l .bits := by
    refine (if_neg fun ⟨hne, hle⟩ => ?_).trans
      (if_pos ⟨by rw [hconfig]; exact Nat.ne_of_gt hpos, by rw [hconfig, hbits]; exact hreach⟩)
    rw [hconfig] at hne hle
    rw [herrors] at hle
    exact hbelow.elim hne (Nat.not_lt.2 hle)
  have hstop := State.gateStopped_endGate (l := l) .bits ((s.taken l q).counted l (s.wordTally l q))
  rw [State.counted_uptime, hcounts] at hstop
  rw [State.accounted_counted hrun hmax, htest]
  exact hstop

end

/-! ### The capture log after the word (R73, R146, R147) -/

/-- What became of an offered candidate stays, when all that follows leaves a settled log and queues no LOG notice. -/
theorem State.Offered.settled_after {cand : Candidate} (h : s.Offered u l cand) (hlog : u.log.Settled → t.log = u.log)
    (hflag : u.flagSet l .captureMissed = true → t.flagSet l .captureMissed = true)
    (hline : u.log.Settled → u.line.Queued Notice.notLog t.line) : s.Offered t l cand := by
  obtain ⟨htake, hwrite, hlose, hdrop⟩ := h
  refine ⟨fun hempty hport => ?_, fun hempty hport hroom => ?_, fun hempty hport hstop hlen => ?_, fun old hold hport => ?_⟩
  · have hu := htake hempty hport
    exact (hlog (.inl (by rw [hu]; exact hport))).trans hu
  · have hu := hwrite hempty hport hroom
    exact (hlog (.inl (by rw [hu]; nofun))).trans hu
  · obtain ⟨hu, hset, hfull⟩ := hlose hempty hport hstop hlen
    have hsettled : u.log.Settled := .inr (by rw [hu]; exact hempty)
    refine ⟨(hlog hsettled).trans hu, hflag hset, fun r hr => ⟨fun hmark hon => ?_, fun hmark n k hn => ?_⟩⟩
    · exact (hline hsettled).announces (fun _ hn => not_sameKey_of_kind (Ne.symm hn)) ((hfull r hr).1 hmark hon)
    · exact (hfull r hr).2 hmark n k ((hline hsettled).announces_before hn fun h => h rfl)
  · obtain ⟨hu, hset⟩ := hdrop old hold hport
    exact ⟨(hlog (.inl (by rw [hu]; exact hport))).trans hu, hflag hset⟩

theorem State.met_raisesLock_of_counted (hrun : (s.lane l).gate.state = .running)
    (hmax : ((s.lane l).gate.counters.add (s.wordTally l q).inc).withinMax = true) {cand : Candidate}
    (hc : (s.wordTally l q).candidate = some cand) (above : List Bool) : (s.met l q above).log.lanes[l].RaisesLock := by
  refine CaptureLane.SameButSlot.raisesLock ?_ (State.raisesLock_of_candidate hc)
  rw [State.met_log, State.accounted_counted hrun hmax, State.testLimits_log, State.counted_some hc]
  refine .trans ?_ (State.grant_sameButSlot ..)
  unfold State.offerTally
  split
  · exact .refl _
  · rw [State.fillSlot, State.modCapture_captureLane, if_pos rfl]
    exact ⟨_, rfl⟩

theorem noExit_lossMove (h : (u.lane l).gate.state ≠ .running) : ∀ m ∈ [lossMove l], u.NoExit m.lane := by
  intro m hm
  rw [List.mem_singleton.1 hm]
  exact .inr (.inl h)

theorem lossMove_ne_locked : ∀ m ∈ [lossMove l], m.phase.state ≠ .locked := by
  intro m hm
  rw [List.mem_singleton.1 hm]
  nofun

/-- The word's candidate, offered to the slot, whatever loss or limit follows (R73, R147). -/
theorem State.WordEnds.offered (h : s.WordEnds l q above written t) (hrun : (s.lane l).gate.state = .running)
    (hmax : ((s.lane l).gate.counters.add (s.wordTally l q).inc).withinMax = true) {cand : Candidate}
    (hc : (s.wordTally l q).candidate = some cand) (hw : written = false ∨ ¬s.Loses l q) : s.Offered t l cand := by
  have hmet := State.offered_met hrun hmax hc above
  rcases h with ⟨hloss, rfl⟩ | ⟨-, rfl⟩
  · have hleft := State.met_chkState (s := s) (l := l) (q := q) above
    have hraises := State.met_raisesLock_of_counted hrun hmax hc above
    rw [hw.resolve_right (not_not_intro hloss), State.declareLoss_false]
    generalize s.met l q above = u at *
    have hflag := (touches_transition [lossMove l] u).flagSet_mono (k := l) (g := .captureMissed)
    by_cases hrunning : (u.lane l).gate.state = .running
    · exact hmet.again (offered_transition_one (m := lossMove l) nofun hleft hrunning hraises) hflag
        (State.queued_transition_marked nofun)
    · have hno := noExit_lossMove hrunning
      refine hmet.settled_after (fun hset => transition_log_of_noExit hset hno lossMove_ne_locked) hflag fun hset => ?_
      rw [transition_of_noExit hset hno]
      exact queued_applyMove_of_ne (m := lossMove l) nofun u
  · exact hmet

/-- A word that no RUNNING gate counts leaves a settled log. -/
theorem State.WordEnds.log_uncounted (h : s.WordEnds l q above written t)
    (hno : (s.lane l).gate.state ≠ .running ∨ ((s.lane l).gate.counters.add (s.wordTally l q).inc).withinMax = false)
    (hset : s.log.Settled) (hw : written = false ∨ ¬s.Loses l q) : t.log = s.log := by
  have hlog := State.met_log_of_none (s := s) (l := l) (q := q) (.inr hno) above
  rcases h with ⟨hloss, rfl⟩ | ⟨-, rfl⟩
  · have hidle : ((s.met l q above).lane l).gate.state ≠ .running := by
      rw [State.met_lane, State.accounted_eq]
      split
      · next hrun =>
        rw [if_neg (by rw [hno.resolve_left fun h => h hrun]; exact Bool.false_ne_true), State.saturateGate_lane, if_pos rfl]
        nofun
      · next hrun =>
        rw [State.taken_self]
        exact hrun
    rw [hw.resolve_right (not_not_intro hloss), State.declareLoss_false]
    exact (transition_log_of_noExit (hlog ▸ hset) (noExit_lossMove hidle) lossMove_ne_locked).trans hlog
  · exact hlog

/-- Captures missed, where nothing but the tally counts them. -/
theorem State.met_missed_of_counted (hrun : (s.lane l).gate.state = .running)
    (hmax : ((s.lane l).gate.counters.add (s.wordTally l q).inc).withinMax = true)
    (h : s.log.port ≠ .free ∨ (s.wordTally l q).candidate = none) (above : List Bool) :
    ((s.met l q above).lane l).gate.counters.missed =
      (s.lane l).gate.counters.missed + (s.wordTally l q).inc.missed := by
  have hcounted := State.counted_missed (s := s.taken l q) (l := l) (t := s.wordTally l q) h.symm
  rw [State.taken_missed] at hcounted
  rw [State.met_lane, State.accounted_counted hrun hmax, State.testLimits_lane, if_pos rfl, ← hcounted]
  unfold LaneState.meetLimits
  split_ifs <;> rfl

end

end Sys2Proof.Machine
/-! WORD_RESULT and the gate (O35). -/

namespace Sys2Proof.Machine

section
variable {s t : State} {l : Lane} {q : LockedWord} {above : List Bool} {written : Bool}

/-- The bins after a counted word: the tally's, and the burst that a stop or a loss closed (R66, R67). -/
theorem LaneState.ClosedFrom.bins {b y : LaneState} (h : b.ClosedFrom y) :
    (y.acct.tracker = b.acct.tracker → y.gate.counters.bins = b.gate.counters.bins) ∧
      (∀ n run, b.acct.tracker = .opened n run → y.acct.tracker = .closed → ∀ k : Fin 12,
        y.gate.counters.bins[k] = b.gate.counters.bins[k] + if binTakes k n then 1 else 0) := by
  obtain ⟨-, ⟨ht, hb⟩ | ⟨ht, hb⟩⟩ := h
  · refine ⟨fun _ => hb, fun n run hopen hclosed => ?_⟩
    rw [ht, hopen] at hclosed
    cases hclosed
  · refine ⟨fun hsame => hb.trans (LaneState.closeBurst_bins_closed (hsame.symm.trans ht)), fun n run hopen _ k => ?_⟩
    rw [hb]
    exact LaneState.closeBurst_bins_opened hopen k

/-- A counted word that reaches no limit (R59). -/
theorem State.met_below (hrun : (s.lane l).gate.state = .running)
    (hmax : ((s.lane l).gate.counters.add (s.wordTally l q).inc).withinMax = true)
    (hb : (s.lane l).gate.Below ((s.lane l).gate.counters.errors + (s.wordTally l q).inc.errors)
      ((s.lane l).gate.counters.bits + 32)) (above : List Bool) :
    ((s.met l q above).lane l).acct = { tracker := (s.wordTally l q).tracker, mark := (s.wordTally l q).mark } ∧
      ((s.met l q above).lane l).gate = { (s.lane l).gate with counters := {
        (s.lane l).gate.counters.add (s.wordTally l q).inc with
        missed := ((s.met l q above).lane l).gate.counters.missed } } := by
  have hmissed := State.missed_below hrun hmax hb
  rw [← State.met_lane above] at hmissed
  obtain ⟨⟨n, hn⟩, -⟩ := hmissed
  rw [hn]
  exact ⟨rfl, rfl⟩

theorem State.WordEnds.kept (h : s.WordEnds l q above written t) (hkeep : ¬s.Loses l q) : t = s.met l q above := by
  rcases h with ⟨hloss, -⟩ | ⟨-, rfl⟩
  · exact absurd hloss hkeep
  · rfl

theorem State.WordEnds.lost (h : s.WordEnds l q above written t) (hloss : s.Loses l q) :
    (t.lane l).acct.tracker = .closed := by
  rcases h with ⟨-, rfl⟩ | ⟨hkeep, -⟩
  · exact tracker_declareLoss (State.met_chkState above) written
  · exact absurd hloss hkeep

theorem State.WordEnds.flagSet_mono (h : s.WordEnds l q above written t) {f : HistoryFlag}
    (hf : (s.accounted l q).flagSet l f = true) : t.flagSet l f = true := by
  have hmet : (s.met l q above).flagSet l f = true := (touches_dwellWord (L := anyLane) (F := anyFlag) l _ _).flagSet_mono hf
  rcases h with ⟨-, rfl⟩ | ⟨-, rfl⟩
  · exact (touches_declareLoss (L := anyLane) (F := anyFlag) written _ trivial trivial trivial).flagSet_mono hmet
  · exact hmet

theorem State.WordEnds.state_of_idle (h : s.WordEnds l q above written t) (hrun : (s.lane l).gate.state ≠ .running) :
    (t.lane l).gate.state = (s.lane l).gate.state := by
  rcases h with ⟨-, rfl⟩ | ⟨-, rfl⟩
  · exact (loss_of_idle hrun above written).1
  · rw [State.met_gate_idle hrun]

end

theorem State.GateStopped.shows {t t' : State} {l : Lane} {r : EndReason} {now : Nat} {c : GateCounts}
    (h : t.GateStopped l r now c) (hs : t.Shows t') : t'.GateStopped l r now c := by
  obtain ⟨hended, hcounts, hclosed⟩ := h
  exact ⟨hended.shows hs, by rw [hs.lane]; exact hcounts, by rw [hs.lane]; exact hclosed⟩

theorem addVec_getElem {n : Nat} (a b : Vector Nat n) (k : Fin n) : (addVec a b)[k] = a[k] + b[k] := by
  simp [addVec]

/-- Settles O35. -/
theorem wordResultAccounting : Obligations.WordResultAccounting := by
  intro s l rx above written w rest src last c e hphase hinput
  obtain ⟨q, hq⟩ : ∃ q : LockedWord, q = ⟨src, last, c, e, w, rest⟩ := ⟨_, rfl⟩
  have hcompares : s.Compares l q rx := by
    subst hq
    exact ⟨hphase, hinput⟩
  have hkeep : e + (s.judged l q).bits.length ≤ (s.lane l).chk.config.t → ¬s.Loses l q := by
    subst hq
    exact Nat.not_lt.2
  have hloss : (s.lane l).chk.config.t < e + (s.judged l q).bits.length → s.Loses l q := by
    subst hq
    exact id
  have hends := hcompares.wordEnds above written
  have hexec := exec_wordResult s l rx above written
  have hshows := State.shows_pump (s.lockedWord l rx above written)
  refine ⟨_, (s.nextWord l q).1, s.senseOf l q, s.judged l q, s.wordTally l q, _, _, hexec, by subst hq; rfl,
    by subst hq; rfl, by subst hq; rfl, by subst hq; rfl, rfl, rfl, ?_⟩
  clear hq hphase hinput hcompares hexec
  generalize (s.lockedWord l rx above written).pump = t' at *
  generalize s.lockedWord l rx above written = t at *
  rw [hshows.lane, hshows.flagSet, hshows.log]
  refine ⟨fun hrun hmax => ?_, fun hrun hmax => ?_, fun hrun => ?_⟩
  · have hclosed := hends.closedFrom_counted hrun hmax
    obtain ⟨hsame, hopen⟩ := hclosed.bins
    obtain ⟨⟨bins, missed, marked, hcounters⟩, -⟩ := hclosed
    have hmissed (h : s.log.port ≠ .free ∨ (s.wordTally l q).candidate = none)
        (hk : e + (s.judged l q).bits.length ≤ (s.lane l).chk.config.t) :
        (t.lane l).gate.counters.missed = (s.lane l).gate.counters.missed + (s.wordTally l q).inc.missed := by
      rw [hends.kept (hkeep hk)]
      exact State.met_missed_of_counted hrun hmax h above
    have hoffered (cand : Candidate) (hc : (s.wordTally l q).candidate = some cand)
        (h : written = false ∨ e + (s.judged l q).bits.length ≤ (s.lane l).chk.config.t) : s.Offered t' l cand :=
      (hends.offered hrun hmax hc (h.imp_right hkeep)).shows hshows
    have hlog (hc : (s.wordTally l q).candidate = none) (hk : e + (s.judged l q).bits.length ≤ (s.lane l).chk.config.t) :
        t.log = s.log := by
      rw [hends.kept (hkeep hk)]
      exact State.met_log_of_none (.inl hc) above
    have herrors : (t.lane l).gate.counters.errors = (s.lane l).gate.counters.errors + (s.wordTally l q).inc.errors := by
      rw [hcounters]
      rfl
    have hbits : (t.lane l).gate.counters.bits = (s.lane l).gate.counters.bits + 32 := by
      rw [hcounters]
      rfl
    refine ⟨hbits, by rw [herrors, State.wordTally_errors], ?_, ?_, ?_, ?_, ?_, ?_, ?_, ?_, ?_, fun k => ?_, fun ht k => ?_,
      fun n run hn ht k => ?_, hmissed, hoffered, hlog, fun cfg hcfg => ?_⟩
    · rw [hcounters, ← State.wordTally_onesToZero]
      rfl
    · rw [hcounters, ← State.wordTally_zerosToOne]
      rfl
    iterate 7
      · rw [hcounters]
        rfl
    · rw [hcounters]
      exact addVec_getElem ..
    · rw [hsame ht]
      exact addVec_getElem ..
    · rw [hopen n run hn ht]
      exact congrArg (· + _) (addVec_getElem ..)
    · obtain rfl := Gate.config_of hcfg
      rw [herrors, hbits]
      refine ⟨fun hpos hreach => ?_, fun hbelow hpos hreach => ?_, fun hbelow hbelow' => ⟨fun hlt => hends.lost (hloss hlt),
        fun hk => ?_⟩⟩
      · obtain ⟨hended, hcounts, htracker⟩ := hends.gateStopped (State.accounted_of_errors hrun hmax hpos hreach)
        exact ⟨hended.shows hshows, hcounts, htracker⟩
      · obtain ⟨hended, hcounts, htracker⟩ := hends.gateStopped (State.accounted_of_bits hrun hmax hbelow hpos hreach)
        exact ⟨hended.shows hshows, hcounts, htracker⟩
      · rw [hends.kept (hkeep hk)]
        exact State.met_below hrun hmax ⟨hbelow, hbelow'⟩ above
  · have hstop := State.gateStopped_saturateGate (l := l) (s.taken l q)
    rw [← State.accounted_saturated hrun hmax, State.taken_counts] at hstop
    obtain ⟨⟨bins, missed, marked, hcounters⟩, -⟩ := hends.closedFrom_uncounted (.inr hmax)
    have hflag : (s.accounted l q).flagSet l .saturated = true := by
      rw [State.accounted_saturated hrun hmax]
      exact State.saturateGate_flagSet ..
    obtain ⟨hended, hcounts, -⟩ := hends.gateStopped hstop
    refine ⟨hended.shows hshows, hends.flagSet_mono hflag, fun hset h => hends.log_uncounted (.inr hmax) hset (h.imp_right hkeep),
      hcounts, ?_, ?_⟩
    · rw [hcounters]
    · rw [hcounters]
  · obtain ⟨⟨bins, missed, marked, hcounters⟩, -⟩ := hends.closedFrom_uncounted (.inl hrun)
    refine ⟨hends.state_of_idle hrun, fun hset h => hends.log_uncounted (.inl hrun) hset (h.imp_right hkeep), ?_, ?_⟩
    · rw [hcounters]
    · rw [hcounters]

end Sys2Proof.Machine

/-! The outcomes of a verify word (O33, R39, R40, R94, R97, R146). -/

namespace Sys2Proof.Machine

/-! ### One transition from a state other than LOCKED -/

section
variable {s : State} {m : Move}

theorem noExit_one (hleft : (s.lane m.lane).chkState ≠ .locked) : ∀ n ∈ [m], s.NoExit n.lane := by
  intro n hn
  rw [List.mem_singleton.1 hn]
  exact .inl hleft

/-- A transition from another state than LOCKED that enters another leaves a settled log. -/
theorem log_of_unlocked (hset : s.log.Settled) (hleft : (s.lane m.lane).chkState ≠ .locked)
    (hentered : m.phase.state ≠ .locked) : (s.transition [m]).log = s.log :=
  transition_log_of_noExit hset (noExit_one hleft) fun _ hn => List.mem_singleton.1 hn ▸ hentered

theorem State.gated_gate_of_locked (hlocked : m.phase.state = .locked) :
    ((s.gated m).lane m.lane).gate = (s.lane m.lane).gate.onLock := by
  rw [State.gated_lane, if_pos rfl]
  exact LaneState.move_of_locked hlocked

theorem State.missed_gated (s : State) (m : Move) : ((s.gated m).lane m.lane).Missed ((s.applyMove m).lane m.lane) := by
  rw [State.applyMove_eq, State.queueNotice_lane, State.marginTransition_lane]
  exact missed_entryCandidate ..

/-- A lock that leaves no RUNNING gate, or raises no candidate, leaves a settled log. -/
theorem log_of_lock (hset : s.log.Settled) (hleft : (s.lane m.lane).chkState ≠ .locked)
    (hno : ((s.transition [m]).lane m.lane).gate.state ≠ .running ∨ ¬s.log.lanes[m.lane].RaisesLock) :
    (s.transition [m]).log = s.log := by
  have happly : s.transition [m] = s.applyMove m := transition_of_noExit hset (noExit_one hleft)
  rw [happly] at hno ⊢
  have hentry : (s.gated m).entryCandidate m = s.gated m := by
    refine if_neg fun ⟨_, hrun, hwants⟩ => ?_
    rw [State.gated_log] at hwants
    rcases hno with hno | hno
    · exact hno ((s.missed_gated m).state.trans hrun)
    · exact hno ((CaptureLane.wantsLock_iff _).1 hwants)
  rw [State.applyMove_eq, State.queueNotice_log, State.marginTransition_log, hentry, State.gated_log]

theorem State.offered_of_settled {t : State} {l : Lane} {cand : Candidate} (h : s.log.Settled → s.Offered t l cand) :
    s.Offered t l cand :=
  ⟨fun hslot hport => (h (.inl hport)).1 hslot hport, fun hempty => (h (.inr hempty)).2.1 hempty,
    fun hempty => (h (.inr hempty)).2.2.1 hempty, fun old hold hport => (h (.inl hport)).2.2.2 old hold hport⟩

/-- An entry into LOCKED that leaves the gate RUNNING offers its LOCK_GAINED candidate (R146, R147). -/
theorem offered_lock (hlocked : m.phase.state = .locked) (hleft : (s.lane m.lane).chkState ≠ .locked)
    (hrun : ((s.transition [m]).lane m.lane).gate.state = .running) (hraises : s.log.lanes[m.lane].RaisesLock) :
    s.Offered (s.transition [m]) m.lane (s.lockCandidateNow m.lane (.lockGained m.phase.state m.reason)) := by
  refine State.offered_of_settled fun hset => ?_
  have happly : s.transition [m] = s.applyMove m := transition_of_noExit hset (noExit_one hleft)
  rw [happly] at hrun ⊢
  have hgate := State.gated_gate_of_locked (s := s) hlocked
  have hcand : ((s.gated m).lane m.lane).lockCandidate m.lane (.lockGained m.phase.state m.reason) =
      s.lockCandidateNow m.lane (.lockGained m.phase.state m.reason) := by
    rw [LaneState.lockCandidate, hgate]
    rfl
  have hentry : (s.gated m).entryCandidate m =
      ((s.gated m).offerLock m.lane (s.lockCandidateNow m.lane (.lockGained m.phase.state m.reason))).grant := by
    rw [← hcand]
    refine if_pos ⟨hlocked, (s.missed_gated m).state.symm.trans hrun, ?_⟩
    rw [State.gated_log]
    exact (CaptureLane.wantsLock_iff _).2 hraises
  have hline : s.line.Queued Notice.notFull (s.gated m).line :=
    queued_gated (fun _ _ _ => nofun) (fun _ => nofun) s
  rw [State.applyMove_eq, hentry]
  refine State.offered_offerLock.congr (State.gated_log s m) hline ?_ (fun hflag => ?_) ?_
  · rw [State.queueNotice_log, State.marginTransition_log]
  · have := (touches_marginTransition (L := anyLane) (F := anyFlag) m.lane (s.lane m.lane).chkState m.phase.state
      ((s.gated m).offerLock m.lane (s.lockCandidateNow m.lane (.lockGained m.phase.state m.reason))).grant).flagSet_mono hflag
    exact this
  · exact (queued_marginTransition Notice.notLog_of_point ..).trans (ControlLine.queued_one nofun _)

end

/-! ### The word of a verify (R39, R40) -/

section
variable (s : State) (l : Lane) (q : LockedWord)

/-- The checker of the lane verifies, and this word stands at its input. -/
structure State.Verifies (rx : Reception) : Prop where
  phase : (s.lane l).chk.phase = .verify q.src q.last q.bits q.errors
  input : (s.lane l).inputWord rx = some (q.word, q.rest)

/-- The errors of the verify word. -/
def State.verifyErrors : Nat := popCount ((s.nextWord l q).1 ^^^ s.senseOf l q)

/-- The outcome of the verify word. -/
def State.outcome : VerifyEnd :=
  verifyEnd (s.lane l).chk.config (q.bits + 32) (q.errors + s.verifyErrors l q)

/-- The state with the verify word taken. -/
def State.tried : State :=
  s.modLane l (LaneState.takeInput q.rest
    (.verify (s.nextWord l q).2 (lastBits (s.nextWord l q).1) (q.bits + 32) (q.errors + s.verifyErrors l q)))

/-- The transition of a lock. -/
def State.lockMove : Move :=
  { lane := l, phase := .locked (s.nextWord l q).2 (lastBits (s.nextWord l q).1) 0 0, reason := .verified }

/-- The transition of a verify that begins again under the other polarity. -/
def State.invertMove : Move :=
  { lane := l, phase := .verify (s.nextWord l q).2 (lastBits (s.nextWord l q).1) 0 0, reason := .inverted }

end

/-- The transition of a failed verify. -/
def failMove (l : Lane) : Move := { lane := l, phase := .hunt 0 0, reason := .verifyFailed }

section
variable {s v : State} {l : Lane} {q : LockedWord} {rx : Reception}

theorem State.verifyErrors_eq : s.verifyErrors l q = ((List.range 32).filter fun i => (s.nextWord l q).1.getMsbD i !=
    (q.word.getMsbD i ^^ decide ((s.lane l).chk.config.polarity = .inverted))).length := by
  rw [State.verifyErrors, popCount_eq, ← countBelow_sense]
  refine congrArg List.length (List.filter_congr fun i _ => ?_)
  rw [BitVec.getMsbD_xor]
  rfl

section
variable (h : s.Verifies l q rx)
include h

theorem State.Verifies.goesOn (hend : s.outcome l q = .goesOn) : s.verifyWord l rx = s.tried l q := by
  unfold State.outcome State.verifyErrors State.nextWord State.senseOf at hend
  simp only [State.verifyWord, h.phase, h.input, hend]
  rfl

theorem State.Verifies.verified (hend : s.outcome l q = .verified) :
    s.verifyWord l rx = (s.tried l q).transition [s.lockMove l q] := by
  unfold State.outcome State.verifyErrors State.nextWord State.senseOf at hend
  simp only [State.verifyWord, h.phase, h.input, hend]
  rfl

theorem State.Verifies.failed (hend : s.outcome l q = .failed) :
    s.verifyWord l rx = (s.tried l q).transition [failMove l] := by
  unfold State.outcome State.verifyErrors State.nextWord State.senseOf at hend
  simp only [State.verifyWord, h.phase, h.input, hend]
  rfl

theorem State.Verifies.inverted (hend : s.outcome l q = .inverted) :
    s.verifyWord l rx = ((s.tried l q).modLane l LaneState.flipPolarity).transition [s.invertMove l q] := by
  unfold State.outcome State.verifyErrors State.nextWord State.senseOf at hend
  simp only [State.verifyWord, h.phase, h.input, hend]
  rfl

end

/-- What a transition out of a verify leaves of path, checker, margin unit and line. -/
theorem verify_transition {m : Move} (hl : m.lane = l) (hkeeps : m.reason.keepsPath = true)
    (hstate : (v.lane l).chkState = .verify) (hmargin : v.margin = s.margin) (hon : v.line.enabled = s.line.enabled) :
    ((v.transition [m]).lane l).path = (v.lane l).path ∧
      ((v.transition [m]).lane l).chk = { (v.lane l).chk with phase := m.phase } ∧
      (v.transition [m]).margin = (s.marginTransition l .verify ((v.transition [m]).lane l).chkState).margin ∧
      (s.line.enabled.getLsbD 0 = true → (v.transition [m]).line.Announces (.lock l m.phase.state m.reason)) := by
  subst hl
  have hchk := transition_chk (nodup_one m) (mem_one m) v
  have hpath := transition_path (nodup_one m) (mem_one m) v
  have hmarg := transition_margin (nodup_one m) v
  rw [hkeeps] at hpath
  rw [List.foldl_cons, List.foldl_nil, hstate] at hmarg
  refine ⟨hpath, hchk, ?_, fun h => transition_announces_lock (nodup_one m) (mem_one m) (by rw [hon]; exact h)⟩
  rw [hmarg, transition_chkState (nodup_one m) (mem_one m)]
  exact marginTransition_margin_congr hmargin ..

theorem State.tried_self : (s.tried l q).lane l = (s.lane l).takeInput q.rest
    (.verify (s.nextWord l q).2 (lastBits (s.nextWord l q).1) (q.bits + 32) (q.errors + s.verifyErrors l q)) :=
  State.modLane_lane_self ..

theorem State.flipped_self : ((s.tried l q).modLane l LaneState.flipPolarity).lane l = LaneState.flipPolarity
    ((s.lane l).takeInput q.rest (.verify (s.nextWord l q).2 (lastBits (s.nextWord l q).1) (q.bits + 32)
      (q.errors + s.verifyErrors l q))) := by
  rw [State.modLane_lane_self, State.tried_self]

theorem verifyEnd_cases {cfg : ChkConfig} {c e : Nat} :
    (cfg.a < e → (cfg.autoInvert = false ∨ e < c) → verifyEnd cfg c e = .failed) ∧
      (e ≤ cfg.a → cfg.v ≤ c → verifyEnd cfg c e = .verified) ∧
      (cfg.a < e → cfg.autoInvert = true → c ≤ e → cfg.v ≤ c → verifyEnd cfg c e = .inverted) ∧
      (c < cfg.v → (e ≤ cfg.a ∨ (cfg.autoInvert = true ∧ c ≤ e)) → verifyEnd cfg c e = .goesOn) := by
  have hdoubt (h : e ≤ cfg.a ∨ (cfg.autoInvert = true ∧ c ≤ e)) : ¬(cfg.a < e ∧ (cfg.autoInvert = false ∨ e < c)) := by
    rintro ⟨hlt, hno | hno⟩
    · rcases h with h | ⟨h, -⟩
      · omega
      · rw [hno] at h
        cases h
    · omega
  refine ⟨fun hlt hor => if_pos ⟨hlt, hor⟩, fun hle hv => ?_, fun hlt hauto hce hv => ?_, fun hv hor => ?_⟩
  · exact (if_neg (hdoubt (.inl hle))).trans ((if_neg (Nat.not_lt.2 hv)).trans (if_pos hle))
  · exact (if_neg (hdoubt (.inr ⟨hauto, hce⟩))).trans ((if_neg (Nat.not_lt.2 hv)).trans (if_neg (Nat.not_le.2 hlt)))
  · exact (if_neg (hdoubt hor)).trans (if_pos hv)

theorem State.tried_state : ((s.tried l q).lane l).chkState = .verify := by
  rw [State.tried_self]
  rfl

theorem State.flipped_state : (((s.tried l q).modLane l LaneState.flipPolarity).lane l).chkState = .verify := by
  rw [State.flipped_self]
  rfl

/-- What every verify word leaves of path, margin unit and capture log. -/
theorem State.Verifies.common (h : s.Verifies l q rx) :
    ((s.verifyWord l rx).lane l).path = q.rest ∧
      (s.verifyWord l rx).margin = (s.marginTransition l .verify ((s.verifyWord l rx).lane l).chkState).margin ∧
      (s.log.Settled → ((s.verifyWord l rx).lane l).chkState ≠ .locked ∨
        ((s.verifyWord l rx).lane l).gate.state ≠ .running ∨ ¬s.log.lanes[l].RaisesLock → (s.verifyWord l rx).log = s.log) := by
  cases hend : s.outcome l q with
  | goesOn =>
    rw [h.goesOn hend, State.tried_state, State.marginTransition_idle (left := .verify) (entered := .verify) nofun nofun nofun nofun, State.tried_self]
    exact ⟨rfl, rfl, fun _ _ => rfl⟩
  | verified =>
    rw [h.verified hend]
    obtain ⟨hpath, hchk, hmargin, -⟩ := verify_transition (s := s) (l := l) (v := s.tried l q) (m := s.lockMove l q) rfl rfl
      State.tried_state rfl rfl
    refine ⟨hpath.trans (by rw [State.tried_self]; rfl), hmargin, fun hset hno => ?_⟩
    refine log_of_lock (s := s.tried l q) (m := s.lockMove l q) hset (State.tried_state.trans_ne nofun) (hno.resolve_left ?_)
    exact not_not_intro (congrArg (fun c : Checker => c.phase.state) hchk)
  | failed =>
    rw [h.failed hend]
    obtain ⟨hpath, -, hmargin, -⟩ := verify_transition (s := s) (l := l) (v := s.tried l q) (m := failMove l) rfl rfl
      State.tried_state rfl rfl
    exact ⟨hpath.trans (by rw [State.tried_self]; rfl), hmargin, fun hset _ =>
      log_of_unlocked (s := s.tried l q) (m := failMove l) hset (State.tried_state.trans_ne nofun) nofun⟩
  | inverted =>
    rw [h.inverted hend]
    obtain ⟨hpath, -, hmargin, -⟩ := verify_transition (s := s) (l := l) (v := (s.tried l q).modLane l LaneState.flipPolarity)
      (m := s.invertMove l q) rfl rfl State.flipped_state rfl rfl
    exact ⟨hpath.trans (by rw [State.flipped_self]; rfl), hmargin, fun hset _ =>
      log_of_unlocked (s := (s.tried l q).modLane l LaneState.flipPolarity) (m := s.invertMove l q) hset
        (State.flipped_state.trans_ne nofun) nofun⟩

/-- A failed verify (R39, R54). -/
theorem verify_failed (s : State) (l : Lane) (q : LockedWord) :
    (((s.tried l q).transition [failMove l]).lane l).chk = { (s.lane l).chk with phase := .hunt 0 0 } ∧
      ((s.tried l q).transition [failMove l]).flagSet l .verifyFailed = true ∧
      (s.line.enabled.getLsbD 0 = true →
        ((s.tried l q).transition [failMove l]).line.Announces (.lock l .hunt .verifyFailed)) := by
  obtain ⟨-, hchk, -, hlock⟩ := verify_transition (s := s) (l := l) (v := s.tried l q) (m := failMove l) rfl rfl
    State.tried_state rfl rfl
  refine ⟨hchk.trans ?_, transition_flagSet (nodup_one _) (mem_one (failMove l)) (s.tried l q) rfl, hlock⟩
  rw [State.tried_self]
  rfl

/-- A lock (R39, R94, R97, R146). -/
theorem verify_locked (s : State) (l : Lane) (q : LockedWord) :
    (((s.tried l q).transition [s.lockMove l q]).lane l).chk =
        { (s.lane l).chk with phase := .locked (s.nextWord l q).2 ((s.nextWord l q).1.setWidth 15) 0 0 } ∧
      (s.line.enabled.getLsbD 0 = true →
        ((s.tried l q).transition [s.lockMove l q]).line.Announces (.lock l .locked .verified)) ∧
      ((s.lane l).gate.state = .armed ∨ (s.lane l).gate.state = .paused →
        (((s.tried l q).transition [s.lockMove l q]).lane l).gate.state = .running) ∧
      ((((s.tried l q).transition [s.lockMove l q]).lane l).gate.state = .running → s.log.lanes[l].RaisesLock →
        s.Offered ((s.tried l q).transition [s.lockMove l q]) l (s.lockCandidateNow l (.lockGained .locked .verified))) := by
  obtain ⟨-, hchk, -, hlock⟩ := verify_transition (s := s) (l := l) (v := s.tried l q) (m := s.lockMove l q) rfl rfl
    State.tried_state rfl rfl
  refine ⟨hchk.trans (by rw [State.tried_self]; rfl), hlock, fun hgate => ?_, fun hrun hraises => ?_⟩
  · obtain ⟨x, hx, hmove⟩ := missed_transition (nodup_one _) (mem_one (s.lockMove l q)) (s.tried l q)
    have hstate : x.gate.state = (s.lane l).gate.state := hx.state.trans (by
      rw [show (s.lockMove l q).lane = l from rfl, State.tried_self]
      rfl)
    refine hmove.state.trans ?_
    rw [LaneState.move_of_locked rfl, Gate.onLock, hstate]
    rcases hgate with hgate | hgate <;> rw [hgate]
  · have hoffered := offered_lock (s := s.tried l q) (m := s.lockMove l q) rfl (State.tried_state.trans_ne nofun) hrun hraises
    have hcand : (s.tried l q).lockCandidateNow l (.lockGained .locked .verified) =
        s.lockCandidateNow l (.lockGained .locked .verified) := by
      rw [State.lockCandidateNow, State.tried_self]
      rfl
    exact hcand ▸ hoffered

/-- A verify that begins again under the other polarity (R40). -/
theorem verify_inverted (s : State) (l : Lane) (q : LockedWord) :
    ((((s.tried l q).modLane l LaneState.flipPolarity).transition [s.invertMove l q]).lane l).chk.phase =
        .verify (s.nextWord l q).2 ((s.nextWord l q).1.setWidth 15) 0 0 ∧
      ((((s.tried l q).modLane l LaneState.flipPolarity).transition [s.invertMove l q]).lane l).chk.config =
        { (s.lane l).chk.config with polarity := (s.lane l).chk.config.polarity.flip } ∧
      (s.line.enabled.getLsbD 0 = true →
        (((s.tried l q).modLane l LaneState.flipPolarity).transition [s.invertMove l q]).line.Announces
          (.lock l .verify .inverted)) := by
  obtain ⟨-, hchk, -, hlock⟩ := verify_transition (s := s) (l := l) (v := (s.tried l q).modLane l LaneState.flipPolarity)
    (m := s.invertMove l q) rfl rfl State.flipped_state rfl rfl
  refine ⟨congrArg Checker.phase hchk, (congrArg Checker.config hchk).trans ?_, hlock⟩
  rw [State.flipped_self]
  rfl

end

theorem exec_verifyWordEnd (s : State) (l : Lane) (rx : Reception) :
    exec (.verifyWordEnd l rx) s = .next (s.verifyWord l rx).pump := rfl

/-- Settles O33. -/
theorem verifyWordOutcomes : Obligations.VerifyWordOutcomes := by
  intro s l rx w rest src last c e hphase hinput
  obtain ⟨q, hq⟩ : ∃ q : LockedWord, q = ⟨src, last, c, e, w, rest⟩ := ⟨_, rfl⟩
  have h : s.Verifies l q rx := by
    subst hq
    exact ⟨hphase, hinput⟩
  have htouch := touches_verifyWord (L := (· = l)) (F := anyFlag) rx s rfl trivial trivial
  have hshows := State.shows_pump (s.verifyWord l rx)
  obtain ⟨hpath, hmargin, hlog⟩ := h.common
  have hbad := State.verifyErrors_eq (s := s) (l := l) (q := q)
  have hend := verifyEnd_cases (cfg := (s.lane l).chk.config) (c := q.bits + 32) (e := q.errors + s.verifyErrors l q)
  refine ⟨_, s.nextWord l q, s.verifyErrors l q, q.bits + 32, q.errors + s.verifyErrors l q, exec_verifyWordEnd s l rx,
    htouch.sameBase.trans (sameBase_pump _), htouch.otherLanesKept.shows hshows, by subst hq; rfl, by subst hq; exact hbad,
    by subst hq; rfl, by subst hq; rfl, ?_⟩
  obtain rfl : rest = q.rest := by rw [hq]
  clear hq hphase hinput hbad htouch
  obtain ⟨hfailed, hverified, hinverted, hgoes⟩ := hend
  have hgoes' (hv : q.bits + 32 < (s.lane l).chk.config.v) (ho : _) : (s.verifyWord l rx).pump = (s.tried l q).pump :=
    congrArg State.pump (h.goesOn (hgoes hv ho))
  rw [hshows.lane, hshows.margin, hshows.log, hshows.flagSet]
  refine ⟨hpath, hmargin, hlog, fun hlt hor => ?_, fun hle hv => ?_, fun hlt hauto hce hv => ?_, hgoes'⟩
  · rw [hshows.announces, h.failed (hfailed hlt hor)]
    exact verify_failed s l q
  · rw [hshows.announces]
    rw [h.verified (hverified hle hv)] at hshows ⊢
    obtain ⟨hchk, hlock, hgate, hoffer⟩ := verify_locked s l q
    exact ⟨hchk, hlock, hgate, fun hrun hraises => (hoffer hrun hraises).shows hshows⟩
  · rw [hshows.announces, h.inverted (hinverted hlt hauto hce hv)]
    exact verify_inverted s l q

end Sys2Proof.Machine

/-! Hunts (O31, O32, R31, R34, R37, R38). -/

namespace Sys2Proof.Machine

/-! ### What the receive lane brings (R14, R34) -/

theorem length_wordBits (w : Word) : (wordBits w).length = 32 := by
  rw [wordBits, List.length_map, List.length_range]

theorem getElem?_wordBits (w : Word) {i : Nat} (hi : i < 32) : (wordBits w)[i]? = some (w.getMsbD i) := by
  rw [wordBits, List.getElem?_map, List.getElem?_range hi]
  rfl

theorem wordOfBits_wordBits (w : Word) : wordOfBits (wordBits w) = w :=
  BitVec.eq_of_getMsbD_eq fun _ hi =>
    getMsbD_wordOfBits (length_wordBits w).ge hi (getElem?_wordBits w hi)

section
variable {x : LaneState} {rx : Reception} (hloop : x.loopback = false)
include hloop

theorem LaneState.inputBits_receive : x.inputBits rx = receivedBits x.pam4 rx := if_neg (Bool.eq_false_iff.1 hloop)

theorem LaneState.inputWord_receive {w : Word} (h : receivedBits x.pam4 rx = wordBits w) :
    x.inputWord rx = some (w, x.path) := by
  have hword : x.receivedWord rx = some w := by
    rw [LaneState.receivedWord, h, if_pos (length_wordBits w), wordOfBits_wordBits]
  rw [LaneState.inputWord, if_neg (Bool.eq_false_iff.1 hloop), hword]
  rfl

end

/-- Each level's bit pair, more significant bit first (R14). -/
theorem levelBits_eq (v : PamLevel) : levelBits v = [decide (v = 2 ∨ v = 3), decide (v = 1 ∨ v = 2)] := by
  revert v
  decide

/-! ### The window of a hunt -/

theorem windowAfter_eq (pol : Polarity) (w : BitVec 64) (bits : List Bool) :
    windowAfter pol w bits = (bits.map pol.bit).foldl (fun (w : BitVec 64) b => (w <<< 1) ||| (if b then 1 else 0)) w := by
  rw [List.foldl_map]
  rfl

theorem windowAfter_append (pol : Polarity) (w : BitVec 64) (bits more : List Bool) :
    windowAfter pol w (bits ++ more) = windowAfter pol (windowAfter pol w bits) more := List.foldl_append

/-- Bit `i` of a window that has taken more bits than that: the bit taken `i` places before the last. -/
theorem getLsbD_windowAfter {pol : Polarity} {w : BitVec 64} {bits : List Bool} {i : Nat} (hi : i < 64)
    (hlen : i < bits.length) {b : Bool} (hb : bits[bits.length - 1 - i]? = some b) :
    (windowAfter pol w bits).getLsbD i = pol.bit b := by
  have hrev : (bits.map pol.bit).reverse[i]? = some (pol.bit b) := by
    rw [List.getElem?_reverse (by rw [List.length_map]; exact hlen), List.length_map, List.getElem?_map, hb]
    rfl
  rw [windowAfter_eq, getLsbD_foldl_push _ _ hi, hrev]
  rfl

/-! ### A fixed-pattern hunt (R37) -/

/-- A fixed-pattern hunt that its bits complete. -/
theorem huntFixed_found {need : Nat} {pol : Polarity} {bits after : List Bool} {w : BitVec 64} {c : Nat} (hne : bits ≠ [])
    (hlen : c + bits.length = need) : huntFixed need pol (bits ++ after) w c =
      { window := windowAfter pol w bits, count := need, rest := after, found := some false } := by
  induction bits generalizing w c with
  | nil => exact absurd rfl hne
  | cons b bits ih =>
    rw [List.length_cons] at hlen
    rw [List.cons_append, huntFixed]
    cases bits with
    | nil =>
      rw [if_pos (by rw [← hlen]; rfl), ← hlen]
      rfl
    | cons b' bits =>
      rw [if_neg (by rw [← hlen, List.length_cons]; omega)]
      exact ih (fun h => by cases h) (by rw [← hlen]; omega)

/-- A fixed-pattern hunt that its bits leave unfinished. -/
theorem huntFixed_unfinished {need : Nat} {pol : Polarity} {bits : List Bool} {w : BitVec 64} {c : Nat}
    (hlen : c + bits.length < need) : huntFixed need pol bits w c =
      { window := windowAfter pol w bits, count := c + bits.length, rest := [], found := none } := by
  induction bits generalizing w c with
  | nil => rfl
  | cons b bits ih =>
    rw [List.length_cons] at hlen
    rw [huntFixed, if_neg (by omega), ih (by omega), List.length_cons, show c + 1 + bits.length = c + (bits.length + 1) by omega]
    rfl

theorem seedBits_eq (id : Nat) (pam4 : Bool) : seedBits id pam4 = prbsLength id + if pam4 then 1 else 0 := by
  cases pam4 <;> rfl

/-- The bits of a register's stream, the register's own stages before it. -/
def streamBit (id : Nat) (reg : BitVec 32) (k : Int) : Bool :=
  if k < 0 then reg.getLsbD (-k - 1).toNat else prbsFeedback id (prbsAfter id reg k.toNat)

theorem streamBit_nat (id : Nat) (reg : BitVec 32) (k : Nat) :
    streamBit id reg k = prbsFeedback id (prbsAfter id reg k) := if_neg (by omega)

theorem holdsBefore_streamBit (id : Nat) (reg : BitVec 32) : HoldsBefore id (streamBit id reg) 0 reg := by
  intro i hlo _
  rw [streamBit, if_pos (by omega)]
  congr 1
  omega

/-- The stage bits of a register that its own stream has filled. -/
theorem getLsbD_prbsAfter_length {id : Nat} {reg : BitVec 32} {i : Nat} (hi : i < prbsLength id) :
    (prbsAfter id reg (prbsLength id)).getLsbD i = prbsFeedback id (prbsAfter id reg (prbsLength id - 1 - i)) := by
  have hfull := (holdsBefore_streamBit id reg).prbsAfter (prbsLength id) (fun j _ => streamBit_nat id reg j) (i + 1)
    (by omega) (by omega)
  rw [Nat.add_sub_cancel] at hfull
  rw [hfull, ← streamBit_nat]
  congr 1
  omega

/-- The register loaded from a window that holds the stream's bits is the register after them (R37). -/
theorem seedRegister_eq {id : Nat} {pam4 : Bool} {pol : Polarity} {w₀ : BitVec 64} {bits : List Bool} {reg : BitVec 32}
    (hlen : bits.length = seedBits id pam4) (hreg : reg &&& prbsOnes id = reg)
    (hbits : ∀ k b, k < prbsLength id → bits[k]? = some b → pol.bit b = prbsFeedback id (prbsAfter id reg k)) :
    seedRegister id pam4 (windowAfter pol w₀ bits) = prbsAfter id reg (seedBits id pam4) := by
  have hn := prbsLength_le id
  have hload {v : BitVec 32} (hv : ∀ i, i < prbsLength id → v.getLsbD i = prbsFeedback id (prbsAfter id reg (prbsLength id - 1 - i))) :
      v &&& prbsOnes id = prbsAfter id reg (prbsLength id) := by
    refine BitVec.eq_of_getLsbD_eq fun i _ => ?_
    rw [← prbsAfter_and_ones hreg, BitVec.getLsbD_and, BitVec.getLsbD_and, getLsbD_prbsOnes]
    by_cases hi : i < prbsLength id
    · rw [hv i hi, getLsbD_prbsAfter_length hi]
    · rw [decide_eq_false hi, Bool.and_false, Bool.and_false]
  have hget {k : Nat} (hk : k < bits.length) : bits[k]? = some bits[k] := List.getElem?_eq_getElem hk
  cases pam4 with
  | false =>
    have hlen' : bits.length = prbsLength id := hlen
    refine hload fun i hi => ?_
    rw [BitVec.getLsbD_setWidth, decide_eq_true (by omega), Bool.true_and,
      getLsbD_windowAfter (by omega) (by omega) (hget (by omega)), hbits _ _ (by omega) (hget (by omega)), hlen']
  | true =>
    have hlen' : bits.length = prbsLength id + 1 := hlen
    have hseed : ((windowAfter pol w₀ bits) >>> 1).setWidth 32 &&& prbsOnes id = prbsAfter id reg (prbsLength id) := by
      refine hload fun i hi => ?_
      rw [BitVec.getLsbD_setWidth, decide_eq_true (by omega), Bool.true_and, BitVec.getLsbD_ushiftRight,
        getLsbD_windowAfter (by omega) (by omega) (hget (by omega)), hbits _ _ (by omega) (hget (by omega)),
        show bits.length - 1 - (1 + i) = prbsLength id - 1 - i by omega]
    rw [seedRegister, if_pos rfl, hseed, ← prbsAfter_succ]
    rfl

/-! ### The end of a hunt -/

/-- The transition of a hunt that has found its place. -/
def foundMove (l : Lane) (src : Source) : Move := { lane := l, phase := .verify src 0 0 0, reason := .found }

section
variable {s : State} {l : Lane} {rx : Reception}

/-- What the end of a hunt leaves of path, checker, margin unit and line (R53, R142). -/
theorem found_event {t : State} {f : LaneState → LaneState} {src : Source}
    (ht : t = (s.modLane l f).transition [foundMove l src]) (hstate : (f (s.lane l)).chkState = .hunt) :
    t.pump.margin = s.margin ∧ (t.pump.lane l).path = (f (s.lane l)).path ∧
      (t.pump.lane l).chk = { (f (s.lane l)).chk with phase := .verify src 0 0 0 } ∧
      (s.line.enabled.getLsbD 0 = true → t.pump.line.Announces (.lock l .verify .found)) := by
  have hself : (s.modLane l f).lane l = f (s.lane l) := State.modLane_lane_self ..
  have hmem := mem_one (foundMove l src)
  have hpath := transition_path (nodup_one _) hmem (s.modLane l f)
  have hchk := transition_chk (nodup_one _) hmem (s.modLane l f)
  have hmargin := transition_margin (nodup_one (foundMove l src)) (s.modLane l f)
  have hlock (h : (s.modLane l f).line.enabled.getLsbD 0 = true) := transition_announces_lock (nodup_one _) hmem h
  have hshows := State.shows_pump t
  rw [show (foundMove l src).lane = l from rfl, hself] at hpath hchk
  rw [List.foldl_cons, List.foldl_nil, show (foundMove l src).lane = l from rfl, hself, hstate,
    State.marginTransition_idle (left := .hunt) (entered := (foundMove l src).phase.state) nofun nofun nofun nofun] at hmargin
  rw [hshows.lane, hshows.margin, hshows.announces, ht]
  exact ⟨hmargin, hpath, hchk, hlock⟩

/-- The outcome of a fixed-pattern hunt's bits. -/
def LaneState.huntedFixed (rx : Reception) (w : BitVec 64) (c : Nat) (x : LaneState) : Hunted :=
  huntFixed (seedBits x.chk.config.pattern x.pam4) x.chk.config.polarity (x.inputBits rx) w c

section
variable {w : BitVec 64} {c : Nat} (hphase : (s.lane l).chk.phase = .hunt w c)
  (hfixed : fixedId (s.lane l).chk.config.pattern = true)
include hphase hfixed

theorem State.seedLoaded_found (hfound : ((s.lane l).huntedFixed rx w c).found.isSome = true) :
    s.seedLoaded l rx = (s.modLane l (LaneState.afterHunt ((s.lane l).huntedFixed rx w c))).transition
      [foundMove l (.prbs (seedRegister (s.lane l).chk.config.pattern (s.lane l).pam4
        ((s.lane l).huntedFixed rx w c).window))] := by
  simp only [State.seedLoaded, hphase, hfixed]
  exact if_pos hfound

theorem State.seedLoaded_unfinished (hfound : ((s.lane l).huntedFixed rx w c).found.isSome = false) :
    s.seedLoaded l rx = s.modLane l (LaneState.afterHunt ((s.lane l).huntedFixed rx w c)) := by
  simp only [State.seedLoaded, hphase, hfixed]
  exact if_neg (Bool.eq_false_iff.1 hfound)

end

theorem exec_seedLoaded (s : State) (l : Lane) (rx : Reception) :
    exec (.seedLoaded l rx) s = .next (s.seedLoaded l rx).pump := rfl

theorem exec_anchorMatch (s : State) (l : Lane) (rx : Reception) :
    exec (.anchorMatch l rx) s = .next (s.anchorMatch l rx).pump := rfl

/-- A change of one lane, by what it makes of the lane as it stands. -/
theorem State.modLane_eq_of {f g : LaneState → LaneState} (h : f (s.lane l) = g (s.lane l)) : s.modLane l f = s.modLane l g := by
  unfold State.modLane
  exact congrArg (fun x => { s with lanes := s.lanes.set l x }) h

end

theorem fixedId_of_le {id : Nat} (h : id ≤ 7) : fixedId id = true := decide_eq_true (by omega)

/-- Settles O31. -/
theorem seedFindsTheStream : Obligations.SeedFindsTheStream := by
  refine ⟨fun x word levels bits hloop => ⟨fun hnrz => ⟨?_, ?_⟩, fun hpam => ⟨?_, ?_⟩⟩,
    fun s l id w rx bits hlo hhi hid => ⟨fun reg w₀ before after hphase hw hinput hne hlen hreg hbits => ?_,
      fun c hphase hinput hlen => ?_⟩⟩
  · rw [LaneState.inputBits_receive hloop, hnrz]
    rfl
  · refine LaneState.inputWord_receive hloop ?_
    rw [hnrz]
    rfl
  · rw [LaneState.inputBits_receive hloop, hpam]
    exact congrArg (fun f => levels.flatMap f) (funext levelBits_eq)
  · refine LaneState.inputWord_receive hloop ?_
    rw [hpam]
    exact bits_symbolLevel word
  · subst hid hw
    rw [← seedBits_eq] at hlen ⊢
    have hfixed := fixedId_of_le hhi
    have hhunted : (s.lane l).huntedFixed rx (windowAfter (s.lane l).chk.config.polarity w₀ before) before.length =
        { window := windowAfter (s.lane l).chk.config.polarity w₀ (before ++ bits)
          count := seedBits (s.lane l).chk.config.pattern (s.lane l).pam4, rest := after, found := some false } := by
      rw [LaneState.huntedFixed, hinput, huntFixed_found hne hlen, windowAfter_append]
    have hseed := seedRegister_eq (pam4 := (s.lane l).pam4) (pol := (s.lane l).chk.config.polarity) (w₀ := w₀)
      (by rw [List.length_append]; exact hlen) hreg hbits
    have hstep := State.seedLoaded_found (rx := rx) hphase hfixed (by rw [hhunted]; rfl)
    rw [hhunted, hseed] at hstep
    have htouch := touches_seedLoaded (L := (· = l)) (F := anyFlag) rx s rfl trivial
    obtain ⟨hmargin, hpath, hchk, hlock⟩ := found_event hstep rfl
    exact ⟨_, exec_seedLoaded s l rx, htouch.sameBase.trans (sameBase_pump _),
      htouch.otherLanesKept.shows (State.shows_pump _), hmargin, hpath, hchk, hlock⟩
  · subst hid
    rw [← seedBits_eq] at hlen
    have hhunted : (s.lane l).huntedFixed rx w c =
        { window := windowAfter (s.lane l).chk.config.polarity w bits, count := c + bits.length, rest := [], found := none } := by
      rw [LaneState.huntedFixed, hinput, huntFixed_unfinished hlen]
    have hstep := State.seedLoaded_unfinished (rx := rx) hphase (fixedId_of_le hhi) (by rw [hhunted]; rfl)
    rw [hhunted] at hstep
    rw [exec_seedLoaded, hstep]
    exact congrArg (fun t : State => Host.Outcome.next t.pump) (State.modLane_eq_of rfl)

end Sys2Proof.Machine

/-! A user-pattern hunt (O32, R13, R38). -/

namespace Sys2Proof.Machine

/-! ### The anchor (R13) -/

theorem natOf_lt (bytes : List Byte) : natOf bytes < 256 ^ bytes.length := by
  induction bytes with
  | nil => exact Nat.one_pos
  | cons b bytes ih =>
    have hb : b.toNat < 256 := b.isLt
    rw [natOf_cons, List.length_cons, Nat.pow_succ]
    nlinarith

/-- Bit `k`, most significant first, of the number that bytes make is bit `k mod 8` of byte `k div 8`. -/
theorem testBit_natOf {bytes : List Byte} {k : Nat} {b : Byte} (hb : bytes[k / 8]? = some b) :
    (natOf bytes).testBit (8 * bytes.length - 1 - k) = b.getMsbD (k % 8) := by
  induction bytes generalizing k with
  | nil => cases hb
  | cons a bytes ih =>
    have hpow : 256 ^ bytes.length = 2 ^ (8 * bytes.length) := by rw [Nat.pow_mul]
    have hk : k / 8 < (a :: bytes).length := (List.getElem?_eq_some_iff.1 hb).1
    rw [List.length_cons] at hk ⊢
    rw [natOf_cons, Nat.mul_comm, hpow, Nat.testBit_two_pow_mul_add _ (hpow ▸ natOf_lt bytes)]
    by_cases h : k < 8
    · rw [Nat.div_eq_of_lt h] at hb
      obtain rfl : a = b := by simpa using hb
      rw [if_neg (by omega), Nat.mod_eq_of_lt h, BitVec.getMsbD, decide_eq_true h, Bool.true_and,
        BitVec.getLsbD, show 8 * (bytes.length + 1) - 1 - k - 8 * bytes.length = 8 - 1 - k by omega]
    · rw [if_pos (by omega), show 8 * (bytes.length + 1) - 1 - k = 8 * bytes.length - 1 - (k - 8) by omega,
        ih (k := k - 8) (by rw [← hb, show k / 8 = (k - 8) / 8 + 1 by omega]; rfl), show (k - 8) % 8 = k % 8 by omega]

/-- Bit `k` of an anchor is bit `k` of its region's base word. -/
theorem Store.getMsbD_anchor (st : Store) (r : Region) {k : Nat} (hk : k < 64) :
    (st.anchor r).getMsbD k = (readByte st.memory (8 * r.base + k / 8)).getMsbD (k % 8) := by
  have hbit := testBit_natOf (bytes := (List.range 8).map fun k => readByte st.memory (8 * r.base + k)) (k := k)
    (b := readByte st.memory (8 * r.base + k / 8)) (by
      rw [List.getElem?_map, List.getElem?_range (by omega)]
      rfl)
  rw [Store.anchor, BitVec.getMsbD, decide_eq_true hk, Bool.true_and, BitVec.getLsbD_ofNat, decide_eq_true (by omega),
    Bool.true_and, ← hbit]
  rfl

/-! ### The test of a window (R38) -/

section
variable {s : State} {l : Lane} {r : Region}

/-- The anchor in one sense, or its complement. -/
theorem State.anchorAt_iff (anti : Bool) (w : BitVec 64) (c : Nat) :
    s.AnchorAt l r anti w c ↔ 64 ≤ c ∧ ((s.lane l).pam4 = true → c % 2 = 0) ∧
      (anti = true → (s.lane l).chk.config.autoInvert = true) ∧
      w = if anti then ~~~s.store.anchor r else s.store.anchor r := by
  have hsense : (∀ k, k < 64 → w.getMsbD k = ((readByte s.store.memory (8 * r.base + k / 8)).getMsbD (k % 8) ^^ anti)) ↔
      w = if anti then ~~~s.store.anchor r else s.store.anchor r := by
    have hbit {k : Nat} (hk : k < 64) : (if anti then ~~~s.store.anchor r else s.store.anchor r).getMsbD k =
        ((readByte s.store.memory (8 * r.base + k / 8)).getMsbD (k % 8) ^^ anti) := by
      rw [← s.store.getMsbD_anchor r hk]
      cases anti with
      | false => exact (Bool.xor_false _).symm
      | true =>
        rw [if_pos rfl, BitVec.getMsbD_not, decide_eq_true hk, Bool.true_and, Bool.xor_true]
    exact ⟨fun h => BitVec.eq_of_getMsbD_eq fun k hk => (h k hk).trans (hbit hk).symm, fun h k hk => h ▸ hbit hk⟩
  rw [State.AnchorAt, hsense]

theorem ne_complement (w : BitVec 64) : ~~~w ≠ w := by
  intro h
  have hbit := congrArg (fun v : BitVec 64 => v.getLsbD 0) h
  simp at hbit

theorem State.anchorAt_unique {anti anti' : Bool} {w : BitVec 64} {c : Nat} (h : s.AnchorAt l r anti w c)
    (h' : s.AnchorAt l r anti' w c) : anti = anti' := by
  obtain ⟨-, -, -, hw⟩ := (State.anchorAt_iff ..).1 h
  obtain ⟨-, -, -, hw'⟩ := (State.anchorAt_iff ..).1 h'
  rw [hw] at hw'
  cases anti <;> cases anti'
  · rfl
  · exact absurd hw'.symm (ne_complement _)
  · exact absurd hw' (ne_complement _)
  · rfl

/-- The test of a window, in the checker's modulation and auto-invert. -/
def State.testWindow (s : State) (l : Lane) (r : Region) (w : BitVec 64) (c : Nat) : Option Bool :=
  anchorTest (s.store.anchor r) (s.lane l).pam4 (s.lane l).chk.config.autoInvert w c

theorem State.testWindow_some {anti : Bool} {w : BitVec 64} {c : Nat} (h : s.AnchorAt l r anti w c) :
    s.testWindow l r w c = some anti := by
  obtain ⟨hlen, heven, hauto, hw⟩ := (State.anchorAt_iff ..).1 h
  have htested : ¬(decide (c < 64) || ((s.lane l).pam4 && c % 2 == 1)) = true := by
    simp only [Bool.or_eq_true, decide_eq_true_eq, Bool.and_eq_true, beq_iff_eq]
    rintro (h | ⟨h, h'⟩)
    · omega
    · have := heven h
      omega
  refine (if_neg htested).trans ?_
  cases anti with
  | false => exact if_pos hw
  | true =>
    rw [if_pos rfl] at hw
    refine (if_neg (hw ▸ ne_complement _)).trans (if_pos ?_)
    rw [hauto rfl, hw]
    exact beq_self_eq_true _

theorem State.testWindow_none {w : BitVec 64} {c : Nat} (h : ∀ anti, ¬s.AnchorAt l r anti w c) :
    s.testWindow l r w c = none := by
  unfold State.testWindow anchorTest
  split
  · rfl
  · next htested =>
    simp only [Bool.or_eq_true, decide_eq_true_eq, Bool.and_eq_true, beq_iff_eq, not_or, not_and] at htested
    obtain ⟨hlen, heven⟩ := htested
    have hat (anti : Bool) (hauto : anti = true → (s.lane l).chk.config.autoInvert = true)
        (hw : w = if anti then ~~~s.store.anchor r else s.store.anchor r) : s.AnchorAt l r anti w c :=
      (State.anchorAt_iff ..).2 ⟨by omega, fun hp => by have := heven hp; omega, hauto, hw⟩
    refine (if_neg fun hw => h false (hat false nofun hw)).trans (if_neg fun hw => ?_)
    rw [Bool.and_eq_true, beq_iff_eq] at hw
    exact h true (hat true (fun _ => hw.1) hw.2)

/-! ### Feeding bits (R38) -/

theorem windowAfter_cons (pol : Polarity) (w : BitVec 64) (b : Bool) (bits : List Bool) :
    windowAfter pol w (b :: bits) = windowAfter pol (pushBit w (pol.bit b)) bits := rfl

/-- A hunt whose windows match nowhere before its last bit. -/
theorem huntUser_before {anchor : BitVec 64} {pam4 auto : Bool} {pol : Polarity} {bits after : List Bool} {w : BitVec 64} {c : Nat}
    (hnone : ∀ k, 0 < k → k ≤ bits.length → anchorTest anchor pam4 auto (windowAfter pol w (bits.take k)) (c + k) = none) :
    huntUser anchor pam4 auto pol (bits ++ after) w c =
      huntUser anchor pam4 auto pol after (windowAfter pol w bits) (c + bits.length) := by
  induction bits generalizing w c with
  | nil => rfl
  | cons b bits ih =>
    have hfirst := hnone 1 Nat.one_pos (by rw [List.length_cons]; omega)
    have hrest := ih (w := pushBit w (pol.bit b)) (c := c + 1) fun k hk hle => by
      have := hnone (k + 1) (by omega) (by rw [List.length_cons]; omega)
      rw [List.take_succ_cons, windowAfter_cons] at this
      rwa [show c + 1 + k = c + (k + 1) by omega]
    rw [List.cons_append, huntUser, show anchorTest anchor pam4 auto (pushBit w (pol.bit b)) (c + 1) = none from hfirst]
    dsimp only
    rw [hrest, windowAfter_cons, List.length_cons, show c + 1 + bits.length = c + (bits.length + 1) by omega]

theorem huntUser_found {anchor : BitVec 64} {pam4 auto : Bool} {pol : Polarity} {bits after : List Bool} {w : BitVec 64} {c : Nat}
    {inv : Bool} (hne : bits ≠ [])
    (hnone : ∀ k, 0 < k → k < bits.length → anchorTest anchor pam4 auto (windowAfter pol w (bits.take k)) (c + k) = none)
    (hlast : anchorTest anchor pam4 auto (windowAfter pol w bits) (c + bits.length) = some inv) :
    huntUser anchor pam4 auto pol (bits ++ after) w c =
      { window := windowAfter pol w bits, count := c + bits.length, rest := after, found := some inv } := by
  obtain ⟨init, b, rfl⟩ : ∃ init b, bits = init ++ [b] := ⟨_, _, (List.dropLast_append_getLast hne).symm⟩
  have hinit : ∀ k, 0 < k → k ≤ init.length →
      anchorTest anchor pam4 auto (windowAfter pol w (init.take k)) (c + k) = none := fun k hk hle => by
    rw [← List.take_append_of_le_length (l₂ := [b]) hle]
    exact hnone k hk (by rw [List.length_append, List.length_singleton]; omega)
  rw [windowAfter_append, List.length_append, List.length_singleton] at hlast ⊢
  rw [List.append_assoc, huntUser_before hinit, List.singleton_append, huntUser,
    show anchorTest anchor pam4 auto (pushBit (windowAfter pol w init) (pol.bit b)) (c + init.length + 1) = some inv from hlast]
  rfl

theorem huntUser_unfinished {anchor : BitVec 64} {pam4 auto : Bool} {pol : Polarity} {bits : List Bool} {w : BitVec 64} {c : Nat}
    (hnone : ∀ k, 0 < k → k ≤ bits.length → anchorTest anchor pam4 auto (windowAfter pol w (bits.take k)) (c + k) = none) :
    huntUser anchor pam4 auto pol bits w c =
      { window := windowAfter pol w bits, count := c + bits.length, rest := [], found := none } := by
  have h := huntUser_before (after := []) hnone
  rw [List.append_nil] at h
  exact h

/-! ### ANCHOR_MATCH -/

/-- The outcome of a user-pattern hunt's bits. -/
def State.huntedUser (s : State) (l : Lane) (r : Region) (rx : Reception) (w : BitVec 64) (c : Nat) : Hunted :=
  huntUser (s.store.anchor r) (s.lane l).pam4 (s.lane l).chk.config.autoInvert (s.lane l).chk.config.polarity
    ((s.lane l).inputBits rx) w c

/-- The lane at the end of a user-pattern hunt: its polarity flipped for the complement. -/
def LaneState.foundUser (h : Hunted) (inv : Bool) (x : LaneState) : LaneState :=
  if inv then (x.afterHunt h).flipPolarity else x.afterHunt h

theorem State.modLane_modLane (s : State) (l : Lane) (f g : LaneState → LaneState) :
    (s.modLane l f).modLane l g = s.modLane l fun x => g (f x) := by
  have hself : (s.modLane l f).lane l = f (s.lane l) := State.modLane_lane_self ..
  have hset : (s.lanes.set l (f (s.lane l))).set l (g ((s.modLane l f).lane l)) = s.lanes.set l (g (f (s.lane l))) := by
    rw [hself, Vector.set_set]
  exact congrArg (fun lanes => { s with lanes := lanes }) hset

section
variable {rx : Reception} {w : BitVec 64} {c : Nat} (hr : s.store.region (s.lane l).chk.config.pattern = some r)
  (hphase : (s.lane l).chk.phase = .hunt w c)
include hr hphase

theorem State.anchorMatch_found {inv : Bool} (hfound : (s.huntedUser l r rx w c).found = some inv) :
    s.anchorMatch l rx =
      (s.modLane l (LaneState.foundUser (s.huntedUser l r rx w c) inv)).transition [foundMove l (.user 64)] := by
  have hmatch : s.anchorMatch l rx = (if inv then (s.modLane l (LaneState.afterHunt (s.huntedUser l r rx w c))).modLane l
      LaneState.flipPolarity else s.modLane l (LaneState.afterHunt (s.huntedUser l r rx w c))).transition
        [foundMove l (.user 64)] := by
    unfold State.huntedUser at hfound
    simp only [State.anchorMatch, hr, hphase, hfound]
    rfl
  rw [hmatch]
  cases inv with
  | false => rfl
  | true =>
    refine congrArg (State.transition [foundMove l (.user 64)]) ?_
    exact State.modLane_modLane s l _ _

theorem State.anchorMatch_unfinished (hfound : (s.huntedUser l r rx w c).found = none) :
    s.anchorMatch l rx = s.modLane l (LaneState.afterHunt (s.huntedUser l r rx w c)) := by
  unfold State.huntedUser at hfound
  simp only [State.anchorMatch, hr, hphase, hfound]
  rfl

/-- The hunt ends at the first window that matches (R38). -/
theorem anchorMatch_at {bits after : List Bool} {anti : Bool} (hinput : (s.lane l).inputBits rx = bits ++ after)
    (hne : bits ≠ [])
    (hbefore : ∀ k anti, 0 < k → k < bits.length →
      ¬s.AnchorAt l r anti (windowAfter (s.lane l).chk.config.polarity w (bits.take k)) (c + k))
    (hat : s.AnchorAt l r anti (windowAfter (s.lane l).chk.config.polarity w bits) (c + bits.length)) :
    ∃ t, exec (.anchorMatch l rx) s = .next t ∧ SameBase s t ∧ (s.OtherLanesKept t fun k => k = l) ∧
      t.margin = s.margin ∧ (t.lane l).path = (if (s.lane l).loopback then after else (s.lane l).path) ∧
      (t.lane l).chk = { phase := .verify (.user 64) 0 0 0
                         config := { (s.lane l).chk.config with
          polarity := if anti then (s.lane l).chk.config.polarity.flip else (s.lane l).chk.config.polarity } } ∧
      (s.line.enabled.getLsbD 0 = true → t.line.Announces (.lock l .verify .found)) := by
  have hhunted : s.huntedUser l r rx w c = {
      window := windowAfter (s.lane l).chk.config.polarity w bits
      count := c + bits.length, rest := after, found := some anti } := by
    rw [State.huntedUser, hinput]
    exact huntUser_found hne (fun k hk hlt => State.testWindow_none fun anti => hbefore k anti hk hlt)
      (State.testWindow_some hat)
  have hstep := State.anchorMatch_found (rx := rx) hr hphase (inv := anti) (by rw [hhunted])
  rw [hhunted] at hstep
  have htouch := touches_anchorMatch (L := (· = l)) (F := anyFlag) rx s rfl trivial
  obtain ⟨hmargin, hpath, hchk, hlock⟩ := found_event hstep (by cases anti <;> rfl)
  refine ⟨_, exec_anchorMatch s l rx, htouch.sameBase.trans (sameBase_pump _),
    htouch.otherLanesKept.shows (State.shows_pump _), hmargin, hpath.trans ?_, hchk.trans ?_, hlock⟩
  · cases anti <;> rfl
  · cases anti <;> rfl

/-- The hunt goes on without a window that matches (R38). -/
theorem anchorMatch_nowhere {bits : List Bool} (hinput : (s.lane l).inputBits rx = bits)
    (hbefore : ∀ k anti, 0 < k → k < bits.length →
      ¬s.AnchorAt l r anti (windowAfter (s.lane l).chk.config.polarity w (bits.take k)) (c + k))
    (hlast : ∀ anti, bits ≠ [] →
      ¬s.AnchorAt l r anti (windowAfter (s.lane l).chk.config.polarity w bits) (c + bits.length)) :
    exec (.anchorMatch l rx) s = .next (s.modLane l fun x => { x with
      path := if x.loopback then [] else x.path
      chk := { x.chk with
        phase := .hunt (windowAfter x.chk.config.polarity w bits) (c + bits.length) } }).pump := by
  have hnone (k : Nat) (hk : 0 < k) (hle : k ≤ bits.length) : s.testWindow l r
      (windowAfter (s.lane l).chk.config.polarity w (bits.take k)) (c + k) = none := by
    refine State.testWindow_none fun anti => ?_
    rcases Nat.lt_or_eq_of_le hle with hlt | rfl
    · exact hbefore k anti hk hlt
    · rw [List.take_length]
      exact hlast anti (List.ne_nil_of_length_pos hk)
  have hhunted : s.huntedUser l r rx w c = {
      window := windowAfter (s.lane l).chk.config.polarity w bits
      count := c + bits.length, rest := [], found := none } := by
    rw [State.huntedUser, hinput]
    exact huntUser_unfinished hnone
  have hstep := State.anchorMatch_unfinished (rx := rx) hr hphase (by rw [hhunted])
  rw [hhunted] at hstep
  rw [exec_anchorMatch, hstep]
  exact congrArg (fun t : State => Host.Outcome.next t.pump) (State.modLane_eq_of rfl)

end

/-- The window of a fresh hunt that has taken 64 bits holds them. -/
theorem getMsbD_windowAfter_full {pol : Polarity} {bits : List Bool} (hlen : bits.length = 64) {k : Nat} (hk : k < 64)
    {b : Bool} (hb : bits[k]? = some b) : (windowAfter pol 0 bits).getMsbD k = pol.bit b := by
  rw [BitVec.getMsbD, decide_eq_true hk, Bool.true_and]
  refine getLsbD_windowAfter (by omega) (by omega) ?_
  rw [hlen, show 64 - 1 - (64 - 1 - k) = k by omega]
  exact hb

/-- The window of a fresh hunt matches in a sense, once auto-invert lets it. -/
theorem anchorAt_of_bits {bits : List Bool} {anti : Bool} (hlen : bits.length = 64)
    (hbits : ∀ k b, bits[k]? = some b → (s.lane l).chk.config.polarity.bit b
      = ((readByte s.store.memory (8 * r.base + k / 8)).getMsbD (k % 8) ^^ anti)) :
    ((anti = true → (s.lane l).chk.config.autoInvert = true) →
      s.AnchorAt l r anti (windowAfter (s.lane l).chk.config.polarity 0 bits) (0 + bits.length)) ∧
    ∀ anti', s.AnchorAt l r anti' (windowAfter (s.lane l).chk.config.polarity 0 bits) (0 + bits.length) → anti' = anti := by
  have hget {k : Nat} (hk : k < 64) : bits[k]? = some (bits[k]'(hlen ▸ hk)) := List.getElem?_eq_getElem (hlen ▸ hk)
  have hwindow (k : Nat) (hk : k < 64) : (windowAfter (s.lane l).chk.config.polarity 0 bits).getMsbD k =
      ((readByte s.store.memory (8 * r.base + k / 8)).getMsbD (k % 8) ^^ anti) :=
    (getMsbD_windowAfter_full hlen hk (hget hk)).trans (hbits k _ (hget hk))
  refine ⟨fun hauto => ⟨by omega, fun _ => by rw [hlen], hauto, hwindow⟩, fun anti' ⟨_, _, _, hsame⟩ => ?_⟩
  exact (Bool.xor_right_inj.1 ((hwindow 0 (by omega)).symm.trans (hsame 0 (by omega)))).symm

end

/-- Settles O32. -/
theorem anchorStartsVerify : Obligations.AnchorStartsVerify := by
  refine ⟨fun s l r anti rx bits hr hphase hinput hlen hbits => ?_, fun s l r w c rx bits hr hphase hbefore =>
    ⟨fun anti after hinput hne hat => ?_, fun hinput hlast => anchorMatch_nowhere hr hphase hinput hbefore hlast⟩⟩
  · obtain ⟨hmatch, honly⟩ := anchorAt_of_bits hlen hbits
    have hne : bits ≠ [] := List.ne_nil_of_length_pos (by omega)
    have hbefore (k : Nat) (anti' : Bool) (_ : 0 < k) (hlt : k < bits.length) :
        ¬s.AnchorAt l r anti' (windowAfter (s.lane l).chk.config.polarity 0 (bits.take k)) (0 + k) :=
      fun h => absurd h.1 (by omega)
    by_cases hauto : anti = true → (s.lane l).chk.config.autoInvert = true
    · obtain ⟨t, hexec, hbase, hother, -, -, hchk, hlock⟩ := anchorMatch_at (after := []) hr hphase
        (by rw [List.append_nil]; exact hinput) hne hbefore (hmatch hauto)
      refine ⟨t, hexec, hbase, hother, fun h => ⟨?_, hlock⟩, fun h _ => ⟨?_, ?_, hlock⟩, fun h hno => ?_⟩
      · subst h
        exact hchk
      · rw [hchk]
      · subst h
        rw [hchk]
        rfl
      · rw [hauto h] at hno
        cases hno
    · obtain ⟨rfl, hoff⟩ := Classical.not_imp.1 hauto
      have hexec := anchorMatch_nowhere (rx := rx) hr hphase hinput hbefore fun anti' _ h =>
        hoff ((honly anti' h ▸ h).2.2.1 rfl)
      have htouch := touches_anchorMatch (L := (· = l)) (F := anyFlag) rx s rfl trivial
      have hself (f : LaneState → LaneState) : (s.modLane l f).pump.lane l = f (s.lane l) := State.modLane_lane_self ..
      rw [exec_anchorMatch] at hexec
      refine ⟨_, exec_anchorMatch s l rx, htouch.sameBase.trans (sameBase_pump _),
        htouch.otherLanesKept.shows (State.shows_pump _), fun h => ?_, fun _ h => absurd h hoff, fun _ _ => ?_⟩
      · cases h
      · rw [Host.Outcome.next.inj hexec, hself]
        exact ⟨rfl, rfl⟩
  · obtain ⟨t, hexec, hbase, hother, hmargin, hpath, hchk, hlock⟩ := anchorMatch_at hr hphase hinput hne hbefore hat
    exact ⟨t, hexec, hbase, hother, hmargin, hpath, by rw [hchk], by rw [hchk], hlock⟩

end Sys2Proof.Machine

/-! Write completion and the next grant (O55, R148 to R151, R153). -/

namespace Sys2Proof.Machine

/-! ### The arbiter's choice (R149) -/

theorem laneList_getElem : ∀ i : Fin laneList.length, laneList[i].val = i.val := by decide

theorem laneList_find? {p : Lane → Bool} {l k : Lane} (h : laneList.find? p = some l) (hk : p k = true) : l.val ≤ k.val := by
  obtain ⟨-, i, hi, hl, hbefore⟩ := List.find?_eq_some_iff_getElem.1 h
  have hget {j : Nat} (hj : j < laneList.length) : (laneList[j]).val = j  :=
    laneList_getElem ⟨j, hj⟩
  by_contra hlt
  have hli : l.val = i := by rw [← hl, hget hi]
  have hj : k.val < i := by omega
  have hkj : laneList[k.val]'(by omega) = k := Fin.ext (hget (by omega))
  have := hbefore k.val hj
  rw [hkj, hk] at this
  cases this

section
variable {c : CaptureLog} {k : Lane}

theorem CaptureLog.slotFull_iff : c.slotFull k = true ↔ c.lanes[k].slot.isSome = true := Iff.rfl

/-- The first full slot in the ROTATE order is the one fewest places behind the lane granted last. -/
theorem CaptureLog.rotateChoice_eq (hfull : c.slotFull k = true)
    (hleast : ∀ j : Lane, c.slotFull j = true → (k - c.lastGranted - 1).val ≤ (j - c.lastGranted - 1).val) :
    c.rotateChoice = some k := by
  have hplace (l : Lane) : c.lastGranted + 1 + (l - c.lastGranted - 1) = l := by
    generalize c.lastGranted = a
    revert a l
    decide
  have hdistance (i : Lane) : c.lastGranted + 1 + i - c.lastGranted - 1 = i := by
    generalize c.lastGranted = a
    revert a i
    decide
  rw [CaptureLog.rotateChoice, rotateOrder, List.find?_map]
  cases hfind : laneList.find? (c.slotFull ∘ fun i => c.lastGranted + 1 + i) with
  | none =>
    have := List.find?_eq_none.1 hfind (k - c.lastGranted - 1) (mem_laneList _)
    rw [Function.comp, hplace] at this
    exact absurd hfull this
  | some i =>
    have hi : c.slotFull (c.lastGranted + 1 + i) = true := List.find?_some (p := c.slotFull ∘ _) hfind
    have hle := laneList_find? hfind (k := k - c.lastGranted - 1) (by rw [Function.comp, hplace]; exact hfull)
    have hge := hleast _ hi
    rw [hdistance] at hge
    have hik : i = k - c.lastGranted - 1 := Fin.ext (Nat.le_antisymm hle hge)
    rw [Option.map_some, hik, hplace]

/-- The lane that the policy in force picks is the arbiter's choice. -/
theorem CaptureLog.choose_of_picks (h : c.Picks k) : c.choose = some k := by
  obtain ⟨hfull, hfixed, hstay, hrotate⟩ := h
  unfold CaptureLog.choose
  cases harb : c.arb with
  | rotate => exact CaptureLog.rotateChoice_eq hfull (hrotate (.inl harb))
  | fixed =>
    cases hfind : laneList.find? c.slotFull with
    | none => exact absurd hfull (List.find?_eq_none.1 hfind k (mem_laneList _))
    | some i =>
      have hle := laneList_find? hfind hfull
      have hge := hfixed harb i (List.find?_some (p := c.slotFull) hfind)
      exact congrArg some (Fin.ext (Nat.le_antisymm hle hge))
  | stay =>
    dsimp only
    split
    · next hlast => rw [hstay harb hlast]
    · next hlast =>
      exact CaptureLog.rotateChoice_eq hfull (hrotate (.inr ⟨harb, CaptureLog.slot_eq_none hlast⟩))

end

/-! ### Grants and LOG notices (R150, R153) -/

theorem State.grantRounds_fullMark {n : Nat} {s : State} (h : s.log.fullMark = true) : (s.grantRounds n).log.fullMark = true := by
  induction n generalizing s with
  | zero => exact h
  | succ n ih =>
    rw [State.grantRounds]
    split
    · exact ih (State.grantTo_fullMark h)
    · exact h

theorem State.queued_grantRounds_marked {n : Nat} {s : State} (h : s.log.fullMark = true) :
    s.line.Queued Notice.notLog (s.grantRounds n).line := by
  induction n generalizing s with
  | zero => exact .refl _
  | succ n ih =>
    rw [State.grantRounds]
    split
    · exact (State.queued_grantTo_marked h).trans (ih (State.grantTo_fullMark h))
    · exact .refl _

/-- A grant that leaves the full mark as it is queues no LOG notice. -/
theorem State.queued_grantTo_same {l : Lane} {s : State} (h : (s.grantTo l).log.fullMark = s.log.fullMark) :
    s.line.Queued Notice.notLog (s.grantTo l).line := by
  by_cases hfull : s.log.full = .stop ∧ Config.logCapacity ≤ s.log.records.length
  · refine State.queued_grantTo_marked (h.symm.trans ?_)
    rw [State.grantTo_log, if_pos hfull]
  · rw [State.grantTo, if_neg hfull]
    exact .refl _

theorem State.queued_grantRounds_same {n : Nat} {s : State} (h : (s.grantRounds n).log.fullMark = s.log.fullMark) :
    s.line.Queued Notice.notLog (s.grantRounds n).line := by
  induction n generalizing s with
  | zero => exact .refl _
  | succ n ih =>
    rw [State.grantRounds] at h ⊢
    split at h
    · next l hp hc =>
      have hfirst : (s.grantTo l).log.fullMark = s.log.fullMark := by
        cases hmark : s.log.fullMark with
        | true => exact State.grantTo_fullMark hmark
        | false =>
          rw [← hmark, ← h]
          cases hmark' : (s.grantTo l).log.fullMark with
          | true => exact (State.grantRounds_fullMark hmark').symm
          | false => rw [h, hmark]
      exact (State.queued_grantTo_same hfirst).trans (ih (h.trans hfirst.symm))
    · exact .refl _

/-! ### At a full log under STOP the arbiter discards every waiting candidate (R150) -/

/-- The port is FREE and the log is full under STOP. -/
structure CaptureLog.Discards (c : CaptureLog) : Prop where
  port : c.port = .free
  stop : c.full = .stop
  full : 512 ≤ c.records.length

/-- From `v` to `t` every waiting candidate is discarded: its slot emptied, its lane flagged, a miss counted. -/
structure State.DiscardsTo (v t : State) : Prop where
  records : t.log.records = v.log.records
  nextSequence : t.log.nextSequence = v.log.nextSequence
  port : t.log.port = v.log.port
  slots : ∀ j : Lane, t.log.lanes[j] = { v.log.lanes[j] with slot := none }
  lane : ∀ j : Lane, t.lane j =
    if v.log.slotFull j then { v.lane j with gate := (v.lane j).gate.addMissed } else v.lane j
  flag : ∀ j : Lane, t.flagSet j .captureMissed = (v.flagSet j .captureMissed || v.log.slotFull j)

section
variable {v : State} {l : Lane} {n : Nat}

theorem State.discardsTo_self (h : ∀ k : Lane, v.log.lanes[k].slot = none) : v.DiscardsTo v := by
  have hempty (j : Lane) : v.log.slotFull j = false := by
    rw [CaptureLog.slotFull, h j]
    rfl
  refine ⟨rfl, rfl, rfl, fun j => (CaptureLane.with_slot (h j)).symm, fun j => ?_, fun j => ?_⟩
  · rw [hempty]
    rfl
  · rw [hempty, Bool.or_false]

theorem State.grantTo_slotFull_self (hd : v.log.Discards) : (v.grantTo l).log.slotFull l = false := by
  rw [State.grantTo_log, if_pos ⟨hd.stop, hd.full⟩, CaptureLog.slotFull, CaptureLog.set_lane, if_pos rfl]
  rfl

theorem State.grantTo_slotFull_of_ne (hd : v.log.Discards) {j : Lane} (hj : l ≠ j) :
    (v.grantTo l).log.slotFull j = v.log.slotFull j := by
  rw [State.grantTo_log, if_pos ⟨hd.stop, hd.full⟩, CaptureLog.slotFull, CaptureLog.set_lane, if_neg hj]
  rfl

/-- One discard, then all the others. -/
theorem State.DiscardsTo.cons {t : State} (hd : v.log.Discards) (hl : v.log.slotFull l = true)
    (h : (v.grantTo l).DiscardsTo t) : v.DiscardsTo t := by
  have hfull : v.log.full = .stop ∧ Config.logCapacity ≤ v.log.records.length := ⟨hd.stop, hd.full⟩
  have hlog := State.grantTo_log l v
  rw [if_pos hfull] at hlog
  refine ⟨by rw [h.records, hlog], by rw [h.nextSequence, hlog], by rw [h.port, hlog], fun j => ?_, fun j => ?_, fun j => ?_⟩
  · rw [h.slots, hlog, CaptureLog.set_lane]
    split
    · next hj => rw [hj]
    · rfl
  · rw [h.lane, State.grantTo_lane]
    by_cases hj : l = j
    · subst hj
      rw [State.grantTo_slotFull_self hd, if_neg Bool.false_ne_true, if_pos ⟨rfl, hfull⟩, if_pos hl]
    · rw [State.grantTo_slotFull_of_ne hd hj]
      simp only [hj, false_and, if_false]
  · rw [h.flag, State.grantTo_flagSet]
    by_cases hj : l = j
    · subst hj
      rw [hl, decide_eq_true ⟨rfl, rfl, hfull⟩, Bool.or_true, Bool.true_or]
    · rw [State.grantTo_slotFull_of_ne hd hj, decide_eq_false fun h => hj h.1, Bool.or_false]

theorem State.discards_grantTo (hd : v.log.Discards) : (v.grantTo l).log.Discards := by
  rw [State.grantTo_log, if_pos ⟨hd.stop, hd.full⟩]
  exact ⟨hd.port, hd.stop, hd.full⟩

theorem State.discardsTo_grantRounds (hd : v.log.Discards) (hn : v.log.fullLanes.card ≤ n) :
    v.DiscardsTo (v.grantRounds n) := by
  induction n generalizing v with
  | zero =>
    refine State.discardsTo_self fun l => CaptureLog.slot_eq_none fun h => ?_
    exact Finset.notMem_empty l (Finset.card_eq_zero.1 (Nat.le_zero.1 hn) ▸ CaptureLog.mem_fullLanes.2 h)
  | succ n ih =>
    cases hc : v.log.choose with
    | none =>
      rw [State.grantRounds_of_empty (CaptureLog.empty_of_choose hc)]
      exact State.discardsTo_self (CaptureLog.empty_of_choose hc)
    | some l =>
      have hl := slotFull_of_choose hc
      have hfewer := (fullLanes_grantTo hl).resolve_left (not_not_intro (State.discards_grantTo hd).port)
      rw [State.grantRounds, hd.port, hc]
      exact (ih (State.discards_grantTo hd) (by omega)).cons hd hl

theorem State.discardsTo_grant (hd : v.log.Discards) : v.DiscardsTo v.grant :=
  State.discardsTo_grantRounds hd (Finset.card_le_univ _)

/-- The first of the discards leaves the full mark set. -/
theorem State.grant_of_discards (hd : v.log.Discards) (hl : v.log.slotFull l = true) :
    ∃ k, v.grant = (v.grantTo k).grantRounds 7 ∧ (v.grantTo k).log.fullMark = true := by
  cases hc : v.log.choose with
  | none =>
    rw [CaptureLog.slotFull, CaptureLog.empty_of_choose hc l] at hl
    cases hl
  | some k =>
    refine ⟨k, State.grant_succ hd.port hc, ?_⟩
    rw [State.grantTo_log, if_pos ⟨hd.stop, hd.full⟩]

/-- The discards of one settling announce the full log once (R150, R153). -/
theorem State.fullAnnounced_grant (hd : v.log.Discards) (hl : v.log.slotFull l = true) :
    v.FullAnnounced v.grant v.log.records.length v.log.newest := by
  obtain ⟨k, hgrant, hmark⟩ := State.grant_of_discards hd hl
  have hrest := State.queued_grantRounds_marked (n := 7) hmark
  obtain ⟨hclear, hset⟩ := State.fullAnnounced_grantTo (l := k) hd.stop hd.full
  rw [hgrant]
  refine ⟨fun hm hon => hrest.announces (fun m hn => not_sameKey_of_kind (Ne.symm hn)) (hclear hm hon), fun hm n q h => hset hm n q ?_⟩
  exact hrest.announces_before h fun h => h rfl

end

/-! ### WRITE_COMPLETION (R148 to R151, R153) -/

theorem exec_writeCompletion (s : State) : exec .writeCompletion s = .next s.writeCompletion.pump := rfl

theorem State.writeCompletion_of_free {s : State} (h : s.log.port = .free) : s.writeCompletion = s := by
  simp only [State.writeCompletion, h]

theorem CaptureLog.newest_afterWrite (c : CaptureLog) (l : Lane) (policy : FullPolicy) (cand : Candidate) :
    (c.afterWrite l policy cand).newest = c.nextSequence := by
  simp [CaptureLog.newest, CaptureLog.afterWrite]

theorem CaptureLog.reaches_iff {c d : CaptureLog} :
    c.reaches d = true ↔ c.records.length + 1 = c.watermark ∧ d.records.length = c.watermark := by
  simp [CaptureLog.reaches]

section
variable {s : State} {l k : Lane} {policy : FullPolicy} {cand : Candidate}

/-- A completed write enters its record, announces a count raised to the watermark, and leaves the rest to the arbiter. -/
theorem State.writeCompletion_grant (hport : s.log.port = .writing l policy) (hslot : s.log.lanes[l].slot = some cand) :
    ∃ v : State, s.writeCompletion = v.grant ∧ v.log = s.log.afterWrite l policy cand ∧ v.lanes = s.lanes ∧
      v.history = s.history ∧ s.line.Queued Notice.notFull v.line ∧
      (s.log.records.length + 1 = s.log.watermark → (s.log.afterWrite l policy cand).records.length = s.log.watermark →
        s.line.enabled.getLsbD 5 = true → v.line.Announces (.log .watermark s.log.watermark s.log.nextSequence)) := by
  have heq := State.writeCompletion_eq hport hslot
  by_cases hreach : s.log.reaches (s.log.afterWrite l policy cand) = true
  · rw [if_pos hreach] at heq
    refine ⟨_, heq, rfl, rfl, rfl, ControlLine.queued_one nofun _, fun _ hcount hon => ?_⟩
    rw [CaptureLog.newest_afterWrite, hcount]
    exact ControlLine.announces_queueNotice_self hon
  · rw [if_neg hreach] at heq
    exact ⟨_, heq, rfl, rfl, rfl, .refl _, fun hbefore hafter => absurd (CaptureLog.reaches_iff.2 ⟨hbefore, hafter⟩) hreach⟩

/-- A grant to the lane picked begins its write. -/
theorem State.grant_of_picks (hport : s.log.port = .free) (hk : s.log.Picks k)
    (hroom : s.log.full = .ring ∨ s.log.records.length < 512) :
    s.grant = s.withLog { s.log with lastGranted := k, port := .writing k s.log.full } := by
  have hfull : ¬(s.log.full = .stop ∧ Config.logCapacity ≤ s.log.records.length) := by
    rintro ⟨hstop, hlen⟩
    rcases hroom with hring | hlt
    · rw [hstop] at hring
      cases hring
    · exact absurd hlt (Nat.not_lt.2 hlen)
  rw [State.grant_succ hport (CaptureLog.choose_of_picks hk), State.grantTo, if_neg hfull]
  refine State.grantRounds_of_writing (fun h => ?_) 7
  cases h

/-- Settles O55: the record enters the log, and the arbiter grants the lane picked or, at a full log under STOP, discards
every waiting candidate. -/
theorem writeCompletionAndNextGrant : Obligations.WriteCompletionAndNextGrant := by
  intro s
  refine ⟨fun hport => ?_, fun l policy cand hport hslot => ?_⟩
  · rw [exec_writeCompletion, State.writeCompletion_of_free hport]
  obtain ⟨v, hgrant, hlog, hlanes, hhist, hline, hwater⟩ := State.writeCompletion_grant hport hslot
  have htouch := touches_writeCompletion (L := fun _ => False) (F := fun _ _ => False) s
  have hmargin := State.writeCompletion_margin s
  have hshows := State.shows_pump s.writeCompletion
  refine ⟨_, _, exec_writeCompletion s, htouch.sameBase.trans (sameBase_pump _), hmargin,
    htouch.otherLanesKept.shows hshows, rfl, ?_⟩
  rw [hshows.log, hshows.lanes, hshows.history]
  have hmark : v.log.fullMark = s.log.fullMark := by
    rw [hlog]
    rfl
  have hfree : v.log.port = .free := congrArg CaptureLog.port hlog
  have hlane (j : Lane) : v.lane j = s.lane j := congrArg (fun x : Vector LaneState 8 => x[j]) hlanes
  rw [hgrant] at hshows ⊢
  rw [← hlog] at hwater ⊢
  refine ⟨fun hbefore hafter hon hkept => ?_, fun hempty => ?_, fun k hk hroom => ?_, fun k hfull hstop hlen => ?_⟩
  · rw [hshows.announces]
    have hqueued := State.queued_grantRounds_same (n := 8) (s := v) (hkept.trans hmark.symm)
    exact hqueued.announces (fun m hm => not_sameKey_of_kind (Ne.symm hm)) (hwater hbefore hafter hon)
  · rw [State.grant_of_settled (.inr hempty)]
    exact ⟨rfl, hlanes, hhist⟩
  · rw [State.grant_of_picks hfree hk hroom]
    exact ⟨rfl, hlanes, hhist⟩
  · have hd : v.log.Discards := ⟨hfree, hstop, hlen⟩
    have hto := State.discardsTo_grant hd
    obtain ⟨first, hrounds, hfirst⟩ := State.grant_of_discards hd hfull
    obtain ⟨hclear, hset⟩ := State.fullAnnounced_grant hd hfull
    have hnewest : v.log.newest = s.log.nextSequence := by rw [hlog, CaptureLog.newest_afterWrite]
    rw [hnewest] at hclear
    refine ⟨hto.records, hto.nextSequence, hto.port.trans hfree, ?_, ?_, ⟨fun hm hon => ?_, fun hm n q h => ?_⟩,
      hto.slots, fun hactive hmax => ?_⟩
    · rw [hrounds]
      exact State.grantRounds_fullMark hfirst
    · rw [hshows.flagSet, hto.flag, show v.log.slotFull k = true from hfull, Bool.or_true]
    · rw [hshows.announces]
      exact hclear (hmark.trans hm) (by rw [hline.enabled]; exact hon)
    · rw [hshows.announces] at h
      exact hline.announces_before (hset (hmark.trans hm) n q h) fun hn => hn n q rfl
    · rw [hshows.lane, hto.lane, if_pos (show v.log.slotFull k = true from hfull), hlane]
      exact Gate.addMissed_missed hactive hmax

end

end Sys2Proof.Machine

/-! LANE_SET (O20, R17 to R19, R35, R36, R43, R53, R54, R96, R101, R142, R146). -/

namespace Sys2Proof.Machine

/-! ### The settings of a lane and its generator (R17 to R19, R29) -/

section
variable {x : LaneState} {power : LanePower} {rate : Fin 4} {loop : Bool}

theorem LaneState.reconfigures_iff : x.reconfigures rate loop = true ↔ x.rate ≠ rate ∨ x.loopback ≠ loop := by
  rw [LaneState.reconfigures, Bool.or_eq_true, bne_iff_ne, bne_iff_ne]

theorem LaneState.reconfigures_eq_false (hrate : x.rate = rate) (hloop : x.loopback = loop) :
    x.reconfigures rate loop = false :=
  Bool.eq_false_iff.2 fun h => (LaneState.reconfigures_iff.1 h).elim (fun h => h hrate) fun h => h hloop

/-- A generator that is OFF has no place to reload. -/
theorem Generator.reload_of_off {g : Generator} (h : g.run = none) : g.reload = g := by
  rw [Generator.reload, h, Option.map_none, ← h]

theorem LaneState.gen_of_off (hrun : x.gen.run.isSome = x.power.tx) (h : power.tx = false) (hx : x.power.tx = false) :
    (x.applySettings power rate loop).gen = x.gen := by
  have hnone : x.gen.run = none := Option.not_isSome_iff_eq_none.1 (by rw [hrun, hx]; exact Bool.false_ne_true)
  simp [LaneState.applySettings, h, hx, Generator.reload_of_off hnone]

theorem LaneState.gen_of_stop (h : power.tx = false) (hx : x.power.tx = true) :
    (x.applySettings power rate loop).gen = x.gen.stop := by
  simp [LaneState.applySettings, h, hx]

theorem LaneState.gen_of_start (h : power.tx = true) (hx : x.power.tx = false) :
    (x.applySettings power rate loop).gen = x.gen.start := by
  simp [LaneState.applySettings, h, hx]

theorem LaneState.gen_of_on (h : power.tx = true) (hx : x.power.tx = true) :
    (x.applySettings power rate loop).gen = if x.reconfigures rate loop then x.gen.reload else x.gen := by
  simp [LaneState.applySettings, h, hx]

theorem Generator.stop_mode {g : Generator} :
    (∀ n, g.flight = .own n → g.stop.mode = .none) ∧ ((∀ n, g.flight ≠ .own n) → g.stop.mode = g.mode) := by
  unfold Generator.stop
  cases hf : g.flight with
  | own n => exact ⟨fun _ _ => rfl, fun h => absurd rfl (h n)⟩
  | idle => exact ⟨nofun, fun _ => rfl⟩
  | detached n => exact ⟨nofun, fun _ => rfl⟩

/-- After LANE_SET the generator runs where the lane's transmit side has power. -/
theorem LaneState.gen_state (hrun : x.gen.run.isSome = x.power.tx) :
    (x.applySettings power rate loop).gen.state = if power.tx then .running else .off := by
  unfold Generator.state
  cases h : power.tx <;> cases hx : x.power.tx
  · rw [LaneState.gen_of_off hrun h hx, hrun, hx]
  · rw [LaneState.gen_of_stop h hx]
    rfl
  · rw [LaneState.gen_of_start h hx]
    rfl
  · rw [LaneState.gen_of_on h hx]
    have hsome : (if x.reconfigures rate loop then x.gen.reload else x.gen).run.isSome = true := by
      split
      · rw [Generator.reload, Option.isSome_map, hrun, hx]
      · rw [hrun, hx]
    rw [hsome]

end

/-! ### The transition LANE_SET brings a checker (R35, R36, R43) -/

section
variable {l : Lane} {x y : LaneState} {m : Move}

theorem settingsMove_powerDown (hx : x.power.rx = true) (hy : y.power.rx = false) :
    settingsMove l x y = some { lane := l, phase := .off, reason := .powerDown } := by
  simp [settingsMove, hx, hy]

theorem settingsMove_powerUp (hx : x.power.rx = false) (hy : y.power.rx = true) :
    settingsMove l x y = some { lane := l, phase := y.signalDecides, reason := .powerUp } := by
  simp [settingsMove, hx, hy]

/-- Where the receive power stays, the checker's state decides. -/
theorem settingsMove_kept (h : y.power.rx = x.power.rx) : settingsMove l x y =
    if x.chkState = .off ∨ x.chkState = .held then none
    else if x.reconfigures y.rate y.loopback then
      (if x.chkState = .noSignal ∧ y.signal = false then none
       else some { lane := l, phase := y.signalDecides, reason := .reconfigured })
    else if x.signal = y.signal then none
    else y.signalMove l := by
  have hdown : ¬(x.power.rx && !y.power.rx) = true := by rw [h, Bool.and_not_self]; exact Bool.false_ne_true
  have hup : ¬(!x.power.rx && y.power.rx) = true := by rw [h, Bool.not_and_self]; exact Bool.false_ne_true
  rw [settingsMove, if_neg hdown, if_neg hup]

theorem settingsMove_resting (h : y.power.rx = x.power.rx) (hrest : x.chkState = .off ∨ x.chkState = .held) :
    settingsMove l x y = none := by
  rw [settingsMove_kept h, if_pos hrest]

theorem settingsMove_reconfigured (h : y.power.rx = x.power.rx) (hoff : x.chkState ≠ .off) (hheld : x.chkState ≠ .held)
    (hre : x.reconfigures y.rate y.loopback = true) : settingsMove l x y =
      if x.chkState = .noSignal ∧ y.signal = false then none
      else some { lane := l, phase := y.signalDecides, reason := .reconfigured } := by
  rw [settingsMove_kept h, if_neg (not_or.2 ⟨hoff, hheld⟩), if_pos hre]

theorem settingsMove_same (h : y.power.rx = x.power.rx) (hre : x.reconfigures y.rate y.loopback = false)
    (hsignal : y.signal = x.signal) : settingsMove l x y = none := by
  rw [settingsMove_kept h, if_neg (Bool.eq_false_iff.1 hre), if_pos hsignal.symm, ite_self]

/-- A signal that came, to a checker in NO_SIGNAL. -/
theorem settingsMove_signalUp (h : y.power.rx = x.power.rx) (hre : x.reconfigures y.rate y.loopback = false)
    (hne : y.signal ≠ x.signal) (hup : y.signal = true) (hc : x.chkState = .noSignal) (hy : y.chkState = x.chkState) :
    settingsMove l x y = some { lane := l, phase := .hunt 0 0, reason := .signalUp } := by
  rw [settingsMove_kept h, if_neg (by rw [hc]; exact not_or.2 ⟨nofun, nofun⟩), if_neg (Bool.eq_false_iff.1 hre),
    if_neg hne.symm, LaneState.signalMove, hup, hy, hc]

/-- A signal that went, from a checker that listens. -/
theorem settingsMove_signalDown (h : y.power.rx = x.power.rx) (hre : x.reconfigures y.rate y.loopback = false)
    (hne : y.signal ≠ x.signal) (hdown : y.signal = false) (hc : x.chkState.listening = true) (hy : y.chkState = x.chkState) :
    settingsMove l x y = some { lane := l, phase := .noSignal, reason := .signal } := by
  have hrest : ¬(x.chkState = .off ∨ x.chkState = .held) := by
    rintro (h | h) <;> (rw [h] at hc; cases hc)
  rw [settingsMove_kept h, if_neg hrest, if_neg (Bool.eq_false_iff.1 hre), if_neg hne.symm]
  rcases y.signalMove_cases l with ⟨-, -, hlisten⟩ | ⟨hup, -⟩ | ⟨-, -, hmove⟩
  · rw [hlisten (hy ▸ hc)] at hdown
    cases hdown
  · rw [hup] at hdown
    cases hdown
  · exact hmove

/-- The five transitions LANE_SET can bring a checker. -/
theorem settingsMove_cases (hm : settingsMove l x y = some m) (hy : y.chkState = x.chkState) :
    (m = { lane := l, phase := .off, reason := .powerDown } ∧ x.power.rx = true ∧ y.power.rx = false) ∨
    (m = { lane := l, phase := y.signalDecides, reason := .powerUp } ∧ x.power.rx = false ∧ y.power.rx = true) ∨
    (m = { lane := l, phase := y.signalDecides, reason := .reconfigured } ∧ y.power.rx = x.power.rx ∧
      x.chkState ≠ .off ∧ x.chkState ≠ .held ∧ x.reconfigures y.rate y.loopback = true) ∨
    (m = { lane := l, phase := .hunt 0 0, reason := .signalUp } ∧ y.signal = true ∧ x.chkState = .noSignal) ∨
    (m = { lane := l, phase := .noSignal, reason := .signal } ∧ y.power.rx = x.power.rx ∧
      x.reconfigures y.rate y.loopback = false ∧ y.signal ≠ x.signal ∧ y.signal = false ∧ x.chkState.listening = true) := by
  by_cases hdown : x.power.rx = true ∧ y.power.rx = false
  · rw [settingsMove_powerDown hdown.1 hdown.2] at hm
    exact .inl ⟨(Option.some.inj hm).symm, hdown⟩
  by_cases hup : x.power.rx = false ∧ y.power.rx = true
  · rw [settingsMove_powerUp hup.1 hup.2] at hm
    exact .inr (.inl ⟨(Option.some.inj hm).symm, hup⟩)
  have hkept : y.power.rx = x.power.rx := by
    cases hx : x.power.rx <;> cases hy : y.power.rx
    · rfl
    · exact absurd ⟨hx, hy⟩ hup
    · exact absurd ⟨hx, hy⟩ hdown
    · rfl
  refine .inr (.inr ?_)
  rw [settingsMove_kept hkept] at hm
  split at hm
  · cases hm
  · next hrest =>
    obtain ⟨hoff, hheld⟩ := not_or.1 hrest
    split at hm
    · next hre =>
      split at hm
      · cases hm
      · exact .inl ⟨(Option.some.inj hm).symm, hkept, hoff, hheld, hre⟩
    · next hre =>
      split at hm
      · cases hm
      · next hsignal =>
        rcases y.signalMove_cases l with ⟨hnone, -⟩ | ⟨hs, hc, hsome⟩ | ⟨hs, hc, hsome⟩
        · rw [hnone] at hm
          cases hm
        · rw [hsome] at hm
          exact .inr (.inl ⟨(Option.some.inj hm).symm, hs, hy ▸ hc⟩)
        · rw [hsome] at hm
          exact .inr (.inr ⟨(Option.some.inj hm).symm, hkept, Bool.eq_false_iff.2 hre, Ne.symm hsignal, hs, hy ▸ hc⟩)

end

end Sys2Proof.Machine
/-! LANE_SET on the named lanes (O20): its transitions, the gates and candidates they reach, and the margin unit. -/

namespace Sys2Proof.Machine

section
variable (s : State) (b : LaneSet) (power : LanePower) (rate : Fin 4) (loop : Bool)

/-- The state with the settings of a LANE_SET, before the checkers' transitions. -/
def State.withSettings : State := s.onLanes b (LaneState.applySettings power rate loop)

/-- The transition that LANE_SET brings the checker of a lane, if any. -/
def State.settingsMoveOf (l : Lane) : Option Move :=
  settingsMove l (s.lane l) ((s.lane l).applySettings power rate loop)

/-- The transitions of a LANE_SET. -/
def State.settingsMoves : List Move := (lanesOf b).filterMap (s.settingsMoveOf power rate loop)

theorem State.applyLaneSet_eq : s.applyLaneSet b power rate loop =
    (s.withSettings b power rate loop).transition (s.settingsMoves b power rate loop) := rfl

theorem State.withSettings_eq : s.withSettings b power rate loop =
    { s with lanes := (s.withSettings b power rate loop).lanes } := State.onLanes_eq ..

theorem State.withSettings_log : (s.withSettings b power rate loop).log = s.log := by rw [State.withSettings_eq]

theorem State.withSettings_line : (s.withSettings b power rate loop).line = s.line := by rw [State.withSettings_eq]

theorem State.withSettings_margin : (s.withSettings b power rate loop).margin = s.margin := by rw [State.withSettings_eq]

theorem State.withSettings_uptime : (s.withSettings b power rate loop).uptime = s.uptime := by rw [State.withSettings_eq]

theorem State.nodup_settingsMoves : ((s.settingsMoves b power rate loop).map Move.lane).Nodup :=
  nodup_filterMap_lanes fun _ _ => settingsMove_lane

/-- The checkers stand as before LANE_SET when its transitions begin. -/
theorem State.withSettings_chk (l : Lane) : ((s.withSettings b power rate loop).lane l).chk = (s.lane l).chk := by
  rw [State.withSettings, State.onLanes_lane]
  split <;> rfl

theorem State.withSettings_gate (l : Lane) : ((s.withSettings b power rate loop).lane l).gate = (s.lane l).gate := by
  rw [State.withSettings, State.onLanes_lane]
  split <;> rfl

theorem State.withSettings_chkState (l : Lane) :
    ((s.withSettings b power rate loop).lane l).chkState = (s.lane l).chkState :=
  congrArg (fun c : Checker => c.phase.state) (s.withSettings_chk b power rate loop l)

/-- LANE_SET sets no flags but SATURATED and those of its transitions. -/
theorem touches_laneSet : Touches (· ∈ lanesOf b)
    (fun l f => f = .saturated ∨ ∃ m, s.settingsMoveOf power rate loop l = some m ∧ m.reason.flag = some f) s
    (s.applyLaneSet b power rate loop) := by
  have hset := Touches.foldl (L := (· ∈ lanesOf b))
    (F := fun l f => f = .saturated ∨ ∃ m, s.settingsMoveOf power rate loop l = some m ∧ m.reason.flag = some f)
    (fun s l => s.modLane l (LaneState.applySettings power rate loop)) (lanesOf b)
    (fun s l hl => touches_modLane _ s hl (keepsIds_applySettings power rate loop)) s
  refine hset.trans (touches_transition_of _ (fun m hm => ?_) (fun _ _ => .inl rfl) fun m hm f hf => .inr ?_)
  · obtain ⟨l, hl, h⟩ := List.mem_filterMap.1 hm
    exact settingsMove_lane h ▸ hl
  · obtain ⟨l, -, h⟩ := List.mem_filterMap.1 hm
    obtain rfl := settingsMove_lane h
    exact ⟨m, h, hf⟩

end

section
variable {s : State} {b : LaneSet} {power : LanePower} {rate : Fin 4} {loop : Bool} {l : Lane} {m : Move}

theorem State.withSettings_lane (hl : l ∈ lanesOf b) :
    (s.withSettings b power rate loop).lane l = (s.lane l).applySettings power rate loop := by
  rw [State.withSettings, State.onLanes_lane, if_pos ((mem_lanesOf b l).1 hl)]

theorem State.mem_settingsMoves (hl : l ∈ lanesOf b) (hm : s.settingsMoveOf power rate loop l = some m) :
    m ∈ s.settingsMoves b power rate loop := List.mem_filterMap.2 ⟨l, hl, hm⟩

/-- A lane without a transition keeps its settings, its checker and its gate, captures missed aside. -/
theorem laneSet_kept (hl : l ∈ lanesOf b) (hm : s.settingsMoveOf power rate loop l = none) :
    ((s.lane l).applySettings power rate loop).Missed ((s.applyLaneSet b power rate loop).lane l) := by
  rw [State.applyLaneSet_eq, ← State.withSettings_lane hl]
  refine missed_transition_other (fun n hn h => ?_) _
  obtain ⟨k, -, hk⟩ := List.mem_filterMap.1 hn
  have hkl : k = l := (settingsMove_lane hk).symm.trans h
  rw [← hkl, hk] at hm
  cases hm

/-- Every named lane takes the settings. -/
theorem laneSet_settings (hl : l ∈ lanesOf b) :
    ((s.lane l).applySettings power rate loop).SameSettings ((s.applyLaneSet b power rate loop).lane l) := by
  cases hm : s.settingsMoveOf power rate loop l with
  | none => exact (laneSet_kept hl hm).sameSettings
  | some m =>
    have h := transition_sameSettings (s.nodup_settingsMoves b power rate loop) (State.mem_settingsMoves hl hm)
      (s.withSettings b power rate loop)
    rwa [settingsMove_lane hm, State.withSettings_lane hl] at h

/-- The checker enters its transition's phase, which the LOCK notice and the history flag tell (R53, R54). -/
theorem laneSet_moved (hl : l ∈ lanesOf b) (hm : s.settingsMoveOf power rate loop l = some m) :
    ((s.applyLaneSet b power rate loop).lane l).chk.phase = m.phase ∧
      (s.line.enabled.getLsbD 0 = true →
        (s.applyLaneSet b power rate loop).line.Announces (.lock l m.phase.state m.reason)) ∧
      ∀ f, m.reason.flag = some f → (s.applyLaneSet b power rate loop).flagSet l f = true := by
  have hnodup := s.nodup_settingsMoves b power rate loop
  have hmem := State.mem_settingsMoves hl hm
  rw [State.applyLaneSet_eq, ← s.withSettings_line b power rate loop]
  obtain rfl := settingsMove_lane hm
  exact ⟨congrArg Checker.phase (transition_chk hnodup hmem _), transition_announces_lock hnodup hmem,
    fun f hf => transition_flagSet hnodup hmem _ hf⟩

theorem laneSet_phase_kept (hl : l ∈ lanesOf b) (hm : s.settingsMoveOf power rate loop l = none) :
    ((s.applyLaneSet b power rate loop).lane l).chk.phase = (s.lane l).chk.phase :=
  congrArg Checker.phase (laneSet_kept hl hm).chk

/-! ### The generator (R18, R19, R29) -/

theorem laneSet_gen (hl : l ∈ lanesOf b) (hrun : (s.lane l).gen.run.isSome = (s.lane l).power.tx) {g : Generator}
    (hg : g = ((s.applyLaneSet b power rate loop).lane l).gen) :
    (power.tx = false → (s.lane l).power.tx = false → g = (s.lane l).gen) ∧
    (power.tx = false → (s.lane l).power.tx = true →
      g = { (s.lane l).gen with run := none, flight := .idle, mode := g.mode } ∧
      (∀ n, (s.lane l).gen.flight = .own n → g.mode = .none) ∧
      ((∀ n, (s.lane l).gen.flight ≠ .own n) → g.mode = (s.lane l).gen.mode)) ∧
    (power.tx = true → (s.lane l).power.tx = false → g = { (s.lane l).gen with
      run := some { source := startSource (s.lane l).gen.pattern, word := none, sent := [] } }) ∧
    (power.tx = true → (s.lane l).power.tx = true → (s.lane l).rate = rate → (s.lane l).loopback = loop →
      g = (s.lane l).gen) ∧
    (∀ run, (s.lane l).gen.run = some run → power.tx = true → (s.lane l).rate ≠ rate ∨ (s.lane l).loopback ≠ loop →
      g = { (s.lane l).gen with run := some { run with source := startSource (s.lane l).gen.pattern } }) := by
  obtain ⟨-, -, -, -, hgen, -⟩ := laneSet_settings (s := s) (power := power) (rate := rate) (loop := loop) hl
  rw [hgen] at hg
  subst hg
  refine ⟨LaneState.gen_of_off hrun, fun h hx => ?_, LaneState.gen_of_start, fun h hx hrate hloop => ?_,
    fun run hr h hre => ?_⟩
  · rw [LaneState.gen_of_stop h hx]
    exact ⟨rfl, Generator.stop_mode⟩
  · rw [LaneState.gen_of_on h hx, LaneState.reconfigures_eq_false hrate hloop]
    rfl
  · have hx : (s.lane l).power.tx = true := by rw [← hrun, hr]; rfl
    rw [LaneState.gen_of_on h hx, LaneState.reconfigures_iff.2 hre, if_pos rfl, Generator.reload, hr]
    rfl

/-! ### The history flags (R54) -/

/-- A history flag other than a miss or saturation changes only with a transition that sets it. -/
theorem laneSet_flagSet {f : HistoryFlag} (hmiss : f ≠ .captureMissed) (hsat : f ≠ .saturated)
    (hf : ∀ m, s.settingsMoveOf power rate loop l = some m → m.reason.flag ≠ some f) :
    (s.applyLaneSet b power rate loop).flagSet l f = s.flagSet l f := by
  refine (touches_laneSet s b power rate loop).flagSet hmiss ?_
  rintro ⟨-, h | ⟨m, hm, hflag⟩⟩
  · exact hsat h
  · exact hf m hm hflag

/-! ### The gate (R96, R97, R101) -/

/-- The gate stays unless its checker loses power, or its lock to a signal that went. -/
theorem laneSet_gate_kept (hl : l ∈ lanesOf b) (hrx : power.rx = true ∨ (s.lane l).power.rx = false)
    (hkeep : (s.lane l).gate.state ≠ .running ∨ (s.lane l).chkState ≠ .locked ∨
      ((s.lane l).applySettings power rate loop).signal = (s.lane l).signal ∨
      ((s.lane l).applySettings power rate loop).signal = true) :
    ((s.applyLaneSet b power rate loop).lane l).gate.state = (s.lane l).gate.state ∧
      ((s.applyLaneSet b power rate loop).lane l).gate.counts = (s.lane l).gate.counts ∧
      ((s.applyLaneSet b power rate loop).lane l).gate.result = (s.lane l).gate.result := by
  cases hm : s.settingsMoveOf power rate loop l with
  | none =>
    have hmissed := laneSet_kept hl hm
    exact ⟨hmissed.state, hmissed.counts, hmissed.result⟩
  | some m =>
    have hdecides (x : LaneState) : x.signalDecides.state ≠ .locked ∧ x.signalDecides.state ≠ .off ∧
        x.signalDecides.state ≠ .held := by
      rw [signalDecides_state]
      split
      · exact ⟨nofun, nofun, nofun⟩
      · exact ⟨nofun, nofun, nofun⟩
    have hmove : m.phase.state ≠ .locked ∧ m.phase.state ≠ .off ∧ ((s.lane l).gate.state ≠ .running ∨
        (m.phase.state ≠ .held ∧ ((s.lane l).chkState ≠ .locked ∨ ¬m.reason.loses))) := by
      rcases settingsMove_cases hm rfl with ⟨rfl, hx, hy⟩ | ⟨rfl, -⟩ | ⟨rfl, -⟩ | ⟨rfl, -⟩ | ⟨rfl, -, -, hne, hdown, -⟩
      · rcases hrx with h | h
        · rw [show power.rx = false from hy] at h
          cases h
        · rw [hx] at h
          cases h
      · obtain ⟨hlocked, hoff, hheld⟩ := hdecides ((s.lane l).applySettings power rate loop)
        exact ⟨hlocked, hoff, .inr ⟨hheld, .inr (by rintro (h | h | h) <;> cases h)⟩⟩
      · obtain ⟨hlocked, hoff, hheld⟩ := hdecides ((s.lane l).applySettings power rate loop)
        exact ⟨hlocked, hoff, .inr ⟨hheld, .inr (by rintro (h | h | h) <;> cases h)⟩⟩
      · exact ⟨nofun, nofun, .inr ⟨nofun, .inr (by rintro (h | h | h) <;> cases h)⟩⟩
      · refine ⟨nofun, nofun, ?_⟩
        rcases hkeep with hrun | hlocked | hsame | hup
        · exact .inl hrun
        · exact .inr ⟨nofun, .inl hlocked⟩
        · exact absurd hsame hne
        · rw [hdown] at hup
          cases hup
    obtain ⟨hlocked, hoff, hstay⟩ := hmove
    obtain rfl := settingsMove_lane hm
    rw [← s.withSettings_gate b power rate loop, ← s.withSettings_chkState b power rate loop] at hstay
    have h := transition_gate_kept (s.nodup_settingsMoves b power rate loop) (State.mem_settingsMoves hl hm) hlocked hoff hstay
    rwa [s.withSettings_gate b power rate loop] at h

/-- A lock lost to a signal that went is a lock loss of a RUNNING gate. -/
theorem laneSet_lossTaken (hl : l ∈ lanesOf b)
    (hm : s.settingsMoveOf power rate loop l = some { lane := l, phase := .noSignal, reason := .signal })
    (hlocked : (s.lane l).chkState = .locked) (hrun : (s.lane l).gate.state = .running) {cfg : GateSettings}
    (hcfg : (s.lane l).gate.settings = some cfg) :
    (s.applyLaneSet b power rate loop).LossTaken l (s.lane l).gate.counts cfg.policy s.uptime := by
  have h := lossTaken_transition (s := s.withSettings b power rate loop) (policy := cfg.policy)
    (s.nodup_settingsMoves b power rate loop) (State.mem_settingsMoves hl hm) nofun nofun
    (by rw [s.withSettings_gate b power rate loop]; exact hrun)
    (by rw [s.withSettings_chkState b power rate loop]; exact hlocked) (.inr (.inl rfl))
    (by rw [s.withSettings_gate b power rate loop, Gate.config_of hcfg]; rfl)
  rwa [s.withSettings_gate b power rate loop, s.withSettings_uptime b power rate loop] at h

/-- Receive power that goes ends an active gate. -/
theorem laneSet_gateEnded (hl : l ∈ lanesOf b)
    (hm : s.settingsMoveOf power rate loop l = some { lane := l, phase := .off, reason := .powerDown })
    (hactive : (s.lane l).gate.state.active = true) :
    (s.applyLaneSet b power rate loop).GateEnded l .laneOff s.uptime := by
  have h := gateEnded_transition (s := s.withSettings b power rate loop) (s.nodup_settingsMoves b power rate loop)
    (State.mem_settingsMoves hl hm) rfl (by rw [s.withSettings_gate b power rate loop]; exact hactive)
  rwa [s.withSettings_uptime b power rate loop] at h

/-- The exit from LOCKED of a lane named alone offers its LOCK_LOST candidate (R146, R147). -/
theorem laneSet_offered (hb : b = 1#8 <<< l.val) (hm : s.settingsMoveOf power rate loop l = some m)
    (hne : m.phase.state ≠ .locked) (hlocked : (s.lane l).chkState = .locked) (hrun : (s.lane l).gate.state = .running)
    (hraises : s.log.lanes[l].RaisesLock) :
    s.Offered (s.applyLaneSet b power rate loop) l (s.lockCandidateNow l (.lockLost m.phase.state m.reason)) := by
  obtain rfl := settingsMove_lane hm
  have hmoves : s.settingsMoves b power rate loop = [m] := by
    rw [State.settingsMoves, hb, lanesOf_shiftLeft, List.filterMap_cons_some hm, List.filterMap_nil]
  have hcand (body : CandidateBody) : (s.withSettings b power rate loop).lockCandidateNow m.lane body =
      s.lockCandidateNow m.lane body := by
    rw [State.lockCandidateNow, s.withSettings_gate b power rate loop, State.lockCandidateNow]
  have h := offered_transition_one (s := s.withSettings b power rate loop) hne
    (by rw [s.withSettings_chkState b power rate loop]; exact hlocked)
    (by rw [s.withSettings_gate b power rate loop]; exact hrun)
    (by rw [s.withSettings_log b power rate loop]; exact hraises)
  rw [State.applyLaneSet_eq, hmoves]
  rw [hcand] at h
  refine h.congr (s.withSettings_log b power rate loop) ?_ rfl id (.refl _)
  rw [s.withSettings_line b power rate loop]
  exact .refl _

end

end Sys2Proof.Machine
/-! LANE_SET (O20): the margin unit, the request and its refusals, and the statement. -/

namespace Sys2Proof.Machine

/-! ### The margin unit meets the transitions in ascending lane order (R142, log 25) -/

/-- The margin unit meets transitions lane by lane; one that leaves the checker's state is none to it. -/
theorem marginFold_filterMap {f : Lane → Option Move} {left entered : Lane → CheckerState} {ls : List Lane} {w v : State}
    (hwv : w.margin = v.margin) (hnone : ∀ l ∈ ls, f l = none → entered l = left l)
    (hsome : ∀ l ∈ ls, ∀ m, f l = some m → m.lane = l ∧ m.phase.state = entered l ∧
      (entered l = left l → left l ≠ .locked ∧ left l ≠ .off ∧ left l ≠ .held)) :
    ((ls.filterMap f).foldl (fun u m => u.marginTransition m.lane (left m.lane) m.phase.state) w).margin =
      ((ls.filter fun l => entered l != left l).foldl (fun u l => u.marginTransition l (left l) (entered l)) v).margin := by
  induction ls generalizing w v with
  | nil => exact hwv
  | cons l ls ih =>
    replace ih {w v : State} (hwv : w.margin = v.margin) := ih hwv (fun k hk => hnone k (List.mem_cons_of_mem _ hk))
      fun k hk => hsome k (List.mem_cons_of_mem _ hk)
    rw [List.filter_cons]
    cases hf : f l with
    | none =>
      have hsame : ¬(entered l != left l) = true := by
        rw [hnone l (List.mem_cons_self ..) hf, bne_self_eq_false]
        exact Bool.false_ne_true
      rw [List.filterMap_cons_none hf, if_neg hsame]
      exact ih hwv
    | some m =>
      obtain ⟨hlane, hentered, hidle⟩ := hsome l (List.mem_cons_self ..) m hf
      rw [List.filterMap_cons_some hf, List.foldl_cons, hlane, hentered]
      by_cases hsame : entered l = left l
      · obtain ⟨hlocked, hoff, hheld⟩ := hidle hsame
        rw [if_neg (by rw [hsame, bne_self_eq_false]; exact Bool.false_ne_true), hsame,
          State.marginTransition_idle hlocked hlocked hoff hheld]
        exact ih hwv
      · rw [if_pos (bne_iff_ne.2 hsame), List.foldl_cons]
        exact ih (marginTransition_margin_congr hwv ..)

section
variable {s : State} {b : LaneSet} {power : LanePower} {rate : Fin 4} {loop : Bool} {l : Lane} {m : Move}

/-- A transition of LANE_SET that leaves its checker's state is a reconfigured HUNT. -/
theorem settingsMoveOf_idle (hoff : (s.lane l).chkState = .off ↔ (s.lane l).power.rx = false)
    (hm : s.settingsMoveOf power rate loop l = some m) (hsame : m.phase.state = (s.lane l).chkState) :
    (s.lane l).chkState ≠ .locked ∧ (s.lane l).chkState ≠ .off ∧ (s.lane l).chkState ≠ .held := by
  have hdecides {x : LaneState} (h : x.signalDecides.state = (s.lane l).chkState) :
      (s.lane l).chkState ≠ .locked ∧ (s.lane l).chkState ≠ .off ∧ (s.lane l).chkState ≠ .held := by
    rw [← h, signalDecides_state]
    split
    · exact ⟨nofun, nofun, nofun⟩
    · exact ⟨nofun, nofun, nofun⟩
  rcases settingsMove_cases hm rfl with ⟨rfl, hx, -⟩ | ⟨rfl, -⟩ | ⟨rfl, -⟩ | ⟨rfl, -⟩ | ⟨rfl, -⟩
  · rw [hoff.1 hsame.symm] at hx
    cases hx
  · exact hdecides hsame
  · exact hdecides hsame
  · rw [← hsame]
    exact ⟨nofun, nofun, nofun⟩
  · rw [← hsame]
    exact ⟨nofun, nofun, nofun⟩

theorem laneSet_margin (hoff : ∀ l ∈ lanesOf b, ((s.lane l).chkState = .off ↔ (s.lane l).power.rx = false)) :
    (s.applyLaneSet b power rate loop).margin = s.marginAfter (s.applyLaneSet b power rate loop) b := by
  rw [State.applyLaneSet_eq, transition_margin (s.nodup_settingsMoves b power rate loop), ← State.applyLaneSet_eq]
  simp only [s.withSettings_chkState b power rate loop]
  refine marginFold_filterMap (left := fun l => (s.lane l).chkState)
    (entered := fun l => ((s.applyLaneSet b power rate loop).lane l).chkState) (s.withSettings_margin b power rate loop)
    (fun l hl hnone => congrArg Phase.state (laneSet_phase_kept hl hnone)) fun l hl m hm => ?_
  have hphase : ((s.applyLaneSet b power rate loop).lane l).chkState = m.phase.state :=
    congrArg Phase.state (laneSet_moved hl hm).1
  exact ⟨settingsMove_lane hm, hphase.symm, fun hsame => settingsMoveOf_idle (hoff l hl) hm (hphase.symm.trans hsame)⟩

/-! ### The request and its reply (R17) -/

/-- A named lane has an active gate that the settings would reconfigure. -/
def State.gateBlocks (s : State) (b : LaneSet) (rate : Fin 4) (loop : Bool) : Bool :=
  (lanesOf b).any fun l => (s.lane l).gate.state.active && (s.lane l).reconfigures rate loop

theorem State.gateBlocks_iff : s.gateBlocks b rate loop = true ↔
    ∃ l : Lane, b.getLsbD l.val = true ∧ (s.lane l).gate.state.active = true ∧
      ((s.lane l).rate ≠ rate ∨ (s.lane l).loopback ≠ loop) := by
  simp only [State.gateBlocks, List.any_eq_true, mem_lanesOf, Bool.and_eq_true, LaneState.reconfigures_iff]

theorem natOf_rate : ∀ rate : Fin 4, natOf [BitVec.ofNat 8 rate.val] = rate.val := by decide

theorem laneSetAct_of (hb : s.MayName b) : laneSetAct (laneSetBody b power rate loop) s =
    if s.gateBlocks b rate loop then (s, refuse .gateBusy)
    else (s.applyLaneSet b power rate loop, {
      status := .ok
      fields := .laneSet ((lanesOf b).map (s.applyLaneSet b power rate loop).laneSetRow) }) := by
  have hpower : LanePower.ofCode (field (laneSetBody b power rate loop) 1 1) = some power := by cases power <;> rfl
  have hloop : switchOf (field (laneSetBody b power rate loop) 3 1) = some loop := switchOf_switchCode loop
  have hrate : field (laneSetBody b power rate loop) 2 1 = rate.val := natOf_rate rate
  have hlt : field (laneSetBody b power rate loop) 2 1 < 4 := hrate ▸ rate.isLt
  have hrate' : (⟨field (laneSetBody b power rate loop) 2 1, hlt⟩ : Fin 4) = rate := Fin.ext hrate
  refine (if_neg (Bool.eq_false_iff.1 hb.namesAbsent)).trans ((if_neg hb.1).trans ?_)
  rw [hpower, hloop]
  refine (dif_pos hlt).trans ?_
  rw [hrate']
  rfl

/-- The reply's account of a named lane. -/
theorem laneSet_row (hl : l ∈ lanesOf b) (hrun : (s.lane l).gen.run.isSome = (s.lane l).power.tx) :
    (s.applyLaneSet b power rate loop).laneSetRow l =
      { lane := l, power := power, rate := rate, loopback := loop, gen := if power.tx then .running else .off,
        checker := ((s.applyLaneSet b power rate loop).lane l).chkState } := by
  obtain ⟨hpower, hrate, hloop, -, hgen, -⟩ := laneSet_settings (s := s) (power := power) (rate := rate) (loop := loop) hl
  have hstate := LaneState.gen_state (power := power) (rate := rate) (loop := loop) hrun
  rw [← hgen] at hstate
  rw [State.laneSetRow, hpower, hrate, hloop, hstate]
  rfl

/-! ### The checker of a named lane (R31, R35, R36, R43, R53, R54) -/

theorem laneSet_signal (hl : l ∈ lanesOf b) : ((s.applyLaneSet b power rate loop).lane l).signal =
    ((s.lane l).applySettings power rate loop).signal := by
  obtain ⟨-, -, hloop, hsd, hgen, -⟩ := laneSet_settings (s := s) (power := power) (rate := rate) (loop := loop) hl
  rw [LaneState.signal, hloop, hsd, hgen, LaneState.signal]

/-- What a checker that the signal decides enters, by the signal after LANE_SET. -/
theorem laneSet_decided {r : Reason} (hl : l ∈ lanesOf b) (hm : s.settingsMoveOf power rate loop l =
      some { lane := l, phase := ((s.lane l).applySettings power rate loop).signalDecides, reason := r }) :
    ((s.applyLaneSet b power rate loop).lane l).chk.phase =
        (if ((s.applyLaneSet b power rate loop).lane l).signal then .hunt 0 0 else .noSignal) ∧
      (s.line.enabled.getLsbD 0 = true → (s.applyLaneSet b power rate loop).line.Announces
        (.lock l ((s.applyLaneSet b power rate loop).lane l).chkState r)) := by
  obtain ⟨hphase, hlock, -⟩ := laneSet_moved hl hm
  rw [LaneState.chkState, hphase, laneSet_signal hl]
  exact ⟨rfl, hlock⟩

theorem phase_of_noSignal {p : Phase} (h : p.state = .noSignal) : p = .noSignal := by
  cases p with
  | noSignal => rfl
  | _ => cases h

/-- A reconfigured checker: one in NO_SIGNAL without a signal makes no transition. -/
theorem laneSet_reconfigured (hl : l ∈ lanesOf b) (hrx : power.rx = (s.lane l).power.rx) (hoff : (s.lane l).chkState ≠ .off)
    (hheld : (s.lane l).chkState ≠ .held) (hre : (s.lane l).rate ≠ rate ∨ (s.lane l).loopback ≠ loop) :
    ((s.applyLaneSet b power rate loop).lane l).chk.phase =
        (if ((s.applyLaneSet b power rate loop).lane l).signal then .hunt 0 0 else .noSignal) ∧
      ((s.lane l).chkState ≠ .noSignal ∨ ((s.applyLaneSet b power rate loop).lane l).signal = true →
        s.line.enabled.getLsbD 0 = true → (s.applyLaneSet b power rate loop).line.Announces
          (.lock l ((s.applyLaneSet b power rate loop).lane l).chkState .reconfigured)) := by
  have hmove : s.settingsMoveOf power rate loop l = _ :=
    settingsMove_reconfigured (y := (s.lane l).applySettings power rate loop) hrx hoff hheld (LaneState.reconfigures_iff.2 hre)
  by_cases hquiet : (s.lane l).chkState = .noSignal ∧ ((s.lane l).applySettings power rate loop).signal = false
  · rw [if_pos hquiet] at hmove
    rw [laneSet_phase_kept hl hmove, laneSet_signal hl, hquiet.2]
    refine ⟨phase_of_noSignal hquiet.1, fun h => ?_⟩
    rcases h with h | h
    · exact absurd hquiet.1 h
    · cases h
  · rw [if_neg hquiet] at hmove
    obtain ⟨hphase, hlock⟩ := laneSet_decided hl hmove
    exact ⟨hphase, fun _ => hlock⟩

/-- A signal that came takes a checker in NO_SIGNAL to a fresh HUNT. -/
theorem laneSet_signalUp (hl : l ∈ lanesOf b) (hrx : power.rx = (s.lane l).power.rx) (hrate : (s.lane l).rate = rate)
    (hloop : (s.lane l).loopback = loop)
    (hne : ((s.applyLaneSet b power rate loop).lane l).signal ≠ (s.lane l).signal)
    (hup : ((s.applyLaneSet b power rate loop).lane l).signal = true) (hc : (s.lane l).chkState = .noSignal) :
    ((s.applyLaneSet b power rate loop).lane l).chk.phase = .hunt 0 0 ∧
      (s.line.enabled.getLsbD 0 = true → (s.applyLaneSet b power rate loop).line.Announces (.lock l .hunt .signalUp)) := by
  rw [laneSet_signal hl] at hne hup
  obtain ⟨hphase, hlock, -⟩ := laneSet_moved (power := power) (rate := rate) (loop := loop) hl
    (settingsMove_signalUp hrx (LaneState.reconfigures_eq_false hrate hloop) hne hup hc rfl)
  exact ⟨hphase, hlock⟩

theorem settingsMoveOf_signalDown (hl : l ∈ lanesOf b) (hrx : power.rx = (s.lane l).power.rx) (hrate : (s.lane l).rate = rate)
    (hloop : (s.lane l).loopback = loop)
    (hne : ((s.applyLaneSet b power rate loop).lane l).signal ≠ (s.lane l).signal)
    (hdown : ((s.applyLaneSet b power rate loop).lane l).signal = false) (hc : (s.lane l).chkState.listening = true) :
    s.settingsMoveOf power rate loop l = some { lane := l, phase := .noSignal, reason := .signal } := by
  rw [laneSet_signal hl] at hne hdown
  exact settingsMove_signalDown hrx (LaneState.reconfigures_eq_false hrate hloop) hne hdown hc rfl

/-- LOS_SEEN is set by a signal that went from a checker that listens, and by no other effect of LANE_SET. -/
theorem laneSet_losSeen (hl : l ∈ lanesOf b) (h : power.rx ≠ (s.lane l).power.rx ∨ (s.lane l).rate ≠ rate ∨
      (s.lane l).loopback ≠ loop ∨ ((s.applyLaneSet b power rate loop).lane l).signal = (s.lane l).signal ∨
      ((s.applyLaneSet b power rate loop).lane l).signal = true ∨ (s.lane l).chkState.listening = false) :
    (s.applyLaneSet b power rate loop).flagSet l .losSeen = s.flagSet l .losSeen := by
  rw [laneSet_signal hl] at h
  refine laneSet_flagSet nofun nofun fun m hm hflag => ?_
  rcases settingsMove_cases hm rfl with ⟨rfl, -⟩ | ⟨rfl, -⟩ | ⟨rfl, -⟩ | ⟨rfl, -⟩ | ⟨rfl, hrx, hre, hne, hdown, hlisten⟩
  · cases hflag
  · cases hflag
  · cases hflag
  · cases hflag
  · have hsame : ¬((s.lane l).rate ≠ rate ∨ (s.lane l).loopback ≠ loop) := fun h =>
      Bool.eq_false_iff.1 hre (LaneState.reconfigures_iff.2 h)
    rcases h with h | h | h | h | h | h
    · exact h hrx
    · exact hsame (.inl h)
    · exact hsame (.inr h)
    · exact hne h
    · rw [hdown] at h
      cases h
    · rw [hlisten] at h
      cases h

/-- The other flags stay but for misses and saturation. -/
theorem laneSet_otherFlags {f : HistoryFlag} (hlos : f ≠ .losSeen) (hmiss : f ≠ .captureMissed) (hsat : f ≠ .saturated) :
    (s.applyLaneSet b power rate loop).flagSet l f = s.flagSet l f :=
  laneSet_flagSet hmiss hsat fun _ hm hflag => hlos (settingsMove_flag hm hflag)

end

/-- Settles O20. -/
theorem laneSetAppliesSettings : Obligations.LaneSetAppliesSettings := by
  intro s tag b power rate loop ht
  refine ⟨fun habsent => ?_, fun hempty => ?_, fun hb hbusy => ?_, fun hb hidle hgens => ?_⟩
  · exact exec_own rfl rfl ht rfl (if_pos (State.namesAbsent_of_absent (s := s.popRequest) habsent))
  · have hnone : s.popRequest.namesAbsent b = false := (s.popRequest.namesAbsent_eq_false_iff b).2 fun l hl => by
      rw [hempty, show (0 : LaneSet) = 0#8 from rfl, BitVec.getLsbD_zero] at hl
      cases hl
    exact exec_own rfl rfl ht rfl ((if_neg (Bool.eq_false_iff.1 hnone)).trans (if_pos hempty))
  · refine exec_own rfl rfl ht rfl ((laneSetAct_of (s := s.popRequest) hb).trans (if_pos ?_))
    exact (State.gateBlocks_iff (s := s.popRequest)).2 hbusy
  have hfree : ¬s.popRequest.gateBlocks b rate loop = true := by
    rw [State.gateBlocks_iff]
    rintro ⟨l, hl, hactive, hre⟩
    obtain ⟨hrate, hloop⟩ := hidle l hl hactive
    exact hre.elim (fun h => h hrate) fun h => h hloop
  have hexec := exec_own (i := .laneSet (own tag (laneSetBody b power rate loop))) rfl rfl ht rfl
    ((laneSetAct_of (s := s.popRequest) hb).trans (if_neg hfree))
  obtain ⟨rows, hrows⟩ : ∃ rows : List LaneSetRow, rows = (lanesOf b).map fun l =>
      { lane := l, power := power, rate := rate, loopback := loop, gen := if power.tx then .running else .off,
        checker := ((s.popRequest.applyLaneSet b power rate loop).lane l).chkState } := ⟨_, rfl⟩
  have hreply : (lanesOf b).map (s.popRequest.applyLaneSet b power rate loop).laneSetRow = rows :=
    (List.map_congr_left fun l hl => laneSet_row (s := s.popRequest) hl (hgens l)).trans hrows.symm
  rw [hreply] at hexec
  have htouch := touches_applyLaneSet b power rate loop s.popRequest
  have hshows := State.shows_replied 0x10 tag .ok (.laneSet rows) (s.popRequest.applyLaneSet b power rate loop)
  refine ⟨_, hexec, ((sameBase_popRequest s).trans htouch.sameBase).trans (sameBase_replied ..),
    htouch.otherLanesKept.of_mem.shows hshows, ⟨rows, ?_, ?_⟩, fun hoff => ?_, fun l hl => ?_⟩
  · rw [State.replied_replies, htouch.queued.replies]
    rfl
  · simp only [hshows.lane]
    exact hrows
  · have hmargin := laneSet_margin (s := s.popRequest) (b := b) (power := power) (rate := rate) (loop := loop)
      fun l hl => hoff l ((mem_lanesOf b l).1 hl)
    refine (hshows.margin.trans hmargin).trans ?_
    unfold State.marginAfter
    simp only [hshows.lane]
    exact marginFold_congr (u := s.popRequest) (w := s) rfl (fun l => (s.lane l).chkState)
      (fun l => ((s.popRequest.applyLaneSet b power rate loop).lane l).chkState) _
  · have hl' := (mem_lanesOf b l).2 hl
    have hsettings := laneSet_settings (s := s.popRequest) (power := power) (rate := rate) (loop := loop) hl'
    obtain ⟨hpower, hrate, hloop, hsd, -, hconfig⟩ := hsettings
    obtain ⟨hgenOff, hgenStop, hgenStart, hgenKept, hgenReload⟩ := laneSet_gen (s := s.popRequest) (power := power)
      (rate := rate) (loop := loop) hl' (hgens l) rfl
    simp only [hshows.lane, hshows.announces, hshows.flagSet]
    refine ⟨hpower, hrate, hloop, hsd, hconfig, hgenOff, hgenStop, hgenStart, hgenKept, hgenReload,
      fun hdown hx => ?_, fun hup hx => ?_, fun hrx hrest => ?_, fun hrx hoff hheld hre => ?_, fun hrx hrate hloop hsame => ?_,
      fun hrx hrate hloop hne => ⟨fun hup hc => ?_, fun hdown hc => ?_⟩, fun f hlos hmiss hsat => ?_, fun h => ?_,
      fun hrx hkeep => ?_, fun hdown hx hactive => ?_⟩
    · obtain ⟨hphase, hlock, -⟩ := laneSet_moved (s := s.popRequest) (rate := rate) (loop := loop) hl'
        (settingsMove_powerDown hx hdown)
      exact ⟨hphase, hlock⟩
    · exact laneSet_decided (s := s.popRequest) hl' (settingsMove_powerUp hx hup)
    · exact laneSet_phase_kept (s := s.popRequest) hl' (settingsMove_resting hrx hrest)
    · exact laneSet_reconfigured (s := s.popRequest) hl' hrx hoff hheld hre
    · rw [laneSet_signal (s := s.popRequest) hl'] at hsame
      exact laneSet_phase_kept (s := s.popRequest) hl'
        (settingsMove_same hrx (LaneState.reconfigures_eq_false hrate hloop) hsame)
    · exact laneSet_signalUp (s := s.popRequest) hl' hrx hrate hloop hne hup hc
    · have hmove := settingsMoveOf_signalDown (s := s.popRequest) hl' hrx hrate hloop hne hdown hc
      obtain ⟨hphase, hlock, hflag⟩ := laneSet_moved (s := s.popRequest) hl' hmove
      refine ⟨hphase, hflag .losSeen rfl, hlock, fun hlocked hrun => ⟨fun cfg hcfg => ?_, fun hone hraises => ?_⟩⟩
      · exact (laneSet_lossTaken (s := s.popRequest) hl' hmove hlocked hrun hcfg).shows hshows
      · exact (laneSet_offered (s := s.popRequest) hone hmove nofun hlocked hrun hraises).shows hshows
    · exact laneSet_otherFlags (s := s.popRequest) hlos hmiss hsat
    · exact laneSet_losSeen (s := s.popRequest) hl' h
    · rw [laneSet_signal (s := s.popRequest) hl'] at hkeep
      exact laneSet_gate_kept (s := s.popRequest) hl' hrx hkeep
    · have hmove : s.popRequest.settingsMoveOf power rate loop l = _ := settingsMove_powerDown hx hdown
      refine ⟨(laneSet_gateEnded (s := s.popRequest) hl' hmove hactive).shows hshows, fun hone hlocked hrun hraises => ?_⟩
      exact (laneSet_offered (s := s.popRequest) hone hmove nofun hlocked hrun hraises).shows hshows

end Sys2Proof.Machine
